-- ==== Sys2Proof/Word.lean ====
section
/-! DEFINITION. The word types of the HZ-3B model: bytes, text and timestamps.

Everything that a rule computes (roundings, clamps, byte order, checks) stands in
`Sys2Proof/Machine/Operands.lean`. -/

namespace Sys2Proof

/-- A byte of the ship link or of the terminal link. -/
abbrev Byte := BitVec 8

/-- Text kept from an order line or from a vessel announcement. -/
abbrev Text := List Char

/-- A reading of the 32-bit timestamp counter. Differences are taken modulo 2^32. -/
abbrev Timestamp := BitVec 32

/-- A timer of the part: `none` while it is stopped, `some r` while it runs with `r` timestamp ticks left. -/
abbrev Timer := Option Nat

end Sys2Proof
end

