-- ==== Sys2Proof/Config.lean ====
section
/-! DEFINITION. The constants of the HZ-3B and the one value the manual leaves open. -/

namespace Sys2Proof.Config

/-- The quotient of a division whose divisor is 0. The manual divides by a measured period, by a count of
samples and by a voltage, and says of none of them what a 0 gives; no value is chosen here (log entry 3). -/
opaque quotientByZero : Int → Int

/-- Timestamp ticks in one millisecond: the counter runs at 9.6 MHz (00_scope). -/
def ticksPerMs : Nat := 9600

/-- Timestamp ticks in one second. -/
def ticksPerSecond : Nat := 9600000

/-- One sample set, and one reference update, falls every 1,000 timestamp ticks (R68, R84). -/
def samplePeriod : Nat := 1000

/-- One control step falls every 10 ms (R70). -/
def controlPeriod : Nat := 96000

/-- One metering tick falls every 960,000 timestamp ticks (R153). -/
def meteringPeriod : Nat := 960000

/-- The billing log holds at most 2,048 records (R171). -/
def logCapacity : Nat := 2048

/-- The closed-session queue holds at most 8 records (R180). -/
def closedCapacity : Nat := 8

/-- The receive FIFO of a ship link holds at most 8 frames (R121). -/
def fifoCapacity : Nat := 8

/-- The transmit queue of a ship link holds at most 4 frames (R125). -/
def transmitCapacity : Nat := 4

/-- The input queue of the terminal link holds at most 4 lines (R184). -/
def inputCapacity : Nat := 4

/-- The error queue holds at most 16 entries (R197). -/
def errorCapacity : Nat := 16

/-- An order line holds at most 128 characters (R183). -/
def lineCapacity : Nat := 128

/-- The largest 32-bit number: session numbers, sequences and the energy fields of a session end here. -/
def max32 : Nat := 4294967295

/-- The largest 64-bit number: the charge accumulators and the total charge hold here. -/
def max64 : Nat := 18446744073709551615

end Sys2Proof.Config
end

