-- ==== Sys2Proof/Syntax.lean ====
section
/-! DEFINITION. The commands of the HZ-3B: one constructor of `Instr` for each row of the table of
operations and events, and the operands the commands carry.

An operand that an order takes from a fixed list (an outlet letter, a group, a condition name, a profile
field) is an `Option`: `none` stands for a word that is not in the list, which the order's check refuses
with 120 (R185). -/

namespace Sys2Proof

/-- The three outlets. -/
inductive OutletId | a | b | c
  deriving DecidableEq, Repr

/-- The interlock inputs of one outlet (section 2.1). -/
inductive Interlock | plug | pilot | earth | estop
  deriving DecidableEq, Repr

/-- An interlock input of the part: one of an outlet's four, or the station stop. -/
inductive InterlockInput
  | ofOutlet (o : OutletId) (i : Interlock)
  | estopAll
  deriving DecidableEq, Repr

/-- The seven measurement channels (chapter 5). -/
inductive ChannelId
  | cable (o : OutletId)
  | ship (o : OutletId)
  | grid
  deriving DecidableEq, Repr

/-- The groups of the status unit (chapter 12). -/
inductive Group | part | outlet (o : OutletId)
  deriving DecidableEq, Repr

/-- The names of the status unit, in the order of the two tables of section 12.1: conditions, then events. -/
inductive Item
  | estopAll | moduleFaulted | budgetOver | gridOver | clockUnset | tariffPending
  | logAlmostFull | logFull | closedWaiting | closedFull | errorQueued
  | estop | tripped | sbStuck | pbStuck | held | capacityShort | linkUp | linkOverrun
  | overloadPending | merging
  | tariffSwitched
  | topupExpired | stateChanged
  | pbClosed | closeFailed | syncFailed | syncTimeout | lateClose
  | syncAborted | syncLinkLost | transferComplete | transferAborted | transferIncomplete
  | returnIncomplete | transferLinkLost | overloadSeparation | returnRequested | returnStarted
  | separated | pbOpened
  deriving DecidableEq, Repr

/-- A transition filter (R193). -/
inductive Filter | rise | fall | both
  deriving DecidableEq, Repr

/-- The twenty-one fields of a profile, in the order of the table of R189. -/
inductive ProfileField
  | nomFreq | nomVolt | vTol | softStart | fSlew | vSlew | slipMin | slipTarget | slipMax
  | cWindow | vMatch | vOffset | closeTime | syncTimeout | ramp | trimGain | parTime
  | release | ovLevel | ovTime | linkTimeout
  deriving DecidableEq, Repr

/-- The window argument of TARIFF BAND (R165). -/
inductive WindowArg
  | keep
  | minutes (start stop : Nat)
  | off
  deriving DecidableEq, Repr

/-- The samples one outlet's two channels take from a sample set (section 5.1). -/
structure OutletSamples where
  uab : BitVec 16
  ubc : BitVec 16
  ia : BitVec 16
  ic : BitVec 16
  ship : BitVec 16
  deriving DecidableEq, Repr

/-- A sample set: the samples of the seven channels. Every figure is in two's complement. -/
structure SampleSet where
  a : OutletSamples
  b : OutletSamples
  c : OutletSamples
  gridVoltage : BitVec 16
  gridPower : BitVec 18
  deriving DecidableEq, Repr

/-- A character as the receiver of a line takes it: its byte, and whether its stop bit was sampled at space. -/
structure Received where
  byte : Byte
  framingError : Bool
  deriving DecidableEq, Repr

/-- A frame as the delimiter hands it to the check: its bytes after the start byte. -/
structure RawFrame where
  length : Byte
  type : Byte
  payload : List Byte
  crc : BitVec 16
  deriving DecidableEq, Repr

/-- The commands of the part: one constructor for each row of the table. An order is the event at which the
interpreter takes its line and hands it to its owner; a frame command is the frame service that takes that
frame from the outlet's receive FIFO. -/
inductive Instr
  -- power and reset
  | powerOn
  | rstAsserted
  | startUpComplete
  -- the terminal link
  | tlLineEnd
  | replySent
  -- orders
  | time (year month day hour minute second : Nat)
  | timeQuery
  | grid (kW : Nat)
  | gridQuery
  | admitVessel (letter : Option OutletId) (profile : Option Nat) (kW : Nat) (vessel account : Option Text)
  | endSession (letter : Option OutletId)
  | endForce (letter : Option OutletId)
  | resume (letter : Option OutletId)
  | capacity (letter : Option OutletId) (kW : Nat)
  | shipback (letter : Option OutletId)
  | outletQuery (letter : Option OutletId)
  | sessionQuery (letter : Option OutletId)
  | measQuery (letter : Option OutletId)
  | moduleService (n : Nat)
  | moduleReturn (n : Nat)
  | moduleQuery (n : Nat)
  | signature (n sig rating : Nat)
  | profileSet (n : Nat) (field : Option ProfileField) (value : Nat)
  | profileDefault (n : Nat)
  | profileQuery (n : Nat)
  | tariffBand (band price : Nat) (window : WindowArg)
  | tariffDemand (price : Nat)
  | tariffInterval (minutes : Nat)
  | tariffSchedule
  | tariffDiscard
  | tariffQuery
  | logWindow (first last : Nat)
  | logRead
  | logQuery
  | logRelease (seq : Nat)
  | logThreshold (n : Nat)
  | closedRead
  | closedRelease
  | linkTest (letter : Option OutletId)
  | linkTestResult (o : OutletId) (returned : List Received)
  | linkQuery (letter : Option OutletId)
  | linkClear (letter : Option OutletId)
  | statusQuery
  | eventsQuery (group : Option Group)
  | filter (name : Option Item) (f : Filter)
  | enable (group : Option Group) (names : List (Option Item))
  | attn (groups : List (Option Group))
  | errQuery
  | cls
  | reset
  -- interlocks and breakers
  | interlockChange (input : InterlockInput) (made : Bool)
  | sbFeedbackCloses (o : OutletId)
  | sbFeedbackOpens (o : OutletId)
  | pbFeedbackCloses (o : OutletId)
  | pbFeedbackOpens (o : OutletId)
  | sbCloseTimerExpiry (o : OutletId)
  | sbOpenTimerExpiry (o : OutletId)
  | pbCloseTimerExpiry (o : OutletId)
  | pbTripTimerExpiry (o : OutletId)
  -- outlet timers
  | closeFeedbackTimerExpiry (o : OutletId)
  | syncTimerExpiry (o : OutletId)
  | energiseTimerExpiry (o : OutletId)
  | parallelTimerExpiry (o : OutletId)
  | overloadTimerExpiry (o : OutletId)
  -- modules
  | moduleCharged (m : Fin 8)
  | moduleResult (m : Fin 8) (pass : Bool) (sig : BitVec 32)
  | moduleFault (m : Fin 8) (code : Byte)
  | moduleAnswer (m : Fin 8)
  | moduleSilent (m : Fin 8)
  | prechargeTimerExpiry (m : Fin 8)
  | selfTestTimerExpiry (m : Fin 8)
  | drainTimerExpiry (m : Fin 8)
  | restTimeExpiry (m : Fin 8)
  | grantWaitExpiry (o : OutletId)
  -- periodic events and measurement
  | referenceUpdate
  | controlStep
  | sampleSet (samples : SampleSet)
  | lossTimerExpiry (ch : ChannelId)
  | gridOverTimerExpiry
  | meteringTick
  -- the ship link
  | shipCharacter (o : OutletId) (ch : Received)
  | frameGapTimeout (o : OutletId)
  | lineBreak (o : OutletId)
  | frameComplete (o : OutletId) (frame : RawFrame)
  | hello (o : OutletId)
  | status (o : OutletId)
  | parallelRequest (o : OutletId)
  | generatorsOff (o : OutletId)
  | returnRequest (o : OutletId)
  | generatorsOn (o : OutletId)
  | abort (o : OutletId)
  | bye (o : OutletId)
  | shoreFrameSent (o : OutletId)
  | watchdogExpiry (o : OutletId)
  | statusTimerExpiry (o : OutletId)
  -- the terminal link's receiver, and the supply
  | tlCharacter (ch : Received)
  | rstReleased
  | powerLoss
  deriving DecidableEq, Repr

end Sys2Proof
end

