-- ==== Sys2Proof/Decode.lean ====
section
/-! DEFINITION. The part's commands have no binary encoding: no row of the table of operations gives bits
(log entry 1), so no word spells a command. -/

namespace Sys2Proof

/-- The command a word spells by the table's bits. The table gives no row any bits. -/
def decodeTableWord (_nbits _w : Nat) : Option Instr := none

end Sys2Proof
end

