-- ==== Sys2Proof/Machine/State.lean ====
section
/-! DEFINITION. The state of the HZ-3B as plain data: every register, timer, queue, buffer, counter, mark and
record of chapters 1 to 12, the retained store among them, and the value each takes at reset.

A field the retained store keeps has one home (log entry 31): the part writes it at the event that changes it
(R5), so the working copy and the retained copy never differ between events. -/

namespace Sys2Proof.Machine

/-- One value for each outlet. -/
structure PerOutlet (α : Type) where
  a : α
  b : α
  c : α
  deriving DecidableEq, Repr

/-- The value of one outlet. -/
def PerOutlet.get {α : Type} (p : PerOutlet α) : OutletId → α
  | .a => p.a
  | .b => p.b
  | .c => p.c

/-- Replaces the value of one outlet. -/
def PerOutlet.set {α : Type} (p : PerOutlet α) (o : OutletId) (x : α) : PerOutlet α :=
  match o with
  | .a => { p with a := x }
  | .b => { p with b := x }
  | .c => { p with c := x }

/-- Four energies, one for each tariff band, in Wh. -/
structure Bands where
  b0 : Nat
  b1 : Nat
  b2 : Nat
  b3 : Nat
  deriving DecidableEq, Repr

/-- The reason for a fault. -/
inductive Fault
  /-- Raised by FRAME_COMPLETE, TL_CHARACTER, MODULE_FAULT and LINKTEST_RESULT when the command is not well
  formed (`Instr.wellFormed`): it names an event that the part's own line rules rule out. Safe: the machine
  stops where the hardware could not have been. -/
  | notAnEvent
  deriving DecidableEq, Repr

/-- The reason for a refusal. -/
inductive Refusal
  /-- A command that has no meaning yet. No arm of `exec` answers it: every command has its meaning. Safe. -/
  | notModelled (mnemonic : String)
  deriving DecidableEq, Repr

/-! ### Power and start-up -/

/-- Where the part stands between loss of power and normal running (R43, R66, R192). -/
inductive Phase | off | inReset | startingUp | running
  deriving DecidableEq, Repr

/-- What the status unit compares with when start-up completes (R198): nothing after power-on or RST#, the
outlets' state codes before the reset after the RESET order. -/
inductive Restart
  | cold
  | order (codes : PerOutlet Nat)
  deriving DecidableEq, Repr

/-- The ticks left until each periodic event falls due. -/
structure Due where
  sample : Nat
  reference : Nat
  control : Nat
  metering : Nat
  deriving DecidableEq, Repr

/-! ### Chapter 1: outlets and sessions -/

/-- The outlet states, in the order of their codes 0 to 13. -/
inductive OutletState
  | vacant | cabled | announced | admitted | energising | cableLive | synchronising
  | transferIn | shoreSupply | transferOut | separating | deEnergising | tripped | held
  deriving DecidableEq, Repr

/-- The phases of ENERGISING (section 1.5). -/
inductive EnergisePhase | prepare | closing | ramp
  deriving DecidableEq, Repr

/-- The trip causes, in the order of the TRIP_NOTICE cause bytes 01h to 0Ah (section 7.3). -/
inductive TripCause
  | estop | estopAll | interlock | sbOpened | sbFail | pbFail | unsyncClose | overload
  | noModules | energiseFail
  deriving DecidableEq, Repr

/-- The end causes of a session. -/
inductive EndCause | ended | forced | bye | noCapacity | reset
  deriving DecidableEq, Repr

/-- The vessel announcement (R2). -/
structure Announcement where
  vessel : Text
  profile : Nat
  kW : Nat
  voltage : Nat
  frequency : Nat
  deriving DecidableEq, Repr

/-- A profile's twenty-one parameters (section 1.4). -/
structure Profile where
  nomFreq : Nat
  nomVolt : Nat
  vTol : Nat
  softStart : Nat
  fSlew : Nat
  vSlew : Nat
  slipMin : Nat
  slipTarget : Nat
  slipMax : Nat
  cWindow : Nat
  vMatch : Nat
  vOffset : Nat
  closeTime : Nat
  syncTimeout : Nat
  ramp : Nat
  trimGain : Nat
  parTime : Nat
  release : Nat
  ovLevel : Nat
  ovTime : Nat
  linkTimeout : Nat
  deriving DecidableEq, Repr

/-- The default profile (section 1.4). -/
def Profile.default : Profile :=
  { nomFreq := 60000, nomVolt := 6600, vTol := 50, softStart := 4, fSlew := 500, vSlew := 500,
    slipMin := 20, slipTarget := 60, slipMax := 150, cWindow := 500, vMatch := 30, vOffset := 5,
    closeTime := 80, syncTimeout := 120, ramp := 500, trimGain := 20, parTime := 180,
    release := 20, ovLevel := 1100, ovTime := 10, linkTimeout := 3 }

/-- A reading of the clock (R153). -/
structure Clock where
  year : Nat
  month : Nat
  day : Nat
  hour : Nat
  minute : Nat
  second : Nat
  tenth : Nat
  deriving DecidableEq, Repr

/-- The flags of an interval and of a log record, in the order of the tables of R162 and R177. -/
inductive IntervalFlag
  | short | final | timeSet | timeUnset | gridOver | heldValues | gap | merged
  deriving DecidableEq, Repr

/-- The interval an open session fills (R160). -/
structure Interval where
  start : Option Clock
  length : Nat
  ticks : Nat
  importWh : Bands
  exportWh : Nat
  flags : List IntervalFlag
  deriving DecidableEq, Repr

/-- The figures an interval is handed to the billing log with (R163). -/
structure IntervalFigures where
  start : Option Clock
  duration : Nat
  importWh : Bands
  exportWh : Nat
  flags : List IntervalFlag
  deriving DecidableEq, Repr

/-- A session's merged figures (section 10.2). A count of 0 means none. -/
structure Merged where
  start : Option Clock
  duration : Nat
  importWh : Bands
  exportWh : Nat
  count : Nat
  flags : List IntervalFlag
  deriving DecidableEq, Repr

/-- The session record (section 1.3). -/
structure Session where
  number : Nat
  outlet : OutletId
  vessel : Option Text
  account : Option Text
  profileNumber : Nat
  snapshot : Profile
  admitted : Nat
  startTime : Option Clock
  endTime : Option Clock
  endCause : Option EndCause
  importWh : Bands
  exportWh : Nat
  merged : Merged
  charge : Bands
  peak : Nat
  peakStart : Option Clock
  quality : List IntervalFlag
  closeAttempts : Nat
  tripCount : Nat
  lastTrip : Option TripCause
  totalCharge : Option Nat
  deriving DecidableEq, Repr

/-- The held record of an outlet: the closed session and its FINAL interval's figures (R22). -/
structure HeldRecord where
  session : Session
  final : IntervalFigures
  deriving DecidableEq, Repr

/-! ### Chapter 2: interlocks and breakers -/

/-- The SB channel states (section 2.3). -/
inductive SbChannel | opened | closing | closed | opening | stuck
  deriving DecidableEq, Repr

/-- The PB channel states (section 2.4). -/
inductive PbChannel | idle | closePulse | tripPulse | stuck
  deriving DecidableEq, Repr

/-- The debounced interlock states of one outlet: `true` is made, `false` is lost (R28). -/
structure Interlocks where
  plug : Bool
  pilot : Bool
  earth : Bool
  estop : Bool
  deriving DecidableEq, Repr

/-- The shore breaker's channel: feedback `true` is CLOSED; `stuck` is the condition SB_STUCK. -/
structure ShoreBreaker where
  feedback : Bool
  channel : SbChannel
  closeTimer : Timer
  openTimer : Timer
  stuckSet : Bool
  deriving DecidableEq, Repr

/-- The paralleling breaker's channel. `afterClose` marks a trip pulse started at the end of a close pulse
(R41); `stuckSet` is the condition PB_STUCK, which outlasts the channel's STUCK (R40). -/
structure ParallelBreaker where
  feedback : Bool
  channel : PbChannel
  closeTimer : Timer
  tripTimer : Timer
  afterClose : Bool
  stuckSet : Bool
  deriving DecidableEq, Repr

/-- Why the unit refused a PB close pulse: the first failing condition of R37. -/
inductive PbRefusal
  | channelBusy
  | lock (input : InterlockInput)
  | sbNotClosed
  | pbNotOpen
  deriving DecidableEq, Repr

/-! ### Chapter 3: modules -/

/-- The lifecycle states of a module, in the order of the table of section 3.1. -/
inductive ModuleState
  | off | precharging | selfTest | standby | running | releasing | faulted | outOfService
  deriving DecidableEq, Repr

/-- The fault codes of a module (section 3.1). -/
inductive FaultCode
  | prechargeTimeout | selfTestFail | selfTestTimeout | signatureMismatch | linkLost
  | reported (n : Nat)
  deriving DecidableEq, Repr

/-- The commands of the module link (section 3.2). -/
inductive ModuleCommand | charge | test | run | stop
  deriving DecidableEq, Repr

/-- A message the part sends to a module: the command due, and for a RUNNING or RELEASING module the group
reference (accumulator, word, set voltage) and the module's share (sections 3.2, 4.3). -/
structure ModuleMessage where
  command : Option ModuleCommand
  reference : Option (BitVec 24 × Nat × Nat)
  share : Nat
  deriving DecidableEq, Repr

/-- An entry of the module table, with the timers of the lifecycle and the module link's state of it. `initial` is
the outlet controller's note that the module formed its group's initial grant (R11). -/
structure Module where
  state : ModuleState
  rating : Nat
  signature : Nat
  service : Bool
  group : Option OutletId
  initial : Bool
  share : Nat
  rest : Timer
  releasePending : Bool
  lastFault : Option FaultCode
  answering : Bool
  silence : Timer
  precharge : Timer
  selfTest : Timer
  drain : Timer
  releaseShare : Nat
  drainCount : Nat
  command : Option ModuleCommand
  message : Option ModuleMessage
  deriving DecidableEq, Repr

/-- A request's kind (section 3.5). -/
inductive RequestKind | initial | topUp
  deriving DecidableEq, Repr

/-- A request of the grant queue. -/
structure Request where
  outlet : OutletId
  kind : RequestKind
  wanted : Nat
  wait : Nat
  deriving DecidableEq, Repr

/-! ### Chapter 4: the reference generator -/

/-- The modes of the reference generator. -/
inductive Mode | stopped | softStart | island | track | parallel
  deriving DecidableEq, Repr

/-- The state of a reference generator (section 4.1). `rising` is the ramp direction. -/
structure Reference where
  mode : Mode
  pending : Option Mode
  accumulator : BitVec 24
  setFreq : Nat
  word : Nat
  freqTarget : Nat
  setVolt : Nat
  voltTarget : Nat
  softSteps : Nat
  setpoint : Nat
  rising : Bool
  trim : Int
  deriving DecidableEq, Repr

/-! ### Chapter 5: measurement -/

/-- The standing of a record (R89); HELD carries its hold count 1 to 3. -/
inductive Validity
  | valid
  | held (count : Nat)
  | invalid
  deriving DecidableEq, Repr

/-- A cycle record (section 5.3). -/
structure CycleRecord where
  frequency : Nat
  period : Nat
  rms : Nat
  crossing : Option Timestamp
  valueTime : Option Timestamp
  validity : Validity
  deriving DecidableEq, Repr

/-- The sums over the samples of the cycle in progress (R87, R93, R95). -/
structure CycleSums where
  count : Nat
  squares : Nat
  product1 : Int
  product2 : Int
  power : Int
  clipped : Bool
  deriving DecidableEq, Repr

/-- What one channel takes from one sample set: its waveform, and the products and power it sums. -/
structure ChannelSample where
  wave : Int
  product1 : Int
  product2 : Int
  power : Int
  clipped : Bool
  deriving DecidableEq, Repr

/-- The candidate of a crossing detector: the samples s_a and s_b with the timestamp of s_a (R85). -/
structure Candidate where
  before : Int
  beforeTime : Timestamp
  after : ChannelSample
  deriving DecidableEq, Repr

/-- A measurement channel: its crossing detector (R85), its cycle in progress and its record. -/
structure Channel where
  armed : Bool
  previous : Option Int
  candidate : Option Candidate
  lastCrossing : Option Timestamp
  lossTimer : Timer
  sums : CycleSums
  record : CycleRecord
  deriving DecidableEq, Repr

/-- The power record of an outlet (section 5.4), in W and var. -/
structure PowerRecord where
  p : Int
  q : Int
  validity : Validity
  deriving DecidableEq, Repr

/-- The GRID channel, the grid import record (its validity is the GRID cycle record's) and grid-over (R95, R96). -/
structure GridUnit where
  channel : Channel
  importPower : Int
  overTimer : Timer
  overSet : Bool
  deriving DecidableEq, Repr

/-! ### Chapter 6: the synchronising check -/

/-- The states of the check. -/
inductive CheckState | inactive | evaluating | closing | recovering
  deriving DecidableEq, Repr

/-- How a stay in SYNCHRONISING ended. -/
inductive SyncOutcome | transfer | syncFailed | syncTimeout | aborted | linkLost | lateClose
  deriving DecidableEq, Repr

/-- The outcome of the latest evaluation (R99, R103, R104). -/
inductive CheckResult
  | close | wait | link | sb | records | slipLow | slipHigh | slipWindow | voltage | angle
  | refused (why : PbRefusal)
  deriving DecidableEq, Repr

/-- The figures of a computation (section 6.2). -/
structure Figures where
  slip : Int
  theta : Int
  alpha : Int
  delta : Int
  phi : Int
  dV : Int
  time : Timestamp
  deriving DecidableEq, Repr

/-- The state of a synchronising check (section 6.1). -/
structure SyncCheck where
  state : CheckState
  attempts : Nat
  syncTimer : Timer
  feedbackTimer : Timer
  notedExpiry : Bool
  notedExit : Option SyncOutcome
  refusedRequests : Nat
  figures : Option Figures
  result : Option CheckResult
  outcome : Option SyncOutcome
  windowAsked : Bool
  deriving DecidableEq, Repr

/-! ### Chapter 7: the ship link -/

/-- A frame of the receive FIFO: a known ship-to-shore type byte with a payload of its length (R119). -/
structure ShipFrame where
  type : Byte
  payload : List Byte
  deriving DecidableEq, Repr

/-- The causes of a REFUSE (section 7.3). -/
inductive RefuseCause | wrongState | unknownType | badLength | notReady
  deriving DecidableEq, Repr

/-- The fields of a SHORE_STATUS, filled when its transmission begins (R126). -/
structure StatusFields where
  code : Nat
  limit : Nat
  power : Int
  parallelSeconds : Nat
  refusal : Option RefuseCause
  transferDone : Bool
  returnAccepted : Bool
  powerUnknown : Bool
  deriving DecidableEq, Repr

/-- A frame for the ship; a waiting SHORE_STATUS has no fields yet. -/
inductive ShoreFrame
  | welcome (session profile limit : Nat)
  | shoreStatus (fields : Option StatusFields)
  | refuse (type : Byte) (cause : RefuseCause)
  | capacity (limit : Nat)
  | returnDemand
  | tripNotice (cause : TripCause)
  deriving DecidableEq, Repr

/-- The cause of the latest DOWN (R124). -/
inductive DownCause | watchdog | lineBreak | plug
  deriving DecidableEq, Repr

/-- The result of a LINKTEST (R129). -/
inductive TestResult | pass | noEcho | mismatch | framing
  deriving DecidableEq, Repr

/-- The counts of a ship link, in the order R128 lists them. -/
structure LinkCounts where
  framesReceived : Nat
  framesSent : Nat
  crcErrors : Nat
  lengthErrors : Nat
  strayBytes : Nat
  gaps : Nat
  framingErrors : Nat
  formatRefusals : Nat
  overruns : Nat
  transmitDrops : Nat
  statusSkips : Nat
  breaks : Nat
  watchdogExpiries : Nat
  deriving DecidableEq, Repr

/-- A ship link controller. `assembling` is the delimiter: `none` is HUNTING, and in ASSEMBLING it holds the
bytes taken after the start byte. `sending` says that the head of the transmit queue is in transmission.
`testAge` holds, while a LINKTEST runs, the ticks since its first start bit (R129). -/
structure ShipLink where
  up : Bool
  lastDown : Option DownCause
  assembling : Option (List Byte)
  gapTimer : Timer
  fifo : List ShipFrame
  queue : List ShoreFrame
  sending : Bool
  watchdog : Timer
  watchdogPeriod : Nat
  statusTimer : Timer
  counts : LinkCounts
  overrun : Bool
  lastRefusal : Option RefuseCause
  testAge : Option Nat
  lastTest : Option TestResult
  deriving DecidableEq, Repr

/-! ### Chapter 8: the handover record -/

/-- The latest ship status (R131); the age is kept in timestamp ticks. -/
structure ShipStatus where
  generators : Nat
  busLoad : Nat
  generatorLoad : Nat
  ready : Bool
  droop : Bool
  panelClosed : Bool
  age : Nat
  deriving DecidableEq, Repr

/-- How a parallel period ended (section 8.1). -/
inductive SeparationCause
  | drained | aborted | parallelTimeout | linkLost | overload | lateClose | pbOpened
  deriving DecidableEq, Repr

/-- The handover record of an outlet (section 8.1). -/
structure Handover where
  shipStatus : Option ShipStatus
  parallelTimer : Timer
  overloadTimer : Timer
  aborting : Bool
  transferDone : Bool
  returnAccepted : Bool
  returnPending : Bool
  lastSeparation : Option SeparationCause
  deriving DecidableEq, Repr

/-! ### Chapter 9: metering -/

/-- What the metering unit keeps of an outlet beside its session. -/
structure Meter where
  importAcc : Nat
  exportAcc : Nat
  heldPower : Option Int
  holdCount : Nat
  importTotal : Nat
  exportTotal : Nat
  releasedImport : Nat
  releasedExport : Nat
  deriving DecidableEq, Repr

/-- A band's window (R164). -/
structure BandWindow where
  start : Nat
  stop : Nat
  enabled : Bool
  deriving DecidableEq, Repr

/-- A tariff table (R164). -/
structure Tariff where
  prices : Bands
  window1 : BandWindow
  window2 : BandWindow
  window3 : BandWindow
  demandPrice : Nat
  length : Nat
  deriving DecidableEq, Repr

/-- The pending tariff table with its ready mark. -/
structure PendingTariff where
  table : Tariff
  ready : Bool
  deriving DecidableEq, Repr

/-! ### Chapter 10: the billing log -/

/-- A log record (section 10.1). -/
structure LogRecord where
  sequence : Nat
  session : Nat
  outlet : OutletId
  start : Option Clock
  duration : Nat
  importWh : Bands
  exportWh : Nat
  mergedCount : Nat
  flags : List IntervalFlag
  deriving DecidableEq, Repr

/-- The read window (R176). -/
structure ReadWindow where
  first : Nat
  last : Nat
  pointer : Nat
  deriving DecidableEq, Repr

/-- The billing log; `next` is the record sequence counter, `none` when exhausted (R171). -/
structure BillingLog where
  records : List LogRecord
  next : Option Nat
  threshold : Nat
  window : Option ReadWindow
  closed : List Session
  deriving DecidableEq, Repr

/-! ### Chapter 11: the terminal link -/

/-- A value of a reply, in the forms of R188. -/
inductive Value
  | number (n : Int)
  | reading (c : Clock)
  | name (s : String)
  | names (l : List String)
  | numbers (l : List Int)
  | list (l : List String)
  | text (t : Text)
  | none
  deriving DecidableEq, Repr

/-- A reply line (R187). `record` is the LOG READ reply of R177. -/
inductive Reply
  | ok (word : String) (pairs : List (String × Value))
  | clamped (pairs : List (String × Value))
  | no (code : Nat) (text : String)
  | record (r : LogRecord)
  deriving DecidableEq, Repr

/-- An order line, complete or being assembled, with its marks (R183). -/
structure Line where
  chars : List Char
  bad : Bool
  tooLong : Bool
  deriving DecidableEq, Repr

/-- The terminal link interpreter. It is busy while a reply is in transmission or while a LINKTEST it handed
on has no result yet, and idle otherwise. `lastReply` is the model's own: the reply written last. -/
structure Terminal where
  line : Line
  queue : List Line
  reply : Option Reply
  awaiting : Option OutletId
  lastReply : Option Reply
  deriving DecidableEq, Repr

/-! ### Chapter 12: the status unit -/

/-- What the status unit holds of a group: the conditions Set, the latched names with their counts, the enable
mask and the last state code. Every set lists its names in table order, once each; a latch is Set when its
name is listed among the counts. -/
structure GroupStatus where
  conditions : List Item
  counts : List (Item × Nat)
  enabled : List Item
  lastState : Option Nat
  deriving DecidableEq, Repr

/-- The status unit. A condition without an entry in `filters` has the filter RISE. -/
structure StatusUnit where
  part : GroupStatus
  groups : PerOutlet GroupStatus
  filters : List (Item × Filter)
  attention : List Group
  errors : List (Nat × String)
  deriving DecidableEq, Repr

/-! ### The whole machine -/

/-- Everything of one outlet. -/
structure Outlet where
  state : OutletState
  phase : Option EnergisePhase
  announcement : Option Announcement
  session : Option Session
  interval : Option Interval
  held : Option HeldRecord
  endCause : Option EndCause
  rampComplete : Bool
  closeWanted : Bool
  energiseTimer : Timer
  handover : Handover
  interlocks : Interlocks
  sb : ShoreBreaker
  pb : ParallelBreaker
  check : SyncCheck
  limit : Nat
  reference : Reference
  cable : Channel
  ship : Channel
  power : PowerRecord
  link : ShipLink
  meter : Meter
  deriving DecidableEq, Repr

/-- The state of the part, and the queue of the commands that are waiting. -/
structure State where
  phase : Phase
  rstLow : Bool
  restart : Restart
  timestamp : Timestamp
  due : Due
  estopAllMade : Bool
  outlets : PerOutlet Outlet
  modules : Vector Module 8
  grants : List Request
  gridLimit : Nat
  budgetOver : Bool
  grid : GridUnit
  clock : Option Clock
  tariff : Tariff
  pendingTariff : Option PendingTariff
  log : BillingLog
  sessionCounter : Nat
  profiles : Vector Profile 10
  terminal : Terminal
  status : StatusUnit
  pending : List Instr
  deriving DecidableEq, Repr

/-! ### The values after reset -/

def Bands.zero : Bands := { b0 := 0, b1 := 0, b2 := 0, b3 := 0 }

def Merged.none : Merged :=
  { start := Option.none, duration := 0, importWh := Bands.zero, exportWh := 0, count := 0, flags := [] }

/-- R28: every debounced interlock state starts at lost. -/
def Interlocks.reset : Interlocks := { plug := false, pilot := false, earth := false, estop := false }

/-- R43. -/
def ShoreBreaker.reset : ShoreBreaker :=
  { feedback := false, channel := .opened, closeTimer := none, openTimer := none, stuckSet := false }

/-- R43. -/
def ParallelBreaker.reset : ParallelBreaker :=
  { feedback := false, channel := .idle, closeTimer := none, tripTimer := none, afterClose := false,
    stuckSet := false }

/-- R83. -/
def Reference.reset : Reference :=
  { mode := .stopped, pending := none, accumulator := 0, setFreq := 0, word := 0, freqTarget := 0,
    setVolt := 0, voltTarget := 0, softSteps := 0, setpoint := 0, rising := true, trim := 0 }

/-- R97. -/
def CycleRecord.reset : CycleRecord :=
  { frequency := 0, period := 0, rms := 0, crossing := none, valueTime := none, validity := .invalid }

def CycleSums.zero : CycleSums :=
  { count := 0, squares := 0, product1 := 0, product2 := 0, power := 0, clipped := false }

/-- R97; the loss timer starts at 100 ms. -/
def Channel.reset : Channel :=
  { armed := false, previous := none, candidate := none, lastCrossing := none,
    lossTimer := some (100 * Config.ticksPerMs), sums := CycleSums.zero, record := CycleRecord.reset }

/-- R97. -/
def PowerRecord.reset : PowerRecord := { p := 0, q := 0, validity := .invalid }

/-- R97. -/
def GridUnit.reset : GridUnit :=
  { channel := Channel.reset, importPower := 0, overTimer := none, overSet := false }

/-- R115. -/
def SyncCheck.reset : SyncCheck :=
  { state := .inactive, attempts := 0, syncTimer := none, feedbackTimer := none, notedExpiry := false,
    notedExit := none, refusedRequests := 0, figures := none, result := none, outcome := none,
    windowAsked := false }

def LinkCounts.zero : LinkCounts :=
  { framesReceived := 0, framesSent := 0, crcErrors := 0, lengthErrors := 0, strayBytes := 0, gaps := 0,
    framingErrors := 0, formatRefusals := 0, overruns := 0, transmitDrops := 0, statusSkips := 0,
    breaks := 0, watchdogExpiries := 0 }

/-- R130. The watchdog period is the 3 s of R123 until the first restart reads it (log entry 32). -/
def ShipLink.reset : ShipLink :=
  { up := false, lastDown := none, assembling := none, gapTimer := none, fifo := [], queue := [],
    sending := false, watchdog := none, watchdogPeriod := 3 * Config.ticksPerSecond, statusTimer := none,
    counts := LinkCounts.zero, overrun := false, lastRefusal := none, testAge := none, lastTest := none }

/-- R152. -/
def Handover.reset : Handover :=
  { shipStatus := none, parallelTimer := none, overloadTimer := none, aborting := false,
    transferDone := false, returnAccepted := false, returnPending := false, lastSeparation := none }

/-- R170, on a blank retained store. -/
def Meter.blank : Meter :=
  { importAcc := 0, exportAcc := 0, heldPower := none, holdCount := 0, importTotal := 0, exportTotal := 0,
    releasedImport := 0, releasedExport := 0 }

/-- The message of start-up: STOP, with no reference and no share (R66). -/
def stopMessage : ModuleMessage := { command := some .stop, reference := none, share := 0 }

/-- R66, on a blank retained store: OFF and resting for 30 s, SILENT until its first answer, the link's command
held to STOP. Nothing has been sent yet. -/
def Module.blank : Module :=
  { state := .off, rating := 2500, signature := 0, service := false, group := none, initial := false, share := 0,
    rest := some (30 * Config.ticksPerSecond), releasePending := false, lastFault := none,
    answering := false, silence := none, precharge := none, selfTest := none, drain := none,
    releaseShare := 0, drainCount := 0, command := some .stop, message := none }

def BandWindow.off : BandWindow := { start := 0, stop := 0, enabled := false }

/-- R164: the active table of a blank retained store. -/
def Tariff.blank : Tariff :=
  { prices := Bands.zero, window1 := BandWindow.off, window2 := BandWindow.off, window3 := BandWindow.off,
    demandPrice := 0, length := 15 }

/-- R182, on a blank retained store. -/
def BillingLog.blank : BillingLog :=
  { records := [], next := some 1, threshold := 1792, window := none, closed := [] }

def Line.empty : Line := { chars := [], bad := false, tooLong := false }

/-- R192. -/
def Terminal.reset : Terminal :=
  { line := Line.empty, queue := [], reply := none, awaiting := none, lastReply := none }

/-- R198, the first column; the conditions are stated by their owners when start-up completes. -/
def GroupStatus.reset : GroupStatus := { conditions := [], counts := [], enabled := [], lastState := none }

/-- R198, the first column. -/
def StatusUnit.reset : StatusUnit :=
  { part := GroupStatus.reset,
    groups := { a := GroupStatus.reset, b := GroupStatus.reset, c := GroupStatus.reset },
    filters := [], attention := [], errors := [] }

/-- The ticks to the first periodic events after start-up: one period each (log entry 4). -/
def Due.reset : Due :=
  { sample := Config.samplePeriod, reference := Config.samplePeriod, control := Config.controlPeriod,
    metering := Config.meteringPeriod }

/-- An outlet after reset on a blank retained store. -/
def Outlet.blank : Outlet :=
  { state := .vacant, phase := none, announcement := none, session := none, interval := none, held := none,
    endCause := none, rampComplete := false, closeWanted := false, energiseTimer := none,
    handover := Handover.reset, interlocks := Interlocks.reset, sb := ShoreBreaker.reset,
    pb := ParallelBreaker.reset, check := SyncCheck.reset, limit := 0, reference := Reference.reset,
    cable := Channel.reset, ship := Channel.reset, power := PowerRecord.reset, link := ShipLink.reset,
    meter := Meter.blank }

/-- The part right after power-on on a blank retained store, RST# released: every block at its after-reset
values, start-up begun and not yet complete, no command waiting (log entry 5). -/
def State.reset : State :=
  { phase := .startingUp, rstLow := false, restart := .cold, timestamp := 0, due := Due.reset,
    estopAllMade := false,
    outlets := { a := Outlet.blank, b := Outlet.blank, c := Outlet.blank },
    modules := Vector.replicate 8 { Module.blank with message := some stopMessage }, grants := [], gridLimit := 0, budgetOver := false,
    grid := GridUnit.reset, clock := none, tariff := Tariff.blank, pendingTariff := none,
    log := BillingLog.blank, sessionCounter := 0, profiles := Vector.replicate 10 Profile.default,
    terminal := Terminal.reset, status := StatusUnit.reset, pending := [] }

end Sys2Proof.Machine
end

