-- ==== Sys2Proof/Machine/Operands.lean ====
section
/-! DEFINITION. The arithmetic of the rules: the two roundings, clamps, saturating counts, the square root of
R87, byte order, the ship link's frame check, the layouts of its frames, and the fields of a profile. -/

namespace Sys2Proof.Machine

/-! ### Roundings (00_scope, "Units and number conventions") -/

/-- Round-half-up: the nearest integer, a half to the next larger one. -/
def divHalfUp (n : Int) (d : Nat) : Int :=
  if d = 0 then Config.quotientByZero n else (2 * n + d) / (2 * d)

/-- Round-half-away-from-zero: the nearest integer, a half to the one of larger magnitude. -/
def divHalfAway (n : Int) (d : Nat) : Int :=
  if n < 0 then -(divHalfUp (-n) d) else divHalfUp n d

/-- Round-half-up of a quotient that is not negative. -/
def natHalfUp (n d : Nat) : Nat := (divHalfUp n d).toNat

/-- A quantity clamped to a range is replaced by the nearer end when it lies outside. -/
def clampNat (lo hi n : Nat) : Nat := if n < lo then lo else if hi < n then hi else n

def clampInt (lo hi n : Int) : Int := if n < lo then lo else if hi < n then hi else n

/-- A count that holds at its largest value. -/
def addHolding (most n k : Nat) : Nat := min most (n + k)

/-- A count of 0 to 65,535 that holds at 65,535 raised by one. -/
def count16 (n : Nat) : Nat := addHolding 65535 n 1

/-- Binary digits of the integer square root, from the highest down. -/
def sqrtBits (n : Nat) : Nat → Nat → Nat
  | 0, r => r
  | b + 1, r => if (r + 2 ^ b) * (r + 2 ^ b) ≤ n then sqrtBits n b (r + 2 ^ b) else sqrtBits n b r

/-- The integer square root, rounded down. -/
def intSqrt (n : Nat) : Nat := sqrtBits n (n.log2 / 2 + 1) 0

/-- The square root of the mean of the squares, rounded half-up (R87): the root of four times the mean is twice
the root, so its floor plus one, halved and rounded down, is the root rounded half-up. -/
def rootMeanSquare (squares count : Nat) : Nat :=
  if count = 0 then (Config.quotientByZero squares).toNat else (intSqrt (4 * squares / count) + 1) / 2

/-- Milliseconds and seconds in timestamp ticks. -/
def ms (n : Nat) : Nat := n * Config.ticksPerMs

def seconds (n : Nat) : Nat := n * Config.ticksPerSecond

/-! ### Bands -/

def Bands.get (b : Bands) : Nat → Nat
  | 0 => b.b0
  | 1 => b.b1
  | 2 => b.b2
  | _ => b.b3

def Bands.set (b : Bands) (i n : Nat) : Bands :=
  match i with
  | 0 => { b with b0 := n }
  | 1 => { b with b1 := n }
  | 2 => { b with b2 := n }
  | _ => { b with b3 := n }

def Bands.add (x y : Bands) : Bands :=
  { b0 := x.b0 + y.b0, b1 := x.b1 + y.b1, b2 := x.b2 + y.b2, b3 := x.b3 + y.b3 }

def Bands.sum (x : Bands) : Nat := x.b0 + x.b1 + x.b2 + x.b3

/-- Adds to one band, holding at a largest value. -/
def Bands.addHolding (most : Nat) (x : Bands) (i n : Nat) : Bands :=
  x.set i (Machine.addHolding most (x.get i) n)

/-! ### Bytes (R118, R120) -/

/-- A number of two bytes, most significant byte first. -/
def be16 (hi lo : Byte) : Nat := hi.toNat * 256 + lo.toNat

/-- The `k` low bytes of a number, most significant byte first. -/
def beBytes : Nat → Nat → List Byte
  | 0, _ => []
  | k + 1, n => BitVec.ofNat 8 (n / 256 ^ k) :: beBytes k n

/-- One bit of the CRC with generator x^16 + x^12 + x^5 + 1. -/
def crcBit (crc : BitVec 16) : BitVec 16 :=
  if crc.msb then (crc <<< 1) ^^^ 0x1021#16 else crc <<< 1

/-- One byte into the CRC, most significant bit first. -/
def crcByte (crc : BitVec 16) (b : Byte) : BitVec 16 :=
  crcBit (crcBit (crcBit (crcBit (crcBit (crcBit (crcBit (crcBit (crc ^^^ (b.zeroExtend 16 <<< 8)))))))))

/-- The frame check of R118: initial value FFFFh, no reflection, no final inversion. -/
def crc16 (bytes : List Byte) : BitVec 16 := bytes.foldl crcByte 0xFFFF#16

/-- The check of a frame as received: computed over the length byte, the type byte and the payload (R118). -/
def frameCheck (f : RawFrame) : Bool := crc16 (f.length :: f.type :: f.payload) == f.crc

/-! ### Ship frames (section 7.3, R120) -/

/-- The length byte the frame table gives for a ship-to-shore type. -/
def shipLength : Nat → Option Nat
  | 1 => some 24
  | 2 => some 7
  | 3 => some 1
  | 4 => some 1
  | 5 => some 1
  | 6 => some 1
  | 7 => some 1
  | 8 => some 1
  | _ => none

/-- Printable characters: 20h to 7Eh. -/
def isPrintable (c : Char) : Bool := 0x20 ≤ c.toNat && c.toNat ≤ 0x7E

/-- The vessel code field of a HELLO: the bytes before the first 00h, or all sixteen. A byte other than 00h
after a 00h breaks the code (R120). -/
def vesselCode (field : List Byte) : Option Text :=
  let code := field.takeWhile (· != 0#8)
  if (field.drop code.length).all (· == 0#8) then some (code.map fun b => Char.ofNat b.toNat) else none

/-- The fields of a HELLO, `none` when its vessel code is broken. -/
def decodeHello (payload : List Byte) : Option Announcement :=
  match vesselCode (payload.take 16), payload.drop 16 with
  | some code, [p, k1, k0, v1, v0, f1, f0] =>
    some { vessel := code, profile := p.toNat, kW := be16 k1 k0, voltage := be16 v1 v0,
           frequency := be16 f1 f0 }
  | _, _ => none

/-- The ranges of R2. -/
def Announcement.isValid (h : Announcement) : Bool :=
  1 ≤ h.vessel.length && h.vessel.length ≤ 16 && h.vessel.all isPrintable && h.profile ≤ 9 &&
    (1 ≤ h.kW && h.kW ≤ 60000) && (400 ≤ h.voltage && h.voltage ≤ 15000) &&
    (47000 ≤ h.frequency && h.frequency ≤ 63000)

/-- The fields of a STATUS (R120, R131): generators above 15 are taken as 15, flag bits 3 to 7 ignored. -/
def decodeStatus (payload : List Byte) : Option ShipStatus :=
  match payload with
  | [g, l1, l0, n1, n0, flags] =>
    some { generators := min 15 g.toNat, busLoad := be16 l1 l0, generatorLoad := be16 n1 n0,
           ready := flags.getLsbD 0, droop := flags.getLsbD 1, panelClosed := flags.getLsbD 2, age := 0 }
  | _ => none

/-- The cause bytes of REFUSE (section 7.3). -/
def RefuseCause.byte : RefuseCause → Nat
  | .wrongState => 1
  | .unknownType => 2
  | .badLength => 3
  | .notReady => 4

/-- The cause bytes of TRIP_NOTICE (section 7.3). -/
def TripCause.byte : TripCause → Nat
  | .estop => 1
  | .estopAll => 2
  | .interlock => 3
  | .sbOpened => 4
  | .sbFail => 5
  | .pbFail => 6
  | .unsyncClose => 7
  | .overload => 8
  | .noModules => 9
  | .energiseFail => 10

/-- A bit of a flags byte. -/
def bitOf (b : Bool) (n : Nat) : Nat := if b then 2 ^ n else 0

/-- The type byte and payload of a shore frame (section 7.3). A waiting SHORE_STATUS has no fields and no bytes. -/
def ShoreFrame.body : ShoreFrame → List Byte
  | .welcome n p limit => 0x81#8 :: (beBytes 4 n ++ beBytes 1 p ++ beBytes 2 limit)
  | .shoreStatus none => []
  | .shoreStatus (some f) =>
    0x82#8 :: (beBytes 1 f.code ++ beBytes 2 f.limit ++ beBytes 4 (f.power % 2 ^ 32).toNat ++
      beBytes 2 f.parallelSeconds ++ beBytes 1 (match f.refusal with | none => 0 | some c => c.byte) ++
      beBytes 1 (bitOf f.transferDone 0 + bitOf f.returnAccepted 1 + bitOf f.powerUnknown 2))
  | .refuse t c => 0x83#8 :: t :: beBytes 1 c.byte
  | .capacity limit => 0x84#8 :: beBytes 2 limit
  | .returnDemand => [0x85#8]
  | .tripNotice c => 0x86#8 :: beBytes 1 c.byte

/-- A body with its start byte, length byte and check (section 7.2). -/
def frameBytes (body : List Byte) : List Byte :=
  let checked := BitVec.ofNat 8 body.length :: body
  0xA5#8 :: (checked ++ beBytes 2 (crc16 checked).toNat)

/-- The bytes of a shore frame on the line. -/
def ShoreFrame.bytes (f : ShoreFrame) : List Byte := frameBytes f.body

/-- The test frame of a LINKTEST (R129): length 60, type 00h, the bytes 00h to 3Ah. -/
def testFrame : List Byte := frameBytes (0#8 :: (List.range 59).map (BitVec.ofNat 8))

/-! ### Profiles (section 1.4, R189) -/

def Profile.get (p : Profile) : ProfileField → Nat
  | .nomFreq => p.nomFreq
  | .nomVolt => p.nomVolt
  | .vTol => p.vTol
  | .softStart => p.softStart
  | .fSlew => p.fSlew
  | .vSlew => p.vSlew
  | .slipMin => p.slipMin
  | .slipTarget => p.slipTarget
  | .slipMax => p.slipMax
  | .cWindow => p.cWindow
  | .vMatch => p.vMatch
  | .vOffset => p.vOffset
  | .closeTime => p.closeTime
  | .syncTimeout => p.syncTimeout
  | .ramp => p.ramp
  | .trimGain => p.trimGain
  | .parTime => p.parTime
  | .release => p.release
  | .ovLevel => p.ovLevel
  | .ovTime => p.ovTime
  | .linkTimeout => p.linkTimeout

def Profile.set (p : Profile) (f : ProfileField) (n : Nat) : Profile :=
  match f with
  | .nomFreq => { p with nomFreq := n }
  | .nomVolt => { p with nomVolt := n }
  | .vTol => { p with vTol := n }
  | .softStart => { p with softStart := n }
  | .fSlew => { p with fSlew := n }
  | .vSlew => { p with vSlew := n }
  | .slipMin => { p with slipMin := n }
  | .slipTarget => { p with slipTarget := n }
  | .slipMax => { p with slipMax := n }
  | .cWindow => { p with cWindow := n }
  | .vMatch => { p with vMatch := n }
  | .vOffset => { p with vOffset := n }
  | .closeTime => { p with closeTime := n }
  | .syncTimeout => { p with syncTimeout := n }
  | .ramp => { p with ramp := n }
  | .trimGain => { p with trimGain := n }
  | .parTime => { p with parTime := n }
  | .release => { p with release := n }
  | .ovLevel => { p with ovLevel := n }
  | .ovTime => { p with ovTime := n }
  | .linkTimeout => { p with linkTimeout := n }

/-- The range a value is clamped into (R189); the slip fields are clamped between their neighbours. -/
def Profile.range (p : Profile) : ProfileField → Nat × Nat
  | .nomFreq => (47000, 63000)
  | .nomVolt => (400, 15000)
  | .vTol => (10, 100)
  | .softStart => (1, 20)
  | .fSlew => (50, 2000)
  | .vSlew => (10, 2000)
  | .slipMin => (10, p.slipTarget)
  | .slipTarget => (p.slipMin, p.slipMax)
  | .slipMax => (p.slipTarget, 300)
  | .cWindow => (100, 1500)
  | .vMatch => (5, 100)
  | .vOffset => (0, 30)
  | .closeTime => (20, 300)
  | .syncTimeout => (30, 600)
  | .ramp => (50, 5000)
  | .trimGain => (1, 100)
  | .parTime => (30, 900)
  | .release => (5, 100)
  | .ovLevel => (1000, 1500)
  | .ovTime => (1, 60)
  | .linkTimeout => (1, 10)

/-- The voltage tolerance in whole volts: per mille of the nominal voltage, rounded half-up (R7, R13). -/
def Profile.toleranceVolts (p : Profile) : Nat := natHalfUp (p.nomVolt * p.vTol) 1000

/-- The difference of two numbers as a magnitude. -/
def distance (x y : Nat) : Nat := (x - y) + (y - x)

/-! ### Validity (R89) -/

/-- A valid cycle makes any record VALID. -/
def Validity.onValid (_ : Validity) : Validity := .valid

/-- An invalid cycle moves the record towards INVALID, by the table of R89. -/
def Validity.onInvalid : Validity → Validity
  | .valid => .held 1
  | .held n => if n < 3 then .held (n + 1) else .invalid
  | .invalid => .invalid

/-- VALID or HELD. -/
def Validity.usable : Validity → Bool
  | .invalid => false
  | _ => true

end Sys2Proof.Machine
end

