-- ==== Sys2Proof/Machine/Names.lean ====
section
/-! DEFINITION. The names and codes that replies and frames carry (sections 1, 11.5, 12.1; R188), in the
manual's spelling. -/

namespace Sys2Proof

def OutletId.letter : OutletId → String
  | .a => "A"
  | .b => "B"
  | .c => "C"

def InterlockInput.name : InterlockInput → String
  | .ofOutlet _ .plug => "PLUG"
  | .ofOutlet _ .pilot => "PILOT"
  | .ofOutlet _ .earth => "EARTH"
  | .ofOutlet _ .estop => "ESTOP"
  | .estopAll => "ESTOP_ALL"

def Filter.name : Filter → String
  | .rise => "RISE"
  | .fall => "FALL"
  | .both => "BOTH"

def Group.name : Group → String
  | .part => "PART"
  | .outlet o => o.letter

def ProfileField.keyword : ProfileField → String
  | .nomFreq => "NOMFREQ"
  | .nomVolt => "NOMVOLT"
  | .vTol => "VTOL"
  | .softStart => "SOFTSTART"
  | .fSlew => "FSLEW"
  | .vSlew => "VSLEW"
  | .slipMin => "SLIPMIN"
  | .slipTarget => "SLIPTARGET"
  | .slipMax => "SLIPMAX"
  | .cWindow => "CWINDOW"
  | .vMatch => "VMATCH"
  | .vOffset => "VOFFSET"
  | .closeTime => "CLOSETIME"
  | .syncTimeout => "SYNCTIMEOUT"
  | .ramp => "RAMP"
  | .trimGain => "TRIMGAIN"
  | .parTime => "PARTIME"
  | .release => "RELEASE"
  | .ovLevel => "OVLEVEL"
  | .ovTime => "OVTIME"
  | .linkTimeout => "LINKTIMEOUT"

/-- The profile fields in the order of the table of R189. -/
def ProfileField.all : List ProfileField :=
  [.nomFreq, .nomVolt, .vTol, .softStart, .fSlew, .vSlew, .slipMin, .slipTarget, .slipMax, .cWindow,
   .vMatch, .vOffset, .closeTime, .syncTimeout, .ramp, .trimGain, .parTime, .release, .ovLevel, .ovTime,
   .linkTimeout]

def Item.name : Item → String
  | .estopAll => "ESTOP_ALL"
  | .moduleFaulted => "MODULE_FAULTED"
  | .budgetOver => "BUDGET_OVER"
  | .gridOver => "GRID_OVER"
  | .clockUnset => "CLOCK_UNSET"
  | .tariffPending => "TARIFF_PENDING"
  | .logAlmostFull => "LOG_ALMOST_FULL"
  | .logFull => "LOG_FULL"
  | .closedWaiting => "CLOSED_WAITING"
  | .closedFull => "CLOSED_FULL"
  | .errorQueued => "ERROR_QUEUED"
  | .estop => "ESTOP"
  | .tripped => "TRIPPED"
  | .sbStuck => "SB_STUCK"
  | .pbStuck => "PB_STUCK"
  | .held => "HELD"
  | .capacityShort => "CAPACITY_SHORT"
  | .linkUp => "LINK_UP"
  | .linkOverrun => "LINK_OVERRUN"
  | .overloadPending => "OVERLOAD_PENDING"
  | .merging => "MERGING"
  | .tariffSwitched => "TARIFF_SWITCHED"
  | .topupExpired => "TOPUP_EXPIRED"
  | .stateChanged => "STATE_CHANGED"
  | .pbClosed => "PB_CLOSED"
  | .closeFailed => "CLOSE_FAILED"
  | .syncFailed => "SYNC_FAILED"
  | .syncTimeout => "SYNC_TIMEOUT"
  | .lateClose => "LATE_CLOSE"
  | .syncAborted => "SYNC_ABORTED"
  | .syncLinkLost => "SYNC_LINK_LOST"
  | .transferComplete => "TRANSFER_COMPLETE"
  | .transferAborted => "TRANSFER_ABORTED"
  | .transferIncomplete => "TRANSFER_INCOMPLETE"
  | .returnIncomplete => "RETURN_INCOMPLETE"
  | .transferLinkLost => "TRANSFER_LINK_LOST"
  | .overloadSeparation => "OVERLOAD_SEPARATION"
  | .returnRequested => "RETURN_REQUESTED"
  | .returnStarted => "RETURN_STARTED"
  | .separated => "SEPARATED"
  | .pbOpened => "PB_OPENED"

/-- The condition names of the part-wide group, in table order (section 12.1). -/
def partConditions : List Item :=
  [.estopAll, .moduleFaulted, .budgetOver, .gridOver, .clockUnset, .tariffPending, .logAlmostFull,
   .logFull, .closedWaiting, .closedFull, .errorQueued]

/-- The condition names of an outlet's group. -/
def outletConditions : List Item :=
  [.estop, .tripped, .sbStuck, .pbStuck, .held, .capacityShort, .linkUp, .linkOverrun, .overloadPending,
   .merging]

/-- The event names of an outlet's group. -/
def outletEvents : List Item :=
  [.topupExpired, .stateChanged, .pbClosed, .closeFailed, .syncFailed, .syncTimeout, .lateClose,
   .syncAborted, .syncLinkLost, .transferComplete, .transferAborted, .transferIncomplete,
   .returnIncomplete, .transferLinkLost, .overloadSeparation, .returnRequested, .returnStarted,
   .separated, .pbOpened]

/-- The conditions of a group. -/
def Group.conditions : Group → List Item
  | .part => partConditions
  | .outlet _ => outletConditions

/-- The names of a group in the order of the two tables: conditions first. -/
def Group.items : Group → List Item
  | .part => partConditions ++ [.tariffSwitched]
  | .outlet _ => outletConditions ++ outletEvents

/-- The names of every condition. -/
def Item.isCondition (x : Item) : Bool := partConditions.contains x || outletConditions.contains x

/-- Every name of the status unit. -/
def Item.all : List Item := partConditions ++ outletConditions ++ [.tariffSwitched] ++ outletEvents

def allGroups : List Group := [.part, .outlet .a, .outlet .b, .outlet .c]

def allOutlets : List OutletId := [.a, .b, .c]

def allModules : List (Fin 8) := [0, 1, 2, 3, 4, 5, 6, 7]

end Sys2Proof

namespace Sys2Proof.Machine

/-- The state codes (00_scope, "Outlet states"). -/
def OutletState.code : OutletState → Nat
  | .vacant => 0
  | .cabled => 1
  | .announced => 2
  | .admitted => 3
  | .energising => 4
  | .cableLive => 5
  | .synchronising => 6
  | .transferIn => 7
  | .shoreSupply => 8
  | .transferOut => 9
  | .separating => 10
  | .deEnergising => 11
  | .tripped => 12
  | .held => 13

def EnergisePhase.name : EnergisePhase → String
  | .prepare => "PREPARE"
  | .closing => "CLOSING"
  | .ramp => "RAMP"

def TripCause.name : TripCause → String
  | .estop => "ESTOP"
  | .estopAll => "ESTOP_ALL"
  | .interlock => "INTERLOCK"
  | .sbOpened => "SB_OPENED"
  | .sbFail => "SB_FAIL"
  | .pbFail => "PB_FAIL"
  | .unsyncClose => "UNSYNC_CLOSE"
  | .overload => "OVERLOAD"
  | .noModules => "NO_MODULES"
  | .energiseFail => "ENERGISE_FAIL"

def EndCause.name : EndCause → String
  | .ended => "END"
  | .forced => "FORCED"
  | .bye => "BYE"
  | .noCapacity => "NO_CAPACITY"
  | .reset => "RESET"

def IntervalFlag.name : IntervalFlag → String
  | .short => "SHORT"
  | .final => "FINAL"
  | .timeSet => "TIME_SET"
  | .timeUnset => "TIME_UNSET"
  | .gridOver => "GRID_OVER"
  | .heldValues => "HELD_VALUES"
  | .gap => "GAP"
  | .merged => "MERGED"

/-- The letter of a flag in the LOG READ record (R177). -/
def IntervalFlag.letter : IntervalFlag → Char
  | .short => 'S'
  | .final => 'F'
  | .timeSet => 'T'
  | .timeUnset => 'U'
  | .gridOver => 'O'
  | .heldValues => 'H'
  | .gap => 'G'
  | .merged => 'M'

/-- The flags in the order of their tables. -/
def IntervalFlag.all : List IntervalFlag :=
  [.short, .final, .timeSet, .timeUnset, .gridOver, .heldValues, .gap, .merged]

/-- A set of flags with some more, in table order. -/
def addFlags (xs more : List IntervalFlag) : List IntervalFlag :=
  IntervalFlag.all.filter fun f => xs.contains f || more.contains f

def SbChannel.name : SbChannel → String
  | .opened => "OPEN"
  | .closing => "CLOSING"
  | .closed => "CLOSED"
  | .opening => "OPENING"
  | .stuck => "STUCK"

def PbChannel.name : PbChannel → String
  | .idle => "IDLE"
  | .closePulse => "CLOSE_PULSE"
  | .tripPulse => "TRIP_PULSE"
  | .stuck => "STUCK"

def ModuleState.name : ModuleState → String
  | .off => "OFF"
  | .precharging => "PRECHARGING"
  | .selfTest => "SELF_TEST"
  | .standby => "STANDBY"
  | .running => "RUNNING"
  | .releasing => "RELEASING"
  | .faulted => "FAULTED"
  | .outOfService => "OUT_OF_SERVICE"

/-- Decimal digits. -/
def decimal (n : Nat) : String := String.ofList (Nat.toDigits 10 n)

/-- The fault codes of section 3.1. A module's own code is written after REPORTED and a space (DESIGN CHOICE, log entry
80). -/
def FaultCode.name : FaultCode → String
  | .prechargeTimeout => "PRECHARGE_TIMEOUT"
  | .selfTestFail => "SELF_TEST_FAIL"
  | .selfTestTimeout => "SELF_TEST_TIMEOUT"
  | .signatureMismatch => "SIGNATURE_MISMATCH"
  | .linkLost => "LINK_LOST"
  | .reported n => "REPORTED " ++ decimal n

def RequestKind.name : RequestKind → String
  | .initial => "INITIAL"
  | .topUp => "TOP_UP"

def Mode.name : Mode → String
  | .stopped => "STOPPED"
  | .softStart => "SOFT_START"
  | .island => "ISLAND"
  | .track => "TRACK"
  | .parallel => "PARALLEL"

def CheckState.name : CheckState → String
  | .inactive => "INACTIVE"
  | .evaluating => "EVALUATING"
  | .closing => "CLOSING"
  | .recovering => "RECOVERING"

def SyncOutcome.name : SyncOutcome → String
  | .transfer => "TRANSFER"
  | .syncFailed => "SYNC_FAILED"
  | .syncTimeout => "SYNC_TIMEOUT"
  | .aborted => "ABORTED"
  | .linkLost => "LINK_LOST"
  | .lateClose => "LATE_CLOSE"

/-- The name of the condition a refused close pulse failed (log entry 23). -/
def PbRefusal.name : PbRefusal → String
  | .channelBusy => "PB_CHANNEL"
  | .lock i => i.name
  | .sbNotClosed => "SB_CHANNEL"
  | .pbNotOpen => "PB_FEEDBACK"

def CheckResult.name : CheckResult → String
  | .close => "CLOSE"
  | .wait => "WAIT"
  | .link => "LINK"
  | .sb => "SB"
  | .records => "RECORDS"
  | .slipLow => "SLIP_LOW"
  | .slipHigh => "SLIP_HIGH"
  | .slipWindow => "SLIP_WINDOW"
  | .voltage => "VOLTAGE"
  | .angle => "ANGLE"
  | .refused why => "REFUSED " ++ why.name

def RefuseCause.name : RefuseCause → String
  | .wrongState => "WRONG_STATE"
  | .unknownType => "UNKNOWN_TYPE"
  | .badLength => "BAD_LENGTH"
  | .notReady => "NOT_READY"

def DownCause.name : DownCause → String
  | .watchdog => "WATCHDOG"
  | .lineBreak => "BREAK"
  | .plug => "PLUG"

/-- The result as LINK? writes it: PASS, or the reason of a failure alone (R128, R129; DESIGN CHOICE, log entry
74). -/
def TestResult.name : TestResult → String
  | .pass => "PASS"
  | .noEcho => "NO_ECHO"
  | .mismatch => "MISMATCH"
  | .framing => "FRAMING"

def SeparationCause.name : SeparationCause → String
  | .drained => "DRAINED"
  | .aborted => "ABORTED"
  | .parallelTimeout => "PARALLEL_TIMEOUT"
  | .linkLost => "LINK_LOST"
  | .overload => "OVERLOAD"
  | .lateClose => "LATE_CLOSE"
  | .pbOpened => "PB_OPENED"

/-- The states of a session from `lo` to `hi` in the order of the codes. -/
def OutletState.within (s lo hi : OutletState) : Bool := lo.code ≤ s.code && s.code ≤ hi.code

/-- ENERGISING to SEPARATING. -/
def OutletState.supplied (s : OutletState) : Bool := s.within .energising .separating

/-- A session state: ADMITTED to TRIPPED. -/
def OutletState.inSession (s : OutletState) : Bool := s.within .admitted .tripped

end Sys2Proof.Machine
end

