-- ==== Sys2Proof/Machine/Ops.lean ====
section
/-! DEFINITION. The operations every block shares: reading and updating one outlet or one module, the passing
of time, and the two ways a command begins. A block has no exception entry; what an error does here is the
reply of an order, a condition, an event or a trip. -/

namespace Sys2Proof.Machine

/-! ### Reading and updating one part of the state -/

def State.outlet (s : State) (o : OutletId) : Outlet := s.outlets.get o

def State.modify (s : State) (o : OutletId) (f : Outlet → Outlet) : State :=
  { s with outlets := s.outlets.set o (f (s.outlet o)) }

def State.module (s : State) (m : Fin 8) : Module := s.modules[m.val]

def State.modifyModule (s : State) (m : Fin 8) (f : Module → Module) : State :=
  { s with modules := s.modules.set m.val (f (s.module m)) }

def State.profile (s : State) (n : Fin 10) : Profile := s.profiles[n.val]

def State.modifyRef (s : State) (o : OutletId) (f : Reference → Reference) : State :=
  s.modify o fun x => { x with reference := f x.reference }

def State.modifyCheck (s : State) (o : OutletId) (f : SyncCheck → SyncCheck) : State :=
  s.modify o fun x => { x with check := f x.check }

def State.modifyLink (s : State) (o : OutletId) (f : ShipLink → ShipLink) : State :=
  s.modify o fun x => { x with link := f x.link }

def State.modifyHandover (s : State) (o : OutletId) (f : Handover → Handover) : State :=
  s.modify o fun x => { x with handover := f x.handover }

def State.modifySession (s : State) (o : OutletId) (f : Session → Session) : State :=
  s.modify o fun x => { x with session := x.session.map f }

/-! ### Time (log entry 2)

Time passes at the events that mark it: an event that falls due at the end of a timer or of a period brings
the part to that instant, and every timer that runs loses the ticks that passed. So does the result of a LINKTEST
(log entry 89). -/

def Timer.elapse (n : Nat) (t : Timer) : Timer := t.map (· - n)

def Channel.elapse (n : Nat) (c : Channel) : Channel := { c with lossTimer := Timer.elapse n c.lossTimer }

def Module.elapse (n : Nat) (m : Module) : Module :=
  { m with rest := Timer.elapse n m.rest, silence := Timer.elapse n m.silence,
           precharge := Timer.elapse n m.precharge, selfTest := Timer.elapse n m.selfTest,
           drain := Timer.elapse n m.drain }

def Outlet.elapse (n : Nat) (x : Outlet) : Outlet :=
  { x with
    energiseTimer := Timer.elapse n x.energiseTimer
    handover := { x.handover with
      shipStatus := x.handover.shipStatus.map fun r => { r with age := r.age + n }
      parallelTimer := Timer.elapse n x.handover.parallelTimer
      overloadTimer := Timer.elapse n x.handover.overloadTimer }
    sb := { x.sb with closeTimer := Timer.elapse n x.sb.closeTimer, openTimer := Timer.elapse n x.sb.openTimer }
    pb := { x.pb with closeTimer := Timer.elapse n x.pb.closeTimer, tripTimer := Timer.elapse n x.pb.tripTimer }
    check := { x.check with
      syncTimer := Timer.elapse n x.check.syncTimer, feedbackTimer := Timer.elapse n x.check.feedbackTimer }
    cable := x.cable.elapse n
    ship := x.ship.elapse n
    link := { x.link with
      gapTimer := Timer.elapse n x.link.gapTimer, watchdog := Timer.elapse n x.link.watchdog
      statusTimer := Timer.elapse n x.link.statusTimer, testAge := x.link.testAge.map (· + n) } }

/-- The part `n` timestamp ticks later, nothing else having happened. -/
def State.elapse (n : Nat) (s : State) : State :=
  { s with
    timestamp := s.timestamp + BitVec.ofNat 32 n
    due := { sample := s.due.sample - n, reference := s.due.reference - n, control := s.due.control - n,
             metering := s.due.metering - n }
    outlets := { a := s.outlets.a.elapse n, b := s.outlets.b.elapse n, c := s.outlets.c.elapse n }
    modules := s.modules.map (Module.elapse n)
    grants := s.grants.map fun r => { r with wait := r.wait - n }
    grid := { s.grid with channel := s.grid.channel.elapse n, overTimer := Timer.elapse n s.grid.overTimer } }

/-- The event at which a timer runs out: nothing when the timer is stopped (the expiry does not happen);
otherwise the time left on it has passed, and the expiry acts. -/
def State.atExpiry (s : State) (t : Timer) (act : State → State) : State :=
  match t with
  | none => s
  | some r => act (s.elapse r)

/-- A command of the running part. Before start-up is complete, in reset and without supply the part takes no
sample, runs no timer, receives no character and delivers no report, but for the receivers of the ship links in
start-up (R43, R66, R130, R191, R192; log entry 6). -/
def whenRunning (f : State → State) (s : State) : State := if s.phase = .running then f s else s

/-! ### Derived figures of the allocator (section 3.4) -/

/-- The numbers of an outlet's group members, ascending (R52). -/
def State.group (s : State) (o : OutletId) : List (Fin 8) :=
  allModules.filter fun m => (s.module m).group == some o

/-- The members of an outlet's group in one of the given states. -/
def State.members (s : State) (o : OutletId) (states : List ModuleState) : List (Fin 8) :=
  (s.group o).filter fun m => states.contains (s.module m).state

/-- The summed ratings of modules. -/
def State.ratings (s : State) (ms : List (Fin 8)) : Nat := (ms.map fun m => (s.module m).rating).sum

/-- The states that count in the committed rating. -/
def committedStates : List ModuleState := [.precharging, .selfTest, .standby, .running]

def State.committed (s : State) (o : OutletId) : Nat := s.ratings (s.members o committedStates)

/-- The committed rating of the members not marked release pending (R53, R54). -/
def State.committedUnmarked (s : State) (o : OutletId) : Nat :=
  s.ratings ((s.members o committedStates).filter fun m => !(s.module m).releasePending)

def State.groupCapacity (s : State) (o : OutletId) : Nat := s.ratings (s.members o [.standby, .running])

/-- The allocator's copy of the admitted capacity: 0 when no session is open. -/
def State.admitted (s : State) (o : OutletId) : Nat :=
  match (s.outlet o).session with
  | none => 0
  | some x => x.admitted

/-- An outlet's claim (section 3.4, R55). -/
def State.claim (s : State) (o : OutletId) : Nat := min (s.admitted o) (s.committed o)

def State.claims (s : State) : Nat := s.claim .a + s.claim .b + s.claim .c

def State.limits (s : State) : Nat := (s.outlet .a).limit + (s.outlet .b).limit + (s.outlet .c).limit

/-- The outlet's request in the grant queue. -/
def State.request (s : State) (o : OutletId) : Option Request := s.grants.find? (·.outlet == o)

/-! ### The interlock lock and the outputs (chapter 2) -/

/-- The first input that holds the lock of R31, in the order PLUG, PILOT, EARTH, ESTOP, ESTOP_ALL (log entry 41). -/
def State.blocking (s : State) (o : OutletId) : Option InterlockInput :=
  let i := (s.outlet o).interlocks
  if !i.plug then some (.ofOutlet o .plug)
  else if !i.pilot then some (.ofOutlet o .pilot)
  else if !i.earth then some (.ofOutlet o .earth)
  else if !i.estop then some (.ofOutlet o .estop)
  else if !s.estopAllMade then some .estopAll
  else none

/-- x_SB_CMD (section 2.3). -/
def State.sbCommand (s : State) (o : OutletId) : Bool :=
  match (s.outlet o).sb.channel with
  | .closing => true
  | .closed => true
  | _ => false

/-- x_PB_CLOSE (section 2.4). -/
def State.pbClose (s : State) (o : OutletId) : Bool := (s.outlet o).pb.channel == .closePulse

/-- x_PB_TRIP (section 2.4). -/
def State.pbTrip (s : State) (o : OutletId) : Bool := (s.outlet o).pb.channel == .tripPulse

/-- x_WINDOW: the level the check asks for, held de-asserted under the lock (R42). -/
def State.window (s : State) (o : OutletId) : Bool :=
  (s.outlet o).check.windowAsked && (s.blocking o).isNone

/-- The interlock check of R8 and R17: every input made, and both feedbacks open. -/
def State.interlocksGood (s : State) (o : OutletId) : Bool :=
  (s.blocking o).isNone && !(s.outlet o).sb.feedback && !(s.outlet o).pb.feedback

end Sys2Proof.Machine
end

