-- ==== Sys2Proof/Machine/Flags.lean ====
section
/-! DEFINITION. The status unit (chapter 12): condition levels, transition filters, event latches and counts,
summaries and ATTN#, the error queue; and the reply of an order, which a refusal shares with the error queue. -/

namespace Sys2Proof.Machine

def StatusUnit.get (u : StatusUnit) : Group → GroupStatus
  | .part => u.part
  | .outlet o => u.groups.get o

def StatusUnit.set (u : StatusUnit) (g : Group) (x : GroupStatus) : StatusUnit :=
  match g with
  | .part => { u with part := x }
  | .outlet o => { u with groups := u.groups.set o x }

/-- The filter of a condition; RISE until the host replaces it (R198). -/
def StatusUnit.filterOf (u : StatusUnit) (x : Item) : Filter :=
  match u.filters.find? (·.1 == x) with
  | some p => p.2
  | none => .rise

/-- The count of a name, 0 while its latch is Cleared. -/
def GroupStatus.count (g : GroupStatus) (x : Item) : Nat :=
  match g.counts.find? (·.1 == x) with
  | some p => p.2
  | none => 0

/-- Sets the latch of a name and raises its count, which holds at 255 (R193). -/
def GroupStatus.latch (names : List Item) (x : Item) (g : GroupStatus) : GroupStatus :=
  { g with counts := names.filterMap fun y =>
      let n := if y = x then addHolding 255 (g.count y) 1 else g.count y
      if n = 0 then none else some (y, n) }

/-- Whether a filter selects a change to the given level (R193). -/
def filterSelects : Filter → Bool → Bool
  | .rise, up => up
  | .fall, up => !up
  | .both, _ => true

/-- A set of names with one name put in or taken out, in table order. -/
def setName (names : List Item) (x : Item) (on : Bool) (xs : List Item) : List Item :=
  names.filter fun y => if y = x then on else xs.contains y

/-- An owner's report of a condition (R193): nothing at the level it already holds; otherwise the level is
recorded and the filter decides whether it latches. -/
def StatusUnit.report (g : Group) (x : Item) (level : Bool) (u : StatusUnit) : StatusUnit :=
  let st := u.get g
  if st.conditions.contains x = level then u
  else
    let st := { st with conditions := setName g.conditions x level st.conditions }
    u.set g (if filterSelects (u.filterOf x) level then st.latch g.items x else st)

def State.report (s : State) (g : Group) (x : Item) (level : Bool) : State :=
  { s with status := s.status.report g x level }

/-- The raising of an event (R193). -/
def State.raise (s : State) (g : Group) (x : Item) : State :=
  { s with status := s.status.set g ((s.status.get g).latch g.items x) }

/-- An outlet event. -/
def State.raiseAt (s : State) (o : OutletId) (x : Item) : State := s.raise (.outlet o) x

/-- STATE_CHANGED, with the new state code as the group's last state code (R193). -/
def State.raiseState (s : State) (o : OutletId) (code : Nat) : State :=
  let s := s.raiseAt o .stateChanged
  { s with status := s.status.set (.outlet o) { s.status.get (.outlet o) with lastState := some code } }

/-! ### The levels of the conditions, as their owners state them (section 12.1) -/

/-- The count the fill rules of chapter 10 use: 2,048 once the sequence is exhausted (R171). -/
def BillingLog.fill (l : BillingLog) : Nat :=
  match l.next with
  | none => Config.logCapacity
  | some _ => l.records.length

/-- The merged count of an outlet's open or held session. -/
def Outlet.mergedCount (x : Outlet) : Nat :=
  match x.session, x.held with
  | some r, _ => r.merged.count
  | none, some h => h.session.merged.count
  | none, none => 0

/-- The level of a condition of a group. A name that is no condition of the group has the level Cleared. -/
def State.level (s : State) : Group → Item → Bool
  | .part, .estopAll => !s.estopAllMade
  | .part, .moduleFaulted => s.modules.any fun m => m.state == .faulted
  | .part, .budgetOver => s.budgetOver
  | .part, .gridOver => s.grid.overSet
  | .part, .clockUnset => s.clock.isNone
  | .part, .tariffPending =>
    match s.pendingTariff with
    | some p => p.ready
    | none => false
  | .part, .logAlmostFull => s.log.threshold ≤ s.log.fill
  | .part, .logFull => s.log.fill == Config.logCapacity
  | .part, .closedWaiting => !s.log.closed.isEmpty
  | .part, .closedFull => s.log.closed.length == Config.closedCapacity
  | .part, .errorQueued => !s.status.errors.isEmpty
  | .outlet o, .estop => !(s.outlet o).interlocks.estop
  | .outlet o, .tripped => (s.outlet o).state == .tripped
  | .outlet o, .sbStuck => (s.outlet o).sb.stuckSet
  | .outlet o, .pbStuck => (s.outlet o).pb.stuckSet
  | .outlet o, .held => (s.outlet o).state == .held
  | .outlet o, .capacityShort =>
    (s.outlet o).state.within .cableLive .separating && (s.outlet o).limit < s.admitted o
  | .outlet o, .linkUp => (s.outlet o).link.up
  | .outlet o, .linkOverrun => (s.outlet o).link.overrun
  | .outlet o, .overloadPending => (s.outlet o).handover.overloadTimer.isSome
  | .outlet o, .merging => 0 < (s.outlet o).mergedCount
  | _, _ => false

/-- The owners' reports of one group, in table order. -/
def State.reportGroup (s : State) (g : Group) : State :=
  g.conditions.foldl (fun s x => s.report g x (s.level g x)) s

/-- The owners' reports of every condition at an event. -/
def State.reportAll (s : State) : State := allGroups.foldl State.reportGroup s

/-! ### Summaries and ATTN# (R194) -/

def StatusUnit.summary (u : StatusUnit) (g : Group) : Bool :=
  (u.get g).counts.any fun p => (u.get g).enabled.contains p.1

/-- ATTN# is driven low: the part runs, and an attended group has its summary Set. -/
def State.attention (s : State) : Bool :=
  s.phase == .running && s.status.attention.any s.status.summary

/-! ### The error queue (R197) and replies (R187) -/

/-- An entry joins the error queue; at 16 it replaces the newest with 399. -/
def StatusUnit.pushError (code : Nat) (text : String) (u : StatusUnit) : StatusUnit :=
  if u.errors.length < Config.errorCapacity then { u with errors := u.errors ++ [(code, text)] }
  else { u with errors := u.errors.dropLast ++ [(399, "QUEUE OVERFLOW")] }

def State.pushError (s : State) (code : Nat) (text : String) : State :=
  let s := { s with status := s.status.pushError code text }
  s.report .part .errorQueued (!s.status.errors.isEmpty)

/-- The reply of the order in hand: the interpreter sends it (R184). -/
def State.answer (s : State) (r : Reply) : State :=
  { s with terminal := { s.terminal with reply := some r, lastReply := some r } }

/-- A NO reply, which also enters the error queue (R187, R197). -/
def State.refuse (s : State) (code : Nat) (text : String) : State :=
  (s.answer (.no code text)).pushError code text

/-- The default texts of the refusal codes (R187). -/
def refusalText : Nat → String
  | 100 => "SYNTAX"
  | 110 => "UNKNOWN ORDER"
  | 120 => "NOT ALLOWED"
  | 200 => "WRONG STATE"
  | 210 => "OUTLET HELD"
  | 220 => "NO SESSION"
  | 230 => "INTERLOCK"
  | 240 => "PROFILE MISMATCH"
  | 250 => "LAST MODULE"
  | 260 => "LOAD ON SHORE"
  | 270 => "NO RECORD"
  | 300 => "INPUT OVERFLOW"
  | _ => "QUEUE OVERFLOW"

/-- A refusal with the default text of its code. -/
def State.no (s : State) (code : Nat) : State := s.refuse code (refusalText code)

/-- An OK reply, or OK CLAMPED when an argument was clamped. -/
def State.okOr (s : State) (clamped : Bool) (pairs : List (String × Value)) : State :=
  s.answer (if clamped then .clamped pairs else .ok "" pairs)

def State.ok (s : State) (pairs : List (String × Value)) : State := s.answer (.ok "" pairs)

/-- An OK reply with the word that says how the order ended. -/
def State.okWord (s : State) (word : String) : State := s.answer (.ok word [])

end Sys2Proof.Machine
end

