-- ==== Sys2Proof/Machine/Transmit.lean ====
section
/-! DEFINITION. The transmit queue of a ship link (section 7.6): what appending a frame does, and what
SHORE_STATUS carries. -/

namespace Sys2Proof.Machine

/-- The measured power in kW (R76, R126). -/
def PowerRecord.kW (p : PowerRecord) : Int := divHalfAway p.p 1000

/-- The fields of a SHORE_STATUS whose transmission begins now (R126). -/
def State.statusFields (s : State) (o : OutletId) : StatusFields :=
  let x := s.outlet o
  { code := x.state.code
    limit := x.limit
    power := if x.power.validity = .invalid then 0 else x.power.kW
    parallelSeconds := match x.handover.parallelTimer with
      | none => 0
      | some r => (r + Config.ticksPerSecond - 1) / Config.ticksPerSecond
    refusal := x.link.lastRefusal
    transferDone := x.handover.transferDone
    returnAccepted := x.handover.returnAccepted
    powerUnknown := x.power.validity = .invalid }

/-- A LINKTEST runs on the link (R129). -/
def ShipLink.testing (l : ShipLink) : Bool := l.testAge.isSome

/-- A SHORE_STATUS of any kind. -/
def ShoreFrame.isStatus : ShoreFrame → Bool
  | .shoreStatus _ => true
  | _ => false

/-- The transmitter starts the head frame when the link is UP, no frame is in transmission and no LINKTEST
runs (R127, R129); a SHORE_STATUS is filled at this event (R126). -/
def State.startSending (s : State) (o : OutletId) : State :=
  let l := (s.outlet o).link
  if l.up && !l.testing && !l.sending then
    match l.queue with
    | [] => s
    | .shoreStatus _ :: rest =>
      s.modifyLink o fun l =>
        { l with queue := .shoreStatus (some (s.statusFields o)) :: rest, sending := true }
    | _ :: _ => s.modifyLink o fun l => { l with sending := true }
  else s

/-- The frames of the queue that wait: all but a head in transmission. -/
def ShipLink.waiting (l : ShipLink) : List ShoreFrame := if l.sending then l.queue.drop 1 else l.queue

/-- The queue without its waiting SHORE_STATUS. -/
def ShipLink.withoutWaitingStatus (l : ShipLink) : List ShoreFrame :=
  (if l.sending then l.queue.take 1 else []) ++ l.waiting.filter fun f => !f.isStatus

/-- The queue after an event frame is appended (R125): joined, joined in place of a waiting SHORE_STATUS, or
counted as a drop. -/
def ShipLink.join (l : ShipLink) (f : ShoreFrame) : ShipLink :=
  if l.queue.length < Config.transmitCapacity then { l with queue := l.queue ++ [f] }
  else if l.waiting.any (·.isStatus) then { l with queue := l.withoutWaitingStatus ++ [f] }
  else { l with counts := { l.counts with transmitDrops := count16 l.counts.transmitDrops } }

/-- Whether an event frame appended now joins the queue. -/
def ShipLink.hasRoom (l : ShipLink) : Bool :=
  l.queue.length < Config.transmitCapacity || l.waiting.any (·.isStatus)

/-- The appending of an event frame (R125): discarded while the link is DOWN. -/
def State.send (s : State) (o : OutletId) (f : ShoreFrame) : State :=
  if (s.outlet o).link.up then (s.modifyLink o fun l => l.join f).startSending o else s

/-- The appending of a REFUSE, whose cause becomes the last refusal cause while the link is UP (R125). -/
def State.sendRefuse (s : State) (o : OutletId) (type : Byte) (cause : RefuseCause) : State :=
  if (s.outlet o).link.up then
    (s.modifyLink o fun l => { l with lastRefusal := some cause }).send o (.refuse type cause)
  else s

/-- The appending of a SHORE_STATUS (R126): it takes a waiting one's place, is skipped and counted while
another is in transmission or the queue has no room, and joins otherwise. -/
def State.sendStatus (s : State) (o : OutletId) : State :=
  let l := (s.outlet o).link
  if l.waiting.any (·.isStatus) then s
  else if (l.queue.any (·.isStatus)) || !(l.queue.length < Config.transmitCapacity) then
    s.modifyLink o fun l => { l with counts := { l.counts with statusSkips := count16 l.counts.statusSkips } }
  else (s.modifyLink o fun l => { l with queue := l.queue ++ [.shoreStatus none] }).startSending o

end Sys2Proof.Machine
end

