-- ==== Sys2Proof/Machine/Generator.lean ====
section
/-! DEFINITION. The reference generator's part in an outlet's state change (R67, R77, R79, R80), its shares
(R81, R82), and the state change itself (R1, R193). -/

namespace Sys2Proof.Machine

/-! ### Shares -/

/-- The share of the `i`-th of `n` RUNNING members of a remainder (R81). -/
def equalPart (remainder n i : Nat) : Nat := remainder / n + if i < remainder % n then 1 else 0

/-- Sets the shares of members, taken in ascending number, to their equal parts. -/
def State.shareOut (s : State) (remainder n : Nat) : List (Fin 8) → Nat → State
  | [], _ => s
  | m :: rest, i =>
    (s.modifyModule m fun x => { x with share := equalPart remainder n i }).shareOut remainder n rest (i + 1)

/-- The shares of an outlet's group as an event that changes its RUNNING or RELEASING members leaves them
(R81): 0 in STOPPED; otherwise the RUNNING members take what the RELEASING members do not carry. -/
def State.computeShares (s : State) (o : OutletId) : State :=
  if (s.outlet o).reference.mode = .stopped then
    (s.group o).foldl (fun s m => s.modifyModule m fun x => { x with share := 0 }) s
  else
    let running := s.members o [.running]
    let carried := ((s.members o [.releasing]).map fun m => (s.module m).share).sum
    s.shareOut (1000 - carried) running.length running 0

/-! ### Mode selection -/

/-- R80: the generator stops at once; the accumulator holds its value. -/
def Reference.stop (r : Reference) : Reference :=
  { r with mode := .stopped, pending := none, setFreq := 0, freqTarget := 0, word := 0, setVolt := 0,
           voltTarget := 0, setpoint := 0, trim := 0, softSteps := 0 }

/-- The mode of an outlet state (R67). The phases of ENERGISING before RAMP are STOPPED; RAMP selects
SOFT_START by itself. -/
def modeOf : OutletState → Mode
  | .cableLive => .island
  | .synchronising => .track
  | .transferIn => .parallel
  | .shoreSupply => .island
  | .transferOut => .parallel
  | .separating => .parallel
  | _ => .stopped

/-- The measured power clamped to 0 kW up to the capacity limit (R77). -/
def Outlet.startingPower (x : Outlet) : Nat := (clampInt 0 x.limit x.power.kW).toNat

/-- The setpoint at an entry (R77); other entries in PARALLEL keep it. -/
def Outlet.startingSetpoint (x : Outlet) : OutletState → Nat
  | .transferIn => if x.power.validity.usable then x.startingPower else 0
  | .transferOut => if x.power.validity.usable then x.startingPower else x.limit
  | _ => x.reference.setpoint

/-- A mode other than STOPPED waits for the next control step (R67); out of PARALLEL the setpoint and the trim
become 0 at the entry. -/
def Reference.select (r : Reference) (m : Mode) : Reference :=
  if m = .parallel then { r with pending := some m }
  else { r with pending := some m, setpoint := 0, trim := 0 }

/-- What the generator does at the entry to an outlet state (R67). From TRANSFER_IN or TRANSFER_OUT to SEPARATING too,
PARALLEL is stored as the pending mode (DESIGN CHOICE, log entry 63). -/
def Outlet.selectMode (x : Outlet) (st : OutletState) : Reference :=
  match modeOf st with
  | .stopped => x.reference.stop
  | .parallel =>
    { x.reference.select .parallel with
      setpoint := x.startingSetpoint st, rising := st == .transferIn }
  | m => x.reference.select m

/-- The entry to an outlet state: the reference mode is selected, the overload timer stops outside the three
states of R147, the phase of ENERGISING is left, and STATE_CHANGED is raised. An entry to the state the outlet
is in already is no change. -/
def State.enter (s : State) (o : OutletId) (st : OutletState) : State :=
  if (s.outlet o).state = st then s
  else
    let s := s.modify o fun x =>
      { x with
        state := st
        phase := none
        reference := x.selectMode st
        handover := if st.within .transferIn .transferOut then x.handover
          else { x.handover with overloadTimer := none } }
    (if modeOf st = .stopped then s.computeShares o else s).raiseState o st.code

/-- R79: a capacity limit that falls clamps the setpoint at the same event. -/
def Reference.clampTo (r : Reference) (limit : Nat) : Reference := { r with setpoint := min r.setpoint limit }

end Sys2Proof.Machine
end

