-- ==== Sys2Proof/Machine/Breakers.lean ====
section
/-! DEFINITION. The breaker channels of the interlock and breaker unit (sections 2.3, 2.4): what each channel
answers to a request, to its feedback and to its timers. The reports a channel makes are taken by the outlet
controller and the synchronising check in the files after this one. -/

namespace Sys2Proof.Machine

/-- The PB trip timer (R39). -/
def tripTime : Nat := ms 200

/-- The SB close and open timers (R33, R35). -/
def sbCloseTime : Nat := ms 500

def sbOpenTime : Nat := ms 200

/-! ### The paralleling breaker -/

/-- A trip pulse begins; the mark says whether it ends a close pulse (R38, R41). -/
def ParallelBreaker.startTrip (b : ParallelBreaker) (afterClose : Bool) : ParallelBreaker :=
  { b with channel := .tripPulse, closeTimer := none, tripTimer := some tripTime, afterClose := afterClose }

/-- A trip request (R39): in CLOSE_PULSE it cancels the close (R38), in TRIP_PULSE it changes nothing. -/
def ParallelBreaker.requestTrip (b : ParallelBreaker) : ParallelBreaker :=
  match b.channel with
  | .idle => b.startTrip false
  | .stuck => b.startTrip false
  | .closePulse => b.startTrip true
  | .tripPulse => b

/-- The cancelling of a close pulse in favour of a trip pulse (R38). -/
def ParallelBreaker.cancelClose (b : ParallelBreaker) : ParallelBreaker :=
  if b.channel = .closePulse then b.startTrip true else b

/-- What the unit does with the PB by itself at an interlock loss (R30): a close pulse is cancelled, a PB in
IDLE whose feedback reports closed is tripped, and one that is open or being opened is left alone. R30 does not
name a PB in STUCK, closed with no timer running: the unit's trip request of R39 starts a new pulse there (DESIGN
CHOICE, log entry 52). -/
def ParallelBreaker.openOnLoss (b : ParallelBreaker) : ParallelBreaker :=
  match b.channel with
  | .closePulse => b.startTrip true
  | .idle => if b.feedback then b.startTrip false else b
  | .stuck => b.startTrip false
  | .tripPulse => b

/-- The first condition of R37 that a close pulse request fails, in the order given. -/
def State.pbRefusal (s : State) (o : OutletId) : Option PbRefusal :=
  let x := s.outlet o
  if x.pb.channel ≠ .idle then some .channelBusy
  else match s.blocking o with
    | some i => some (.lock i)
    | none =>
      if x.sb.channel ≠ .closed then some .sbNotClosed
      else if x.pb.feedback then some .pbNotOpen
      else none

/-- An accepted close pulse request (R37): the pulse runs for the closing time plus 100 ms. -/
def ParallelBreaker.startClose (b : ParallelBreaker) (closingTime : Nat) : ParallelBreaker :=
  { b with channel := .closePulse, closeTimer := some (ms (closingTime + 100)) }

/-- The end of a pulse that leaves the channel IDLE. -/
def ParallelBreaker.rest (b : ParallelBreaker) : ParallelBreaker :=
  { b with channel := .idle, closeTimer := none, tripTimer := none, afterClose := false }

/-- R40: the trip has failed; PB_STUCK is raised. -/
def ParallelBreaker.fail (b : ParallelBreaker) : ParallelBreaker :=
  { b with channel := .stuck, closeTimer := none, tripTimer := none, afterClose := false, stuckSet := true }

def State.modifyPb (s : State) (o : OutletId) (f : ParallelBreaker → ParallelBreaker) : State :=
  s.modify o fun x => { x with pb := f x.pb }

def State.requestPbTrip (s : State) (o : OutletId) : State := s.modifyPb o ParallelBreaker.requestTrip

/-! ### The shore breaker -/

def State.modifySb (s : State) (o : OutletId) (f : ShoreBreaker → ShoreBreaker) : State :=
  s.modify o fun x => { x with sb := f x.sb }

/-- An SB open request by channel state (R35). -/
def ShoreBreaker.requestOpen (b : ShoreBreaker) : ShoreBreaker :=
  match b.channel with
  | .closing => { b with channel := .opened, closeTimer := none }
  | .closed => { b with channel := .opening, openTimer := some sbOpenTime }
  | _ => b

/-- Whether an SB open request is answered with the report "SB open" at once (R35). -/
def ShoreBreaker.answersOpen (b : ShoreBreaker) : Bool :=
  match b.channel with
  | .opened => true
  | .closing => true
  | _ => false

/-- A closure without a command (R36): the channel opens the breaker again. -/
def ShoreBreaker.openAgain (b : ShoreBreaker) : ShoreBreaker :=
  { b with channel := .opening, openTimer := some sbOpenTime }

/-- The close request of the outlet controller (R33): under the lock it is refused; "SB not open" is kept to be
repeated at the next "SB open" (R12). In OPENING or STUCK under the lock both answers apply, and "SB not open" is
given (DESIGN CHOICE, log entry 53). -/
def State.requestSbClose (s : State) (o : OutletId) : State :=
  match (s.outlet o).sb.channel with
  | .opened =>
    if (s.blocking o).isSome then s.modify o fun x => { x with closeWanted := false }
    else s.modify o fun x =>
      { x with sb := { x.sb with channel := .closing, closeTimer := some sbCloseTime }, closeWanted := false }
  | .closing => s.modify o fun x => { x with closeWanted := false }
  | .closed => s.modify o fun x => { x with closeWanted := false }
  | .opening => s.modify o fun x => { x with closeWanted := true }
  | .stuck => s.modify o fun x => { x with closeWanted := true }

/-- The report "SB open": the outlet controller, waiting in phase CLOSING after "SB not open", repeats its close
request (R12). Its part in DE_ENERGISING is taken where the event ends (R21). -/
def State.sbOpenReport (s : State) (o : OutletId) : State :=
  let x := s.outlet o
  if x.state = .energising ∧ x.phase = some .closing ∧ x.closeWanted then s.requestSbClose o else s

/-- An SB open request (R35). The SB channel leaving CLOSED ends a close pulse in progress (R38). -/
def State.requestSbOpen (s : State) (o : OutletId) : State :=
  let report := (s.outlet o).sb.answersOpen
  let leaves := (s.outlet o).sb.channel = .closed
  let s := s.modifySb o ShoreBreaker.requestOpen
  let s := if leaves then s.modifyPb o ParallelBreaker.cancelClose else s
  if report then s.sbOpenReport o else s

/-- The unit's own opening of an outlet's breakers at an interlock loss (R30). -/
def State.openOnLoss (s : State) (o : OutletId) : State :=
  (match (s.outlet o).sb.channel with
    | .closing => s.requestSbOpen o
    | .closed => s.requestSbOpen o
    | _ => s).modifyPb o ParallelBreaker.openOnLoss

end Sys2Proof.Machine
end

