-- ==== Sys2Proof/Machine/Allocator.lean ====
section
/-! DEFINITION. The module pool allocator's shared operations (chapter 3): stopping, releasing and granting
modules, capacity limits, the budget, the grant queue and the surplus walk. -/

namespace Sys2Proof.Machine

/-- The rest time of a module that enters OFF (R44). -/
def restTime : Nat := seconds 30

/-- A module out of its group, its lifecycle timers stopped and its share 0; it no longer counts among the modules
of an initial grant (R11). -/
def Module.leave (m : Module) : Module :=
  { m with group := none, initial := false, share := 0, releasePending := false, precharge := none, selfTest := none,
           drain := none, releaseShare := 0, drainCount := 0, rest := none }

/-- A module sent to OFF with its rest time, or to OUT_OF_SERVICE when its service flag is Set. -/
def Module.retire (m : Module) : Module :=
  if m.service then { m.leave with state := .outOfService }
  else { m.leave with state := .off, rest := some restTime }

/-- A stop, or the end of a drain: STOP is due (R49, R51). -/
def Module.stop (m : Module) : Module := { m.retire with command := some .stop }

/-- R50: a module faulted with a code. -/
def Module.faultWith (m : Module) (code : FaultCode) : Module :=
  { m.leave with state := .faulted, lastFault := some code, command := some .stop }

/-- A member of a group: PRECHARGING to RELEASING (R52). -/
def ModuleState.isMember : ModuleState → Bool
  | .precharging => true
  | .selfTest => true
  | .standby => true
  | .running => true
  | .releasing => true
  | _ => false

/-- R44. -/
def Module.isFree (m : Module) : Bool :=
  m.state == .off && !m.service && m.rest.isNone && m.answering

/-- R46: a granted module joins the group and precharges; one of an initial grant is noted as such (R11). -/
def Module.grantTo (m : Module) (o : OutletId) (kind : RequestKind) : Module :=
  { m with state := .precharging, group := some o, initial := kind == .initial, command := some .charge,
           precharge := some (seconds 10), releasePending := false, share := 0 }

/-- R48: a member enters RUNNING. -/
def Module.run (m : Module) : Module := { m with state := .running, command := some .run }

/-- R49, R82: a RUNNING member is released with the share it holds, and its drain starts. -/
def Module.release (m : Module) : Module :=
  { m with state := .releasing, releasePending := false, drain := some (seconds 2), releaseShare := m.share,
           drainCount := 0 }

/-- Updates every module of a list. -/
def State.modifyModules (s : State) (ms : List (Fin 8)) (f : Module → Module) : State :=
  ms.foldl (fun s m => s.modifyModule m f) s

/-- The group of an outlet is stopped without drain (R51). -/
def State.stopGroup (s : State) (o : OutletId) : State := s.modifyModules (s.group o) Module.stop

/-- Every STANDBY member runs (R48). -/
def State.runGroup (s : State) (o : OutletId) : State :=
  (s.modifyModules (s.members o [.standby]) Module.run).computeShares o

/-! ### Capacity limits (R52) -/

/-- The limit a recomputation gives: the smaller of admitted capacity and group capacity, held from rising
while BUDGET_OVER is Set. -/
def State.newLimit (s : State) (o : OutletId) : Nat :=
  let n := min (s.admitted o) (s.groupCapacity o)
  if s.budgetOver then min (s.outlet o).limit n else n

/-- The recomputation of an outlet's limit: a change is reported to the generator, which clamps its setpoint
(R79), and to the ship in a CAPACITY frame in ENERGISING to SEPARATING. -/
def State.recomputeLimit (s : State) (o : OutletId) : State :=
  let n := s.newLimit o
  if n = (s.outlet o).limit then s
  else
    let s := s.modify o fun x => { x with limit := n, reference := x.reference.clampTo n }
    if (s.outlet o).state.supplied then s.send o (.capacity n) else s

def State.recomputeLimits (s : State) : State :=
  ((s.recomputeLimit .a).recomputeLimit .b).recomputeLimit .c

/-- BUDGET_OVER follows the sum of the claims; the event that Clears it recomputes every limit (R52, R55). -/
def State.settleBudget (s : State) : State :=
  let isOver : Bool := s.gridLimit < s.claims
  if s.budgetOver && !isOver then ({ s with budgetOver := false }).recomputeLimits
  else { s with budgetOver := isOver }

/-! ### The grant queue (R54 to R58) -/

/-- The free modules taken in ascending number until their ratings reach the wanted kW, `none` when they do
not (R56). -/
def State.take (s : State) : List (Fin 8) → Nat → Option (List (Fin 8))
  | [], wanted => if wanted = 0 then some [] else none
  | m :: rest, wanted =>
    if wanted = 0 then some []
    else if (s.module m).isFree then (s.take rest (wanted - (s.module m).rating)).map (m :: ·)
    else s.take rest wanted

/-- The sum of the claims with another claim of one outlet (R55). -/
def State.claimsWith (s : State) (o : OutletId) (claim : Nat) : Nat := s.claims - s.claim o + claim

/-- The modules a request would be granted now, `none` when it cannot be granted (R55, R56). -/
def State.grantable (s : State) (r : Request) : Option (List (Fin 8)) :=
  match s.take allModules r.wanted with
  | none => none
  | some ms =>
    let claim := min (s.admitted r.outlet) (s.committed r.outlet + s.ratings ms)
    if s.claimsWith r.outlet claim ≤ s.gridLimit then some ms else none

/-- R11: an initial grant takes the outlet from ADMITTED to ENERGISING, phase PREPARE. -/
def State.startEnergising (s : State) (o : OutletId) : State :=
  (s.enter o .energising).modify o fun x =>
    { x with phase := some .prepare, rampComplete := false, closeWanted := false }

/-- The granting of the head of the queue. -/
def State.grant (s : State) (r : Request) (rest : List Request) (ms : List (Fin 8)) : State :=
  let s := ({ s with grants := rest }).modifyModules ms (·.grantTo r.outlet r.kind)
  match r.kind with
  | .initial => s.startEnergising r.outlet
  | .topUp => s

/-- R56: the head is granted while it can be, and the new head examined at the same event. The fuel is the
length of the queue. -/
def State.examine (s : State) : Nat → State
  | 0 => s
  | n + 1 =>
    match s.grants with
    | [] => s
    | r :: rest =>
      match s.grantable r with
      | none => s
      | some ms => (s.grant r rest ms).examine n

/-- A request leaves the queue without a grant (R57, R58). -/
def State.withdraw (s : State) (o : OutletId) : State :=
  { s with grants := s.grants.filter (·.outlet != o) }

/-- The wait of a request (R57). -/
def grantWait : Nat := seconds 300

/-- A request joins the tail of the queue; the request an outlet already holds has its wanted kW changed
instead, keeping its place and its wait (R54). -/
def State.ask (s : State) (o : OutletId) (kind : RequestKind) (wanted : Nat) : State :=
  if (s.request o).isSome then
    { s with grants := s.grants.map fun r => if r.outlet = o then { r with wanted := wanted } else r }
  else
    { s with grants := s.grants ++ [{ outlet := o, kind := kind, wanted := wanted, wait := grantWait }] }

/-- The top-up of an outlet after a loss or a raise (R53, R58, R61): the shortfall is asked for, a waiting
top-up without a shortfall is withdrawn. -/
def State.topUp (s : State) (o : OutletId) : State :=
  if s.committedUnmarked o < s.admitted o then s.ask o .topUp (s.admitted o - s.committedUnmarked o)
  else s.withdraw o

/-- A waiting top-up has its wanted kW recomputed (R58, R62); no request is made. -/
def State.adjustTopUp (s : State) (o : OutletId) : State :=
  if (s.request o).isSome then s.topUp o else s

/-! ### The surplus walk and the release (R62, R63) -/

/-- The surplus members: in descending module number, each whose rating the others that are not surplus can
spare, up to the first that is needed. -/
def State.surplusOf (s : State) (admitted : Nat) : Nat → List (Fin 8) → List (Fin 8)
  | _, [] => []
  | total, m :: rest =>
    if admitted ≤ total - (s.module m).rating ∧ (s.module m).rating ≤ total then
      m :: s.surplusOf admitted (total - (s.module m).rating) rest
    else []

def State.surplus (s : State) (o : OutletId) : List (Fin 8) :=
  s.surplusOf (s.admitted o) (s.committed o) (s.members o committedStates).reverse

/-- The remaining capacity (R63). -/
def State.remaining (s : State) (o : OutletId) : Nat :=
  s.groupCapacity o - s.ratings ((s.members o [.standby, .running]).filter fun m => (s.module m).releasePending)

/-- The release condition (R63). -/
def State.mayRelease (s : State) (o : OutletId) : Bool :=
  (s.outlet o).power.validity.usable && (s.outlet o).power.p ≤ (s.remaining o * 900 : Nat)

/-- The test of the release condition: at the event at which it holds, every marked member is released. It is made
in ENERGISING to SEPARATING only, since a mark is moot in DE_ENERGISING (R63; DEDUCED, log entry 54). -/
def State.testRelease (s : State) (o : OutletId) : State :=
  let marked := (s.members o [.running]).filter fun m => (s.module m).releasePending
  if (s.outlet o).state.supplied && !marked.isEmpty && s.mayRelease o then (s.modifyModules marked Module.release).computeShares o else s

/-- The marks are Cleared, then the surplus members in RUNNING are marked (R62; also at a raise, R61, and at a
loss while marks stand, R63). -/
def State.markSurplus (s : State) (o : OutletId) : State :=
  let extra := s.surplus o
  let s := s.modifyModules (s.group o) fun m => { m with releasePending := false }
  s.modifyModules (extra.filter fun m => (s.module m).state == .running) fun m => { m with releasePending := true }

/-- A capacity decrease (R62), with the release condition tested at the event itself (R63). -/
def State.decrease (s : State) (o : OutletId) (kW : Nat) : State :=
  let s := s.modifySession o fun x => { x with admitted := kW }
  let s := s.recomputeLimit o
  let idle := (s.surplus o).filter fun m => (s.module m).state != .running
  let s := s.markSurplus o
  let s := (s.modifyModules idle Module.stop).adjustTopUp o
  (s.testRelease o).recomputeLimit o

end Sys2Proof.Machine
end

