-- ==== Sys2Proof/Machine/BillingLog.lean ====
section
/-! DEFINITION. The billing log and the closed-session queue (chapter 10): writing and merging an interval,
placing a closed session, releasing records, and the read window. -/

namespace Sys2Proof.Machine

/-- Fewer than 2,048 records, as the rules count them (R171, R172). -/
def BillingLog.hasRoom (l : BillingLog) : Bool := l.fill < Config.logCapacity

/-- A record is written at the tail with the counter's value, which rises by one or is exhausted (R171). -/
def BillingLog.write (l : BillingLog) (r : Session) (f : IntervalFigures) : BillingLog :=
  match l.next with
  | none => l
  | some n =>
    { l with
      records := l.records ++
        [{ sequence := n, session := r.number, outlet := r.outlet, start := f.start, duration := f.duration,
           importWh := f.importWh, exportWh := f.exportWh, mergedCount := r.merged.count, flags := f.flags }]
      next := if n < Config.max32 then some (n + 1) else none }

/-- The longest duration a record or the merged figures hold, in seconds (section 10.1, R173). -/
def longestDuration : Nat := 999999999

/-- An interval's figures with a session's merged figures (R172). -/
def Merged.combine (m : Merged) (f : IntervalFigures) : IntervalFigures :=
  if m.count = 0 then f
  else
    { start := m.start, duration := addHolding longestDuration m.duration f.duration,
      importWh := m.importWh.add f.importWh, exportWh := m.exportWh + f.exportWh,
      flags := addFlags (addFlags f.flags m.flags) [.merged] }

/-- An interval folded into the merged figures (R173). -/
def Merged.fold (m : Merged) (f : IntervalFigures) : Merged :=
  { start := if m.count = 0 then f.start else m.start
    duration := addHolding longestDuration m.duration f.duration
    importWh := m.importWh.add f.importWh
    exportWh := m.exportWh + f.exportWh
    count := count16 m.count
    flags := addFlags m.flags f.flags }

/-- The session's figures once a merge has been told to the metering unit (R173). -/
def Session.merge (r : Session) (f : IntervalFigures) : Session :=
  { r with merged := r.merged.fold f,
           quality := if r.merged.count = 0 then addFlags r.quality [.merged] else r.quality }

/-- An interval handed without FINAL (R172, R173): written while the log has room, merged otherwise. -/
def State.handInterval (s : State) (o : OutletId) (f : IntervalFigures) : State :=
  match (s.outlet o).session with
  | none => s
  | some r =>
    if s.log.hasRoom then
      ({ s with log := s.log.write r (r.merged.combine f) }).modifySession o fun r =>
        { r with merged := Merged.none }
    else s.modifySession o fun r => r.merge f

/-! ### Placing a closed session (R22, R174, R23) -/

/-- Both conditions of R22. -/
def BillingLog.canPlace (l : BillingLog) : Bool := l.hasRoom && l.closed.length < Config.closedCapacity

/-- The FINAL record is written with the merged figures, which are then zero, and the session record joins the
queue (R174, R172). -/
def BillingLog.place (l : BillingLog) (h : HeldRecord) : BillingLog :=
  let l := l.write h.session (h.session.merged.combine h.final)
  { l with closed := l.closed ++ [{ h.session with merged := Merged.none }] }

/-- The state an outlet without a session takes from its debounced PLUG state (R1). -/
def Outlet.restState (x : Outlet) : OutletState := if x.interlocks.plug then .cabled else .vacant

/-- The placing of an outlet's held record, when both conditions of R22 hold. -/
def State.tryPlace (s : State) (o : OutletId) : State :=
  match (s.outlet o).held with
  | none => s
  | some h =>
    if s.log.canPlace then
      (({ s with log := s.log.place h }).modify o fun x => { x with held := none }).enter o
        (s.outlet o).restState
    else s.enter o .held

/-- Puts an outlet into a list kept in ascending order of a key. -/
def insertBy (key : OutletId → Nat) (o : OutletId) : List OutletId → List OutletId
  | [] => [o]
  | p :: rest => if key o ≤ key p then o :: p :: rest else p :: insertBy key o rest

/-- Outlets in ascending order of a key. -/
def sortBy (key : OutletId → Nat) (os : List OutletId) : List OutletId := os.foldr (insertBy key) []

/-- The number of an outlet's open or held session. -/
def Outlet.sessionNumber (x : Outlet) : Nat :=
  match x.session, x.held with
  | some r, _ => r.number
  | none, some h => h.session.number
  | none, none => 0

/-- Outlets in ascending order of session number. -/
def State.bySession (s : State) (os : List OutletId) : List OutletId :=
  sortBy (fun o => (s.outlet o).sessionNumber) os

/-- The outlets that hold a held record, in ascending order of session number. -/
def State.heldOutlets (s : State) : List OutletId :=
  s.bySession (allOutlets.filter fun o => (s.outlet o).held.isSome)

/-- R23: held outlets are examined and placed in ascending order of session number. -/
def State.placeHeld (s : State) : State := s.heldOutlets.foldl State.tryPlace s

/-- The session numbers an examination placed from HELD. -/
def placedNumbers (before after : State) : List Nat :=
  (before.heldOutlets.filter fun o => (after.outlet o).held.isNone).map fun o =>
    (before.outlet o).sessionNumber

/-! ### Releasing and reading (R176 to R179) -/

def BillingLog.oldest (l : BillingLog) : Option Nat := l.records.head?.map (·.sequence)

def BillingLog.newest (l : BillingLog) : Option Nat := l.records.getLast?.map (·.sequence)

/-- The read window after a release (R178). -/
def BillingLog.adjustWindow (l : BillingLog) : BillingLog :=
  match l.oldest, l.window with
  | some a, some w =>
    if w.last < a then { l with window := none }
    else { l with window := some { w with first := max w.first a, pointer := max w.pointer a } }
  | _, _ => { l with window := none }

/-- The Wh of the removed records join the released totals of their outlets (R178). -/
def Outlet.addReleased (o : OutletId) (gone : List LogRecord) (x : Outlet) : Outlet :=
  let mine := gone.filter (·.outlet == o)
  { x with meter := { x.meter with
      releasedImport := x.meter.releasedImport + (mine.map (·.importWh.sum)).sum
      releasedExport := x.meter.releasedExport + (mine.map (·.exportWh)).sum } }

/-- The records up to and including a sequence leave the log, and the window follows (R178). -/
def State.releaseRecords (s : State) (seq : Nat) : State :=
  let gone := s.log.records.filter (·.sequence ≤ seq)
  let s := allOutlets.foldl (fun s o => s.modify o (Outlet.addReleased o gone)) s
  { s with log := ({ s.log with records := s.log.records.filter (seq < ·.sequence) }).adjustWindow }

end Sys2Proof.Machine
end

