-- ==== Sys2Proof/Machine/Metering.lean ====
section
/-! DEFINITION. The metering unit (chapter 9): clock, bands, metering tick, intervals, tariff tables, pricing
and the close of a session. -/

namespace Sys2Proof.Machine

/-! ### The clock (R153) -/

def isLeap (year : Nat) : Bool := year % 4 == 0 && (year % 100 != 0 || year % 400 == 0)

def daysIn (year month : Nat) : Nat :=
  if month = 2 then (if isLeap year then 29 else 28)
  else if month = 4 ∨ month = 6 ∨ month = 9 ∨ month = 11 then 30
  else 31

/-- A reading that exists: years 2000 to 9999, the calendar and times of R153. -/
def Clock.isReading (c : Clock) : Bool :=
  2000 ≤ c.year && c.year ≤ 9999 && 1 ≤ c.month && c.month ≤ 12 && 1 ≤ c.day &&
    c.day ≤ daysIn c.year c.month && c.hour ≤ 23 && c.minute ≤ 59 && c.second ≤ 59 && c.tenth ≤ 9

/-- The next day at the same time. -/
def Clock.nextDay (c : Clock) : Clock :=
  if c.day < daysIn c.year c.month then { c with day := c.day + 1 }
  else if c.month < 12 then { c with day := 1, month := c.month + 1 }
  else { c with day := 1, month := 1, year := if c.year < 9999 then c.year + 1 else 2000 }

/-- One tenth of a second later. -/
def Clock.advance (c : Clock) : Clock :=
  if c.tenth < 9 then { c with tenth := c.tenth + 1 }
  else
    let c := { c with tenth := 0 }
    if c.second < 59 then { c with second := c.second + 1 }
    else
      let c := { c with second := 0 }
      if c.minute < 59 then { c with minute := c.minute + 1 }
      else
        let c := { c with minute := 0 }
        if c.hour < 23 then { c with hour := c.hour + 1 } else { c with hour := 0 }.nextDay

def Clock.minuteOfDay (c : Clock) : Nat := c.hour * 60 + c.minute

/-- A reading written into a record: to the second. -/
def Clock.stamp (c : Clock) : Clock := { c with tenth := 0 }

/-- The present reading as a record takes it. -/
def State.stamp (s : State) : Option Clock := s.clock.map Clock.stamp

/-! ### Bands (R159) -/

def BandWindow.contains (w : BandWindow) (m : Nat) : Bool :=
  w.enabled &&
    (if w.start < w.stop then w.start ≤ m && m < w.stop
     else if w.stop < w.start then w.start ≤ m || m < w.stop
     else true)

/-- The band of a tick taken at a reading. -/
def Tariff.band (t : Tariff) : Option Clock → Nat
  | none => 0
  | some c =>
    if t.window1.contains c.minuteOfDay then 1
    else if t.window2.contains c.minuteOfDay then 2
    else if t.window3.contains c.minuteOfDay then 3
    else 0

/-! ### Intervals (R160 to R163) -/

/-- The flags an interval takes at its opening (R162). -/
def State.openingFlags (s : State) : List IntervalFlag :=
  addFlags (if s.clock.isNone then [.timeUnset] else []) (if s.grid.overSet then [.gridOver] else [])

/-- A new interval at the present reading. -/
def State.newInterval (s : State) : Interval :=
  { start := s.stamp, length := s.tariff.length, ticks := 0, importWh := Bands.zero, exportWh := 0,
    flags := s.openingFlags }

/-- Opens an interval for a session that has none. -/
def State.openInterval (s : State) (o : OutletId) : State :=
  s.modify o fun x =>
    { x with interval := if x.session.isSome && x.interval.isNone then some s.newInterval else x.interval }

/-- Every interval to be opened at this event. -/
def State.openIntervals (s : State) : State := allOutlets.foldl State.openInterval s

/-- The full count of an interval. -/
def Interval.fullTicks (i : Interval) : Nat := i.length * 600

/-- The flags an interval carries once it is closed (R162). -/
def Interval.close (i : Interval) (more : List IntervalFlag) : Interval :=
  { i with flags := addFlags (addFlags i.flags more) (if i.ticks < i.fullTicks then [.short] else []) }

def Interval.isFullLength (i : Interval) : Bool := !i.flags.contains .short && !i.flags.contains .final

/-- The demand of a full-length interval, in kW (R163). -/
def Interval.demand (i : Interval) : Nat :=
  min Config.max32 (natHalfUp (i.importWh.sum * 60) (i.length * 1000))

def Interval.figures (i : Interval) : IntervalFigures :=
  { start := i.start, duration := i.ticks / 10, importWh := i.importWh, exportWh := i.exportWh,
    flags := i.flags }

/-- The charge accumulators after an interval close (R163). -/
def Bands.chargeFor (charge wh prices : Bands) : Bands :=
  { b0 := Machine.addHolding Config.max64 charge.b0 (wh.b0 * prices.b0)
    b1 := Machine.addHolding Config.max64 charge.b1 (wh.b1 * prices.b1)
    b2 := Machine.addHolding Config.max64 charge.b2 (wh.b2 * prices.b2)
    b3 := Machine.addHolding Config.max64 charge.b3 (wh.b3 * prices.b3) }

/-- The first three steps of R163 for a closed interval. -/
def Session.bill (r : Session) (t : Tariff) (i : Interval) : Session :=
  let raises := i.isFullLength && r.peak < i.demand
  { r with
    charge := r.charge.chargeFor i.importWh t.prices
    peak := if raises then i.demand else r.peak
    peakStart := if raises then i.start else r.peakStart
    quality := addFlags r.quality i.flags }

/-- The close of an outlet's open interval by a boundary, a full count or a TIME order (R163). -/
def State.closeInterval (s : State) (more : List IntervalFlag) (o : OutletId) : State :=
  match (s.outlet o).interval with
  | none => s
  | some i =>
    let i := i.close more
    let s := s.modify o fun x =>
      { x with session := x.session.map fun r => r.bill s.tariff i, interval := none }
    s.handInterval o i.figures

/-- The outlets with an open interval, in ascending order of session number. -/
def State.openIntervalOutlets (s : State) : List OutletId :=
  s.bySession (allOutlets.filter fun o => (s.outlet o).interval.isSome)

/-! ### Tariff tables (R164 to R167) -/

/-- R167: a ready pending table becomes active. -/
def State.switchTariff (s : State) : State :=
  match s.pendingTariff with
  | none => s
  | some p =>
    if p.ready then ({ s with tariff := p.table, pendingTariff := none }).raise .part .tariffSwitched else s

def Tariff.window (t : Tariff) : Nat → BandWindow
  | 1 => t.window1
  | 2 => t.window2
  | _ => t.window3

def Tariff.setWindow (t : Tariff) (b : Nat) (w : BandWindow) : Tariff :=
  match b with
  | 1 => { t with window1 := w }
  | 2 => { t with window2 := w }
  | _ => { t with window3 := w }

/-- The table an edit starts from: the pending one, or a copy of the active one (R165). -/
def State.editedTariff (s : State) : Tariff :=
  match s.pendingTariff with
  | some p => p.table
  | none => s.tariff

/-- An accepted edit Clears the ready mark (R165). -/
def State.setPending (s : State) (t : Tariff) : State :=
  { s with pendingTariff := some { table := t, ready := false } }

/-! ### The metering tick (R155 to R157, R161) -/

/-- The power a metered tick takes, what the outlet then holds, and the flag the interval takes (R156). -/
def Meter.take (m : Meter) (p : PowerRecord) : Int × Meter × List IntervalFlag :=
  if p.validity = .valid then (p.p, { m with heldPower := some p.p, holdCount := 0 }, [])
  else
    match m.heldPower with
    | some h => if m.holdCount < 10 then (h, { m with holdCount := m.holdCount + 1 }, [.heldValues])
                else (0, m, [.gap])
    | none => (0, m, [.gap])

/-- Deci-joules in a watt-hour. -/
def deciJoulesPerWh : Nat := 36000

/-- The whole Wh an accumulator gives up, and the remainder it keeps (R157). -/
def wholeWh (acc p : Nat) : Nat := (acc + p) / deciJoulesPerWh

def keptRemainder (acc p : Nat) : Nat := (acc + p) % deciJoulesPerWh

/-- An outlet after import of `p` deci-joules under a band (R157). -/
def Outlet.takeImport (x : Outlet) (band p : Nat) : Outlet :=
  let wh := wholeWh x.meter.importAcc p
  { x with
    meter := { x.meter with importAcc := keptRemainder x.meter.importAcc p,
                            importTotal := x.meter.importTotal + wh }
    interval := x.interval.map fun i => { i with importWh := i.importWh.set band (i.importWh.get band + wh) }
    session := x.session.map fun r => { r with importWh := r.importWh.addHolding Config.max32 band wh } }

/-- An outlet after export of `p` deci-joules (R157). -/
def Outlet.takeExport (x : Outlet) (p : Nat) : Outlet :=
  let wh := wholeWh x.meter.exportAcc p
  { x with
    meter := { x.meter with exportAcc := keptRemainder x.meter.exportAcc p,
                            exportTotal := x.meter.exportTotal + wh }
    interval := x.interval.map fun i => { i with exportWh := i.exportWh + wh }
    session := x.session.map fun r => { r with exportWh := addHolding Config.max32 r.exportWh wh } }

/-- Whether a tick is metered at an outlet (R155). -/
def Outlet.isMetered (x : Outlet) : Bool := x.session.isSome && x.interval.isSome && x.sb.feedback

/-- One outlet at one tick (R155 to R157). -/
def Outlet.meterTick (x : Outlet) (band : Nat) : Outlet :=
  if x.isMetered then
    let (p, m, flags) := x.meter.take x.power
    let x := { x with
      meter := m, interval := x.interval.map fun i => { i with flags := addFlags i.flags flags } }
    if 0 < p then x.takeImport band p.toNat else if p < 0 then x.takeExport (-p).toNat else x
  else { x with meter := { x.meter with heldPower := none, holdCount := 0 } }

/-- The tick count of an open interval rises by one. -/
def Outlet.countTick (x : Outlet) : Outlet :=
  { x with interval := x.interval.map fun i => { i with ticks := i.ticks + 1 } }

/-- A boundary (R161). -/
def Tariff.isBoundary (t : Tariff) (c : Clock) : Bool :=
  c.tenth == 0 && c.second == 0 && c.minuteOfDay % t.length == 0

/-- An interval of an unset clock that has reached its full count (R161). -/
def Outlet.unsetComplete (x : Outlet) : Bool :=
  match x.interval with
  | none => false
  | some i => i.flags.contains .timeUnset && i.fullTicks ≤ i.ticks

/-- The intervals the tick completes are closed, and a boundary switches the tariff (R161, R167). -/
def State.completeIntervals (s : State) : State :=
  match s.clock with
  | some c =>
    if s.tariff.isBoundary c then (s.openIntervalOutlets.foldl (·.closeInterval []) s).switchTariff else s
  | none =>
    (s.openIntervalOutlets.filter fun o => (s.outlet o).unsetComplete).foldl (·.closeInterval []) s

/-- The metering tick in the order of R155. -/
def State.meterTick (s : State) : State :=
  let band := s.tariff.band s.clock
  let s := { s with clock := s.clock.map Clock.advance }
  let s := allOutlets.foldl (fun s o => s.modify o fun x => x.meterTick band) s
  let s := allOutlets.foldl (fun s o => s.modify o Outlet.countTick) s
  s.completeIntervals.openIntervals

/-! ### The close of a session (R22, R168) -/

/-- The total charge (R168). -/
def Session.price (r : Session) (t : Tariff) : Session :=
  let energy := natHalfUp r.charge.sum 100000
  { r with totalCharge := some (min Config.max64 (energy + r.peak * t.demandPrice)) }

/-- The closed record with its FINAL interval's figures. -/
def State.closedRecord (s : State) (o : OutletId) (r : Session) (cause : EndCause) : HeldRecord :=
  let i := ((s.outlet o).interval.getD s.newInterval).close [.final]
  let closed := { r.bill s.tariff i with endCause := some cause, endTime := s.stamp }
  { session := closed.price s.tariff, final := i.figures }

/-- The close of an outlet's session: priced, then placed or held (R22, R174). -/
def State.closeSession (s : State) (o : OutletId) (cause : EndCause) : State :=
  match (s.outlet o).session with
  | none => s
  | some r =>
    let h := s.closedRecord o r cause
    (s.modify o fun x =>
      { x with session := none, interval := none, endCause := none, held := some h,
               meter := { x.meter with importAcc := 0, exportAcc := 0, heldPower := none } }).tryPlace o

end Sys2Proof.Machine
end

