-- ==== Sys2Proof/Machine/Sessions.lean ====
section
/-! DEFINITION. What ends or interrupts a session (sections 1.6, 1.7): trips, the endings, the loss of a
member, and what every event settles before it ends: the completion of DE_ENERGISING, the grant queue, the end
of PREPARE and the owners' reports to the status unit. -/

namespace Sys2Proof.Machine

/-! ### Leaving SYNCHRONISING (R98) -/

/-- The check as any exit from SYNCHRONISING leaves it (R98); figures, last result and last outcome are kept. The noted
exit goes (DEDUCED, log entry 19); the noted sync expiry and the count of refused requests are kept until the next entry
(DESIGN CHOICE, log entry 81), but for R106, which Clears the expiry at a successful close. -/
def SyncCheck.exit (r : SyncCheck) : SyncCheck :=
  { r with state := .inactive, attempts := 0, syncTimer := none, feedbackTimer := none, notedExit := none,
           windowAsked := false }

/-- The handover record as a trip or END FORCE leaves it (R132): the last separation cause stays. -/
def Handover.clear (h : Handover) : Handover :=
  { h with parallelTimer := none, overloadTimer := none, aborting := false, transferDone := false,
           returnAccepted := false, returnPending := false }

/-- The timers of R15 stopped, the check inactive, the marks of the handover Cleared. -/
def Outlet.halt (x : Outlet) : Outlet :=
  { x with energiseTimer := none, closeWanted := false, check := x.check.exit, handover := x.handover.clear }

/-! ### Trips (R15, R16) -/

/-- The causes the outlet controller decides, for which it asks the unit to open both breakers (section 1.6). -/
def TripCause.byController : TripCause → Bool
  | .unsyncClose => true
  | .overload => true
  | .noModules => true
  | .energiseFail => true
  | _ => false

/-- The causes whose trip has the SB and the PB commanded open by a request (R15, R39): those the controller
decides, and SB_FAIL, at which the unit has acted on the SB alone. For every other cause the unit has acted on both
breakers before it reports (R30, R36, R40; log entry 13). -/
def TripCause.commandsBoth (c : TripCause) : Bool := c.byController || c == .sbFail

/-- The trip count and the last trip cause of the session (R4). -/
def Session.countTrip (r : Session) (cause : TripCause) : Session :=
  { r with tripCount := count16 r.tripCount, lastTrip := some cause }

/-- The breaker requests of a trip, the count and the notice: what a further trip does too (R16). -/
def State.tripNotice (s : State) (o : OutletId) (cause : TripCause) : State :=
  (s.modifySession o fun r => r.countTrip cause).send o (.tripNotice cause)

/-- The breakers asked to open (R15). -/
def State.openBreakers (s : State) (o : OutletId) : State := (s.requestSbOpen o).requestPbTrip o

/-- A trip by the outlet's state: from ADMITTED to SEPARATING the whole of R15, in DE_ENERGISING and TRIPPED a
further trip (R16), elsewhere nothing. A further trip taken in DE_ENERGISING stops none of the members left: R16
lists what it does without a stop, and the row of R51 on a trip names one (DESIGN CHOICE, log entry 50). -/
def State.trip (s : State) (o : OutletId) (cause : TripCause) : State :=
  if (s.outlet o).state.within .admitted .separating then
    let s := s.modify o Outlet.halt
    let s := if cause.commandsBoth then s.openBreakers o else s
    let s := (s.withdraw o).tripNotice o cause
    ((s.stopGroup o).recomputeLimit o).enter o .tripped
  else if (s.outlet o).state.inSession then
    (if cause.byController then s.openBreakers o else s).tripNotice o cause
  else s

/-! ### Endings (R10, R18, R19, R20) -/

/-- The actions of R18 for the state left, and the move to DE_ENERGISING with the cause recorded. The limit falls
before the state changes, so its CAPACITY frame is sent (R52; DESIGN CHOICE, log entry 51). -/
def State.deEnergise (s : State) (o : OutletId) (cause : EndCause) : State :=
  let st := (s.outlet o).state
  let s := (s.modify o fun x => { x with
    energiseTimer := none, closeWanted := false, check := x.check.exit, endCause := some cause }).withdraw o
  let s := if st = .energising then ((s.stopGroup o).recomputeLimit o).requestSbOpen o
    else if st = .cableLive then s.requestSbOpen o
    else if st = .synchronising then s.openBreakers o
    else s
  s.enter o .deEnergising

/-- END FORCE (R19, R132); the CAPACITY frame of the limit's fall is sent as at an END (log entry 51). -/
def State.force (s : State) (o : OutletId) : State :=
  let s := (s.modify o fun x => { x.halt with endCause := some .forced }).withdraw o
  (((s.openBreakers o).stopGroup o).recomputeLimit o).enter o .deEnergising

/-! ### The loss of a member (R53) -/

/-- A group survives a loss: its limit, its marks and its top-up are recomputed (R53, R63). That the marks are recomputed
before the top-up asks is the model's (DESIGN CHOICE, log entry 69). -/
def State.survive (s : State) (o : OutletId) (marks : Bool) : State :=
  let s := s.recomputeLimit o
  (if marks then s.markSurplus o else s).topUp o

/-- The consequences of a loss by the outlet's state. `marks` says whether a member of the group was marked
release pending when the loss came. -/
def State.memberLost (s : State) (o : OutletId) (marks : Bool) : State :=
  let s := s.computeShares o
  let x := s.outlet o
  if x.state = .energising ∧ x.phase = some .prepare then
    if (s.group o).isEmpty then s.trip o .noModules else s.survive o marks
  else if x.state.supplied then
    if (s.members o [.standby, .running]).isEmpty then (s.stopGroup o).trip o .noModules
    else s.survive o marks
  else s.recomputeLimit o

/-- Whether a member of the group is marked release pending. -/
def State.hasMarks (s : State) (o : OutletId) : Bool := (s.group o).any fun m => (s.module m).releasePending

/-- A module faulted with a code, by its state (R50). -/
def State.faultModule (s : State) (m : Fin 8) (code : FaultCode) : State :=
  match (s.module m).group with
  | some o => (s.modifyModule m (·.faultWith code)).memberLost o (s.hasMarks o)
  | none =>
    if (s.module m).state = .outOfService then s.modifyModule m fun x => { x with lastFault := some code }
    else s.modifyModule m fun x => { x with state := .faulted, rest := none, lastFault := some code }

/-! ### What an event settles -/

/-- R21: DE_ENERGISING completes once the SB feedback reports open, or at once with the SB channel STUCK; the
members left are stopped and the session closes. -/
def State.completeEnd (s : State) (o : OutletId) : State :=
  let x := s.outlet o
  if x.state = .deEnergising ∧ (x.sb.feedback = false ∨ x.sb.channel = .stuck) then
    (s.stopGroup o).closeSession o (x.endCause.getD .ended)
  else s

/-- Whether PREPARE ends (R11): no member of the initial grant is still being prepared, and a member stands by. -/
def State.prepared (s : State) (o : OutletId) : Bool :=
  (s.members o [.precharging, .selfTest]).all (fun m => !(s.module m).initial) && !(s.members o [.standby]).isEmpty

/-- The end of PREPARE: the SB is asked to close, and the phase is CLOSING (R11). -/
def State.endPrepare (s : State) (o : OutletId) : State :=
  let x := s.outlet o
  if x.state = .energising ∧ x.phase = some .prepare ∧ s.prepared o then
    (s.modify o fun x => { x with phase := some .closing }).requestSbClose o
  else s

/-- The capacity limits, the queue and BUDGET_OVER after an event (R52, R55, R56). -/
def State.reallocate (s : State) : State :=
  let s := s.recomputeLimits
  (s.examine s.grants.length).settleBudget

/-- What follows at the same event from whatever it changed. -/
def State.settle (s : State) : State :=
  let s := ((s.completeEnd .a).completeEnd .b).completeEnd .c
  let s := s.reallocate
  ((s.endPrepare .a).endPrepare .b).endPrepare .c

/-- The end of an event: everything settled, then every condition as its owner states it (R193). A part that
the event has reset (R191) settles and states nothing until its start-up is complete. -/
def State.finish (s : State) : State := whenRunning (fun s => s.settle.reportAll) s

/-- A command of the running part: it acts, and the event ends. -/
def atEvent (act : State → State) (s : State) : Host.Outcome State Fault Refusal :=
  .next (whenRunning (fun s => (act s).finish) s)

end Sys2Proof.Machine
end

