-- ==== Sys2Proof/Machine/SyncCheck.lean ====
section
/-! DEFINITION. The synchronising check (chapter 6): the computation at a ship-bus crossing, the close
conditions, the outcomes of a close pulse and the exits from SYNCHRONISING. -/

namespace Sys2Proof.Machine

/-- One turn, in centidegrees. -/
def fullTurn : Int := 36000

/-! ### The computation (R100 to R102) -/

/-- The tick difference from the cable crossing to the ship crossing (R100): a cable crossing timed after the
ship crossing stands for the one before it. -/
def crossingDelta (ship cable : Timestamp) (cablePeriod : Nat) : Nat :=
  let after := (cable - ship).toNat
  if 1 ≤ after ∧ after ≤ 2147483647 then (ship - cable + BitVec.ofNat 32 cablePeriod).toNat
  else (ship - cable).toNat

/-- The angle between cable and ship bus (R100). -/
def syncAngle (delta cableFrequency : Nat) : Int :=
  let raw : Int := (natHalfUp (delta * cableFrequency * 3) 800000 % 36000 : Nat)
  if 18000 ≤ raw then raw - fullTurn else raw

/-- An angle brought back within −18,000 to 17,999 by at most one turn (R101; log entry 49). -/
def wrapAngle (a : Int) : Int :=
  if 18000 ≤ a then a - fullTurn else if a < -18000 then a + fullTurn else a

/-- The figures of R100 to R102 from two records and their crossing timestamps. -/
def figuresOf (p : Profile) (ship cable : CycleRecord) (ts tc : Timestamp) : Figures :=
  let slip : Int := (cable.frequency : Int) - ship.frequency
  let theta := syncAngle (crossingDelta ts tc cable.period) cable.frequency
  let alpha := divHalfAway (slip * p.closeTime * 36) 1000
  { slip := slip
    theta := theta
    alpha := alpha
    delta := divHalfUp (slip * ship.period * 3) 800000
    phi := wrapAngle (theta + alpha)
    dV := divHalfAway (((cable.rms : Int) - ship.rms) * 1000) ship.rms
    time := ts }

/-- The figures of an evaluation, `none` when a record is not VALID (R99). -/
def Outlet.figures (x : Outlet) (p : Profile) : Option Figures :=
  if x.cable.record.validity = .valid ∧ x.ship.record.validity = .valid then
    match x.ship.record.crossing, x.cable.record.crossing with
    | some ts, some tc => some (figuresOf p x.ship.record x.cable.record ts tc)
    | _, _ => none
  else none

/-! ### The close conditions (R103) -/

/-- The predicted angle lies in the window: the first half of condition 6 (R105). -/
def Figures.inWindow (f : Figures) (p : Profile) : Bool := -(p.cWindow : Int) ≤ f.phi && f.phi ≤ 0

/-- The six conditions in their order; the third holds wherever figures are held. -/
def judge (p : Profile) (linkUp sbClosed : Bool) (f : Figures) : CheckResult :=
  if !linkUp then .link
  else if !sbClosed then .sb
  else if f.slip < p.slipMin then .slipLow
  else if p.slipMax < f.slip then .slipHigh
  else if p.cWindow < f.delta then .slipWindow
  else if p.vMatch < f.dV.natAbs then .voltage
  else if !f.inWindow p then .angle
  else if f.phi + f.delta ≤ 0 then .wait
  else .close

/-! ### Entry and exits -/

/-- The check at the entry to SYNCHRONISING (R98). -/
def SyncCheck.enter (r : SyncCheck) (timeout : Nat) : SyncCheck :=
  { SyncCheck.reset with
    state := .evaluating, syncTimer := some (seconds timeout), outcome := r.outcome }

/-- An exit is noted unless one is noted already (R107, R110, R111). -/
def SyncCheck.note (r : SyncCheck) (out : SyncOutcome) : SyncCheck :=
  { r with notedExit := if r.notedExit.isNone then some out else r.notedExit }

/-- The entry to RECOVERING. -/
def SyncCheck.recover (r : SyncCheck) : SyncCheck :=
  { r with state := .recovering, feedbackTimer := none, windowAsked := false }

/-- A failed attempt (R107). At the third failure with an expiry noted in CLOSING, SYNC_FAILED is noted first, as
R107 gives, and stands against SYNC_TIMEOUT, for which R110 ends (DESIGN CHOICE, log entry 55). -/
def SyncCheck.fail (r : SyncCheck) : SyncCheck :=
  let r := r.recover
  let r := if 3 ≤ r.attempts then r.note .syncFailed else r
  if r.notedExpiry then r.note .syncTimeout else r

/-- The outlet event of an exit to CABLE_LIVE (R108, R110, R134). -/
def SyncOutcome.event : SyncOutcome → Option Item
  | .syncFailed => some .syncFailed
  | .syncTimeout => some .syncTimeout
  | .aborted => some .syncAborted
  | .linkLost => some .syncLinkLost
  | _ => none

/-- The separation cause an exit records (R134). -/
def SyncOutcome.separation : SyncOutcome → Option SeparationCause
  | .aborted => some .aborted
  | .linkLost => some .linkLost
  | _ => none

def State.raiseSome (s : State) (o : OutletId) (x : Option Item) : State :=
  match x with
  | some x => s.raiseAt o x
  | none => s

/-- The exit from SYNCHRONISING to CABLE_LIVE with its outcome. -/
def State.leaveSync (s : State) (o : OutletId) (out : SyncOutcome) : State :=
  let s := s.modify o fun x => { x with
    check := { x.check.exit with outcome := some out }
    handover := { x.handover with
      lastSeparation := if out.separation.isSome then out.separation else x.handover.lastSeparation } }
  (s.raiseSome o out.event).enter o .cableLive

/-- R111, R134: the exit the load handover asks for, carried out by the check's state. -/
def State.abandonSync (s : State) (o : OutletId) (out : SyncOutcome) : State :=
  match (s.outlet o).check.state with
  | .evaluating => s.leaveSync o out
  | .closing => (s.requestPbTrip o).modifyCheck o fun r => r.recover.note out
  | .recovering => s.modifyCheck o fun r => r.note out
  | .inactive => s

/-- R107. -/
def State.failAttempt (s : State) (o : OutletId) : State :=
  (s.modifyCheck o SyncCheck.fail).raiseAt o .closeFailed

/-! ### Evaluations (R99, R104, R105) -/

/-- The request of a close pulse and its answer (R104). -/
def State.requestClose (s : State) (o : OutletId) (p : Profile) : State :=
  match s.pbRefusal o with
  | none =>
    (s.modify o fun x => { x with
      pb := x.pb.startClose p.closeTime
      check := { x.check with state := .closing, attempts := x.check.attempts + 1,
                              feedbackTimer := some (ms (p.closeTime + 100)) } }).modifySession o
      fun r => { r with closeAttempts := count16 r.closeAttempts }
  | some why =>
    s.modifyCheck o fun r => { r with refusedRequests := count16 r.refusedRequests, result := some (.refused why) }

/-- A delivery that is not evaluated, or that finds a record not VALID (R99). -/
def SyncCheck.noFigures (r : SyncCheck) : SyncCheck := { r with result := some .records, windowAsked := false }

/-- An evaluation (R99 to R105). -/
def State.evaluate (s : State) (o : OutletId) : State :=
  match (s.outlet o).session with
  | none => s
  | some r =>
    let p := r.snapshot
    match (s.outlet o).figures p with
    | none => s.modifyCheck o fun c => { c.noFigures with figures := none }
    | some f =>
      let result := judge p (s.outlet o).link.up (s.outlet o).sb.feedback f
      let s := s.modifyCheck o fun c =>
        { c with figures := some f, result := some result, windowAsked := f.inWindow p }
      if result = .close ∧ (s.outlet o).check.state = .evaluating then s.requestClose o p else s

/-- What caused a delivery (R91). -/
inductive Delivery | opened | closed | loss
  deriving DecidableEq, Repr

/-- The paralleling breaker has been unwound (R108, R145). -/
def Outlet.pbUnwound (x : Outlet) : Bool := x.pb.channel == .idle && !x.pb.feedback

/-- The end of RECOVERING (R108), true when the check goes on evaluating. -/
def State.endRecovery (s : State) (o : OutletId) : State × Bool :=
  match (s.outlet o).check.notedExit with
  | some out => (s.leaveSync o out, false)
  | none => (s.modifyCheck o fun r => { r with state := .evaluating }, true)

/-- A delivery of the outlet's SHIP record to the check (R99, R108). In RECOVERING a delivery that is not evaluated
leaves the last result as it is (DESIGN CHOICE, log entry 57). -/
def State.deliverShip (s : State) (o : OutletId) (d : Delivery) : State :=
  match (s.outlet o).check.state with
  | .inactive => s
  | .recovering =>
    if (s.outlet o).pbUnwound then
      let (s, goesOn) := s.endRecovery o
      if goesOn && d == .closed then s.evaluate o else s
    else s
  | _ => if d = .closed then s.evaluate o else s.modifyCheck o SyncCheck.noFigures

end Sys2Proof.Machine
end

