-- ==== Sys2Proof/Machine/Handover.lean ====
section
/-! DEFINITION. Load handover (chapter 8): separations, the entry to TRANSFER_IN, late and unsynchronised
closures of the PB, its expected and unexpected openings, and the tests made at a power record. -/

namespace Sys2Proof.Machine

/-- R136: a separation, with the outlet event of its cause. -/
def State.separate (s : State) (o : OutletId) (cause : SeparationCause) (event : Option Item) : State :=
  let s := (s.requestPbTrip o).modifyHandover o fun h =>
    { h with parallelTimer := none, overloadTimer := none, aborting := false, lastSeparation := some cause }
  (s.raiseSome o event).enter o .separating

/-- The completion of SEPARATING (R145). -/
def State.completeSeparation (s : State) (o : OutletId) : State :=
  if (s.outlet o).state = .separating ∧ (s.outlet o).pbUnwound then
    (s.raiseAt o .separated).enter o .cableLive
  else s

/-- The parallel time limit of the open session, in ticks. -/
def Outlet.parallelTime (x : Outlet) : Timer := x.session.map fun r => seconds r.snapshot.parTime

/-- "PB closed" taken while the check is CLOSING (R106, R135). -/
def State.closeMade (s : State) (o : OutletId) : State :=
  let s := s.modify o fun x => { x with
    check := { x.check.exit with outcome := some .transfer, notedExpiry := false }
    handover := { x.handover.clear with parallelTimer := x.parallelTime } }
  (s.raiseAt o .pbClosed).enter o .transferIn

/-- A late closure (R109, R136). -/
def State.lateClosure (s : State) (o : OutletId) : State :=
  let s := s.modify o fun x => { x with
    check := { x.check.exit with outcome := some .lateClose }
    handover := { x.handover with overloadTimer := none, lastSeparation := some .lateClose } }
  (s.raiseAt o .lateClose).enter o .separating

/-- A closure that no close pulse accounts for (R109, R112). -/
def State.judgeClosure (s : State) (o : OutletId) : State :=
  let x := s.outlet o
  if x.state = .synchronising ∧ x.check.state = .recovering ∧ x.pb.channel = .tripPulse ∧ x.pb.afterClose then
    s.lateClosure o
  else if x.state.within .admitted .synchronising ∨ x.state = .deEnergising ∨ x.state = .tripped then
    s.trip o .unsyncClose
  else if x.state.within .vacant .announced ∨ x.state = .held then s.requestPbTrip o
  else s

/-- "PB open" (R39, R40): it ends RECOVERING and completes SEPARATING. -/
def State.pbOpenReport (s : State) (o : OutletId) : State :=
  if (s.outlet o).check.state = .recovering then (s.endRecovery o).1 else s.completeSeparation o

/-- TRANSFER_IN, SHORE_SUPPLY and TRANSFER_OUT. -/
def OutletState.isTransfer (s : OutletState) : Bool := s.within .transferIn .transferOut

/-- "PB opened, not commanded" (R41, R146). -/
def State.pbOpenedReport (s : State) (o : OutletId) : State :=
  if (s.outlet o).state.isTransfer then
    let s := s.modifyHandover o fun h => { h.clear with lastSeparation := some .pbOpened }
    (s.raiseAt o .pbOpened).enter o .cableLive
  else s

/-! ### Tests at a delivery of the power record -/

/-- The overload threshold in W (R147). -/
def Outlet.overloadThreshold (x : Outlet) (p : Profile) : Int := (x.limit * p.ovLevel : Nat)

/-- The overload monitor (R147). -/
def Outlet.monitorOverload (x : Outlet) : Outlet :=
  match x.session with
  | none => x
  | some r =>
    if x.state.isTransfer ∧ x.power.validity = .valid then
      let timer := if x.overloadThreshold r.snapshot < x.power.p then
          (if x.handover.overloadTimer.isSome then x.handover.overloadTimer
           else some (seconds r.snapshot.ovTime))
        else none
      { x with handover := { x.handover with overloadTimer := timer } }
    else x

/-- The drained test (R144). -/
def Outlet.isDrained (x : Outlet) : Bool :=
  match x.session with
  | none => false
  | some r =>
    (x.state == .transferOut || x.state == .transferIn && x.handover.aborting) &&
      x.reference.setpoint == 0 && x.power.validity == .valid &&
      decide (x.power.p ≤ (r.snapshot.release * x.limit : Nat))

/-- The cause of a drained separation. -/
def Outlet.drainCause (x : Outlet) : SeparationCause :=
  if x.state = .transferOut then .drained else .aborted

/-- A delivery of the power record at a crossing that closed a cycle, or at a loss expiry: the overload monitor,
the drained test (not made at a loss expiry, R144), and the release condition (R63). -/
def State.deliverPower (s : State) (o : OutletId) (d : Delivery) : State :=
  let s := s.modify o Outlet.monitorOverload
  let s := if d = .closed ∧ (s.outlet o).isDrained then s.separate o (s.outlet o).drainCause none else s
  s.testRelease o

/-- The cable verification of R13. -/
def Outlet.isVerified (x : Outlet) : Bool :=
  match x.session with
  | none => false
  | some r =>
    x.state == .energising && x.phase == some .ramp && x.rampComplete &&
      x.cable.record.validity == .valid &&
      decide (distance x.cable.record.rms r.snapshot.nomVolt ≤ r.snapshot.toleranceVolts) &&
      decide (distance x.cable.record.frequency r.snapshot.nomFreq ≤ 100)

/-- A delivery of the CABLE record to the outlet controller: cable verification (R13), the completion of
SEPARATING (R145), and the power record that goes with it (R94). -/
def State.deliverCable (s : State) (o : OutletId) (d : Delivery) : State :=
  let s := if (s.outlet o).isVerified then
      (s.modify o fun x => { x with energiseTimer := none }).enter o .cableLive
    else s.completeSeparation o
  if d = .opened then s else s.deliverPower o d

end Sys2Proof.Machine
end

