-- ==== Sys2Proof/WellFormed.lean ====
section
/-! DEFINITION. Which commands name an event the part can meet. Most operands are well formed by their
type; an order's arguments are never ill formed, because the order itself refuses what it does not take. -/

namespace Sys2Proof

/-- A frame the delimiter can hand on: a length byte of 1 to 60 that counts the type and the payload (R117). -/
def RawFrame.wellFormed (f : RawFrame) : Bool :=
  1 ≤ f.length.toNat && f.length.toNat ≤ 60 && f.payload.length + 1 == f.length.toNat

/-- A line terminator of R183, received without framing error: TL_LINE_END's, not TL_CHARACTER's. A carriage return
or line feed received with a framing error marks the line bad and does not end it (DESIGN CHOICE, log entry 77). -/
def Received.isTerminator (ch : Received) : Bool :=
  !ch.framingError && (ch.byte == 0x0D#8 || ch.byte == 0x0A#8)

/-- The well-formed commands. -/
def Instr.wellFormed : Instr → Bool
  | .frameComplete _ f => f.wellFormed
  | .tlCharacter ch => !ch.isTerminator
  | .moduleFault _ code => code != 0#8
  | .linkTestResult _ returned => returned.length ≤ 64
  | _ => true

end Sys2Proof
end

