-- ==== Sys2Proof/Machine/ShipLink.lean ====
section
/-! DEFINITION. The ship link controller's receiving half (chapter 7): delimiter, check, receive FIFO, link
state and watchdog, and what LINK_UP and LINK_DOWN do at the outlet controller (R122, R150). -/

namespace Sys2Proof.Machine

/-- Two character times, the silence that ends a frame (R117). -/
def gapTime : Nat := 5000

/-- LINK_DOWN at the outlet controller (R131, R150). -/
def State.takeLinkDown (s : State) (o : OutletId) : State :=
  let s := s.modifyHandover o fun h => { h with shipStatus := none }
  match (s.outlet o).state with
  | .announced => (s.modify o fun x => { x with announcement := none }).enter o .cabled
  | .synchronising => s.abandonSync o .linkLost
  | .transferIn => s.separate o .linkLost (some .transferLinkLost)
  | _ => s

/-- The controller's own part of an event that takes the link DOWN (R124). -/
def ShipLink.goDown (l : ShipLink) (cause : DownCause) : ShipLink :=
  { l with up := false, lastDown := some cause, watchdog := none, statusTimer := none, fifo := [], queue := [],
           sending := false }

/-- An UP link goes DOWN with its cause; a DOWN link stays as it is (R124). -/
def State.linkDown (s : State) (o : OutletId) (cause : DownCause) : State :=
  if (s.outlet o).link.up then (s.modifyLink o fun l => l.goDown cause).takeLinkDown o else s

/-- LINK_UP at the outlet controller: a pending RETURN_DEMAND follows the first SHORE_STATUS (R142). -/
def State.takeLinkUp (s : State) (o : OutletId) : State :=
  if (s.outlet o).state = .shoreSupply ∧ (s.outlet o).handover.returnPending then
    (s.modifyHandover o fun h => { h with returnPending := false }).send o .returnDemand
  else s

/-- The link becomes UP (R122). -/
def State.linkUp (s : State) (o : OutletId) : State :=
  let s := s.modifyLink o fun l =>
    { l with up := true, lastRefusal := none, statusTimer := some (seconds 1) }
  (s.sendStatus o).takeLinkUp o

/-- The watchdog period a restart reads (R123). -/
def Outlet.watchdogTime (x : Outlet) : Nat :=
  match x.session with
  | some r => seconds r.snapshot.linkTimeout
  | none => seconds 3

def State.restartWatchdog (s : State) (o : OutletId) : State :=
  s.modify o fun x => { x with link := { x.link with
    watchdog := some x.watchdogTime, watchdogPeriod := x.watchdogTime } }

/-- A frame joins the FIFO, or replaces the newest of eight (R121). -/
def ShipLink.store (l : ShipLink) (f : ShipFrame) : ShipLink :=
  if l.fifo.length < Config.fifoCapacity then { l with fifo := l.fifo ++ [f] }
  else { l with fifo := l.fifo.dropLast ++ [f], overrun := true,
                counts := { l.counts with overruns := count16 l.counts.overruns } }

/-- A format refusal (R119). -/
def State.refuseFormat (s : State) (o : OutletId) (type : Byte) (cause : RefuseCause) : State :=
  (s.sendRefuse o type cause).modifyLink o fun l =>
    { l with counts := { l.counts with formatRefusals := count16 l.counts.formatRefusals } }

/-- The third and fourth steps of R119. -/
def State.sortFrame (s : State) (o : OutletId) (f : RawFrame) : State :=
  match shipLength f.type.toNat with
  | none => s.refuseFormat o f.type .unknownType
  | some n =>
    if f.length.toNat = n then s.modifyLink o fun l => l.store { type := f.type, payload := f.payload }
    else s.refuseFormat o f.type .badLength

/-- A valid frame (R118, R119). -/
def State.validFrame (s : State) (o : OutletId) (f : RawFrame) : State :=
  let s := s.modifyLink o fun l =>
    { l with counts := { l.counts with framesReceived := count16 l.counts.framesReceived } }
  if (s.outlet o).interlocks.plug then
    let s := s.restartWatchdog o
    (if (s.outlet o).link.up then s else s.linkUp o).sortFrame o f
  else s

/-- A complete frame at the check; the delimiter is HUNTING again (R117, R118). -/
def State.completeFrame (s : State) (o : OutletId) (f : RawFrame) : State :=
  let s := s.modifyLink o fun l => { l with assembling := none, gapTimer := none }
  if frameCheck f then s.validFrame o f
  else s.modifyLink o fun l => { l with counts := { l.counts with crcErrors := count16 l.counts.crcErrors } }

/-- The frame a delimiter has gathered, from the bytes after the start byte. -/
def gathered (length : Byte) (rest : List Byte) : RawFrame :=
  let n := length.toNat
  { length := length, type := rest.headD 0, payload := (rest.drop 1).take (n - 1),
    crc := BitVec.ofNat 16 (be16 (rest.getD n 0) (rest.getD (n + 1) 0)) }

/-- A byte at the delimiter (R117). -/
def State.takeByte (s : State) (o : OutletId) (b : Byte) : State :=
  match (s.outlet o).link.assembling with
  | none =>
    if b = 0xA5#8 then s.modifyLink o fun l => { l with assembling := some [], gapTimer := some gapTime }
    else s.modifyLink o fun l => { l with counts := { l.counts with strayBytes := count16 l.counts.strayBytes } }
  | some [] =>
    if b = 0#8 ∨ 60 < b.toNat then
      s.modifyLink o fun l => { l with
        assembling := none, gapTimer := none
        counts := { l.counts with lengthErrors := count16 l.counts.lengthErrors } }
    else s.modifyLink o fun l => { l with assembling := some [b], gapTimer := some gapTime }
  | some (len :: rest) =>
    let rest := rest ++ [b]
    if rest.length = len.toNat + 2 then s.completeFrame o (gathered len rest)
    else s.modifyLink o fun l => { l with assembling := some (len :: rest), gapTimer := some gapTime }

/-- A character the receiver takes from the ship (R116). -/
def State.takeCharacter (s : State) (o : OutletId) (ch : Received) : State :=
  if ch.framingError then
    s.modifyLink o fun l => { l with
      assembling := none, gapTimer := none
      counts := { l.counts with framingErrors := count16 l.counts.framingErrors } }
  else s.takeByte o ch.byte

/-- While a LINKTEST runs the receiver is disconnected from the line (R129; log entry 35). -/
def whenConnected (o : OutletId) (act : State → State) (s : State) : State :=
  if (s.outlet o).link.testing then s else act s

/-- The event of a row of the receiver: in the running part it ends as any other, and in start-up, whose blocks have
nothing to settle, it acts alone (R130; log entry 6). -/
def atReceiver (act : State → State) (s : State) : Host.Outcome State Fault Refusal :=
  if s.phase = .startingUp then .next (act s) else atEvent act s

/-- SHIP_CHARACTER (R116, R117). -/
def execShipCharacter (o : OutletId) (ch : Received) (s : State) : Host.Outcome State Fault Refusal :=
  atReceiver (whenConnected o fun s => s.takeCharacter o ch) s

/-- A silence inside a frame drops it (R117). -/
def State.dropAtGap (s : State) (o : OutletId) : State :=
  s.modifyLink o fun l => { l with
    assembling := none, gapTimer := none, counts := { l.counts with gaps := count16 l.counts.gaps } }

/-- FRAME_GAP_TIMEOUT (R117). In start-up no other timer runs, so the time that has passed is counted for none
(log entry 6). -/
def execFrameGapTimeout (o : OutletId) (s : State) : Host.Outcome State Fault Refusal :=
  atReceiver (fun s =>
    if s.phase = .startingUp then
      if (s.outlet o).link.gapTimer.isSome then s.dropAtGap o else s
    else s.atExpiry (s.outlet o).link.gapTimer fun s => s.dropAtGap o) s

/-- LINE_BREAK (R124). -/
def execLineBreak (o : OutletId) (s : State) : Host.Outcome State Fault Refusal :=
  atReceiver (whenConnected o fun s =>
    (s.modifyLink o fun l => { l with
      assembling := none, gapTimer := none
      counts := { l.counts with breaks := count16 l.counts.breaks } }).linkDown o .lineBreak) s

/-- FRAME_COMPLETE (R118, R119). -/
def execFrameComplete (o : OutletId) (f : RawFrame) (s : State) : Host.Outcome State Fault Refusal :=
  if f.wellFormed then atReceiver (whenConnected o fun s => s.completeFrame o f) s else .fault .notAnEvent

/-- SHORE_FRAME_SENT (R127): the last stop bit of the frame in transmission. -/
def execShoreFrameSent (o : OutletId) (s : State) : Host.Outcome State Fault Refusal :=
  atEvent (fun s =>
    if (s.outlet o).link.sending then
      (s.modifyLink o fun l => { l with
        queue := l.queue.drop 1, sending := false
        counts := { l.counts with framesSent := count16 l.counts.framesSent } }).startSending o
    else s) s

/-- WATCHDOG_EXPIRY (R123). -/
def execWatchdogExpiry (o : OutletId) (s : State) : Host.Outcome State Fault Refusal :=
  atEvent (fun s => s.atExpiry (s.outlet o).link.watchdog fun s =>
    (s.modifyLink o fun l => { l with
      watchdog := none
      counts := { l.counts with watchdogExpiries := count16 l.counts.watchdogExpiries } }).linkDown o
        .watchdog) s

/-- STATUS_TIMER_EXPIRY (R126). -/
def execStatusTimerExpiry (o : OutletId) (s : State) : Host.Outcome State Fault Refusal :=
  atEvent (fun s => s.atExpiry (s.outlet o).link.statusTimer fun s =>
    (s.modifyLink o fun l => { l with statusTimer := some (seconds 1) }).sendStatus o) s

end Sys2Proof.Machine
end

