-- ==== Sys2Proof/Machine/Interlocks.lean ====
section
/-! DEFINITION. The events of the interlock and breaker unit (chapter 2) and of the outlet timers: interlock
changes, breaker feedback changes and timer expiries. -/

namespace Sys2Proof.Machine

/-! ### Interlock changes (R29, R30) -/

def Interlocks.get (i : Interlocks) : Interlock → Bool
  | .plug => i.plug
  | .pilot => i.pilot
  | .earth => i.earth
  | .estop => i.estop

def Interlocks.set (i : Interlocks) (x : Interlock) (made : Bool) : Interlocks :=
  match x with
  | .plug => { i with plug := made }
  | .pilot => { i with pilot := made }
  | .earth => { i with earth := made }
  | .estop => { i with estop := made }

/-- The trip cause a loss carries (R29). -/
def lossCause : InterlockInput → TripCause
  | .ofOutlet _ .estop => .estop
  | .estopAll => .estopAll
  | _ => .interlock

/-- The PLUG change at the outlet controller (R1): the move while no session is open or held. -/
def State.movePlug (s : State) (o : OutletId) (made : Bool) : State :=
  match (s.outlet o).state, made with
  | .vacant, true => s.enter o .cabled
  | .cabled, false => s.enter o .vacant
  | .announced, false => (s.modify o fun x => { x with announcement := none }).enter o .vacant
  | _, _ => s

/-- The delivery of a change to one outlet's controller (R29). -/
def State.deliverInterlock (s : State) (o : OutletId) (input : InterlockInput) (made : Bool) : State :=
  if made then s else s.trip o (lossCause input)

/-- A change of one of an outlet's inputs: on a loss the unit opens the breakers first (R30), then delivers. -/
def State.changeInput (s : State) (o : OutletId) (i : Interlock) (made : Bool) : State :=
  if (s.outlet o).interlocks.get i = made then s
  else
    let s := s.modify o fun x => { x with interlocks := x.interlocks.set i made }
    let s := (if made then s else s.openOnLoss o).deliverInterlock o (.ofOutlet o i) made
    if i = .plug then
      let s := s.movePlug o made
      if made then s else s.linkDown o .plug
    else s

/-- A change of ESTOP_ALL: the same in all three channels, and three events (R29, R30). The deliveries are made in the
order A, B, C at one command, which settles once after the third, so that no request is granted between them (DESIGN
CHOICE, log entry 79). -/
def State.changeEstopAll (s : State) (made : Bool) : State :=
  if s.estopAllMade = made then s
  else
    let s := { s with estopAllMade := made }
    let s := if made then s else allOutlets.foldl State.openOnLoss s
    allOutlets.foldl (fun s o => s.deliverInterlock o .estopAll made) s

/-- INTERLOCK_CHANGE (R29, R30). -/
def execInterlockChange (input : InterlockInput) (made : Bool) (s : State) :
    Host.Outcome State Fault Refusal :=
  atEvent (fun s =>
    match input with
    | .ofOutlet o i => s.changeInput o i made
    | .estopAll => s.changeEstopAll made) s

/-! ### The shore breaker (R34 to R36) -/

/-- The entry to phase RAMP (R12). -/
def State.enterRamp (s : State) (o : OutletId) : State :=
  (s.runGroup o).modify o fun x => { x with
    phase := some .ramp, rampComplete := false, reference := x.reference.select .softStart
    energiseTimer := x.session.map fun r => seconds (r.snapshot.softStart + 5) }

/-- "SB closed" (R34, R12). -/
def State.sbClosedReport (s : State) (o : OutletId) : State :=
  if (s.outlet o).state = .energising ∧ (s.outlet o).phase = some .closing then s.enterRamp o else s

/-- The SB feedback changes to CLOSED (R34, R36). -/
def State.sbCloses (s : State) (o : OutletId) : State :=
  let s' := s.modifySb o fun b => { b with feedback := true }
  match (s.outlet o).sb.channel with
  | .closing => (s'.modifySb o fun b => { b with channel := .closed, closeTimer := none }).sbClosedReport o
  | .opened => s'.modifySb o ShoreBreaker.openAgain
  | _ => s'

/-- The SB feedback changes to OPEN (R35, R36). -/
def State.sbOpens (s : State) (o : OutletId) : State :=
  let s' := s.modifySb o fun b => { b with feedback := false }
  match (s.outlet o).sb.channel with
  | .closed =>
    ((s'.modifySb o fun b => { b with channel := .opened }).requestPbTrip o).trip o .sbOpened
  | .opening => (s'.modifySb o fun b => { b with channel := .opened, openTimer := none }).sbOpenReport o
  | .stuck => (s'.modifySb o fun b => { b with channel := .opened, stuckSet := false }).sbOpenReport o
  | _ => s'

/-- SB_FEEDBACK_CLOSES (R34, R36). -/
def execSbFeedbackCloses (o : OutletId) (s : State) : Host.Outcome State Fault Refusal :=
  atEvent (fun s => if (s.outlet o).sb.feedback then s else s.sbCloses o) s

/-- SB_FEEDBACK_OPENS (R35, R36). -/
def execSbFeedbackOpens (o : OutletId) (s : State) : Host.Outcome State Fault Refusal :=
  atEvent (fun s => if (s.outlet o).sb.feedback then s.sbOpens o else s) s

/-- SB_CLOSE_TIMER_EXPIRY (R34). -/
def execSbCloseTimerExpiry (o : OutletId) (s : State) : Host.Outcome State Fault Refusal :=
  atEvent (fun s => s.atExpiry (s.outlet o).sb.closeTimer fun s =>
    (s.modifySb o fun b => { b with channel := .opened, closeTimer := none }).trip o .sbFail) s

/-- SB_OPEN_TIMER_EXPIRY (R35). -/
def execSbOpenTimerExpiry (o : OutletId) (s : State) : Host.Outcome State Fault Refusal :=
  atEvent (fun s => s.atExpiry (s.outlet o).sb.openTimer fun s =>
    (s.modifySb o fun b => { b with channel := .stuck, openTimer := none, stuckSet := true }).trip o
      .sbFail) s

/-! ### The paralleling breaker (R38 to R41) -/

/-- The PB feedback changes to CLOSED (R38, R41). -/
def State.pbCloses (s : State) (o : OutletId) : State :=
  let s := s.modifyPb o fun b => { b with feedback := true }
  match (s.outlet o).pb.channel with
  | .closePulse =>
    let s := s.modifyPb o ParallelBreaker.rest
    if (s.outlet o).check.state = .closing then s.closeMade o else s
  | .stuck => s
  | _ => s.judgeClosure o

/-- The PB feedback changes to OPEN (R39 to R41): PB_STUCK is lowered. -/
def State.pbOpens (s : State) (o : OutletId) : State :=
  let s := s.modifyPb o fun b => { b with feedback := false, stuckSet := false }
  match (s.outlet o).pb.channel with
  | .tripPulse => (s.modifyPb o ParallelBreaker.rest).pbOpenReport o
  | .stuck => (s.modifyPb o ParallelBreaker.rest).pbOpenReport o
  | .idle => s.pbOpenedReport o
  | .closePulse => s

/-- PB_FEEDBACK_CLOSES (R38, R41). -/
def execPbFeedbackCloses (o : OutletId) (s : State) : Host.Outcome State Fault Refusal :=
  atEvent (fun s => if (s.outlet o).pb.feedback then s else s.pbCloses o) s

/-- PB_FEEDBACK_OPENS (R39, R40, R41). -/
def execPbFeedbackOpens (o : OutletId) (s : State) : Host.Outcome State Fault Refusal :=
  atEvent (fun s => if (s.outlet o).pb.feedback then s.pbOpens o else s) s

/-- PB_CLOSE_TIMER_EXPIRY (R38, R107). -/
def execPbCloseTimerExpiry (o : OutletId) (s : State) : Host.Outcome State Fault Refusal :=
  atEvent (fun s => s.atExpiry (s.outlet o).pb.closeTimer fun s =>
    let s := s.modifyPb o fun b => b.startTrip true
    if (s.outlet o).check.state = .closing then s.failAttempt o else s) s

/-- PB_TRIP_TIMER_EXPIRY (R39, R40). -/
def execPbTripTimerExpiry (o : OutletId) (s : State) : Host.Outcome State Fault Refusal :=
  atEvent (fun s => s.atExpiry (s.outlet o).pb.tripTimer fun s =>
    if (s.outlet o).pb.feedback then
      ((s.modifyPb o ParallelBreaker.fail).requestSbOpen o).trip o .pbFail
    else s.modifyPb o ParallelBreaker.rest) s

/-! ### The outlet timers -/

/-- CLOSE_FEEDBACK_TIMER_EXPIRY (R107). -/
def execCloseFeedbackTimerExpiry (o : OutletId) (s : State) : Host.Outcome State Fault Refusal :=
  atEvent (fun s => s.atExpiry (s.outlet o).check.feedbackTimer fun s =>
    (s.requestPbTrip o).failAttempt o) s

/-- The sync timer runs out (R110). In RECOVERING the exit is noted and the mark of a noted expiry stays as it is,
though section 6.1 words the mark for a pulse and its unwinding (DESIGN CHOICE, log entry 56). -/
def State.syncExpires (s : State) (o : OutletId) : State :=
  let s := s.modifyCheck o fun r => { r with syncTimer := none }
  match (s.outlet o).check.state with
  | .evaluating => s.leaveSync o .syncTimeout
  | .closing => s.modifyCheck o fun r => { r with notedExpiry := true }
  | .recovering => s.modifyCheck o fun r => r.note .syncTimeout
  | .inactive => s

/-- SYNC_TIMER_EXPIRY (R110). -/
def execSyncTimerExpiry (o : OutletId) (s : State) : Host.Outcome State Fault Refusal :=
  atEvent (fun s => s.atExpiry (s.outlet o).check.syncTimer fun s => s.syncExpires o) s

/-- ENERGISE_TIMER_EXPIRY (R13). -/
def execEnergiseTimerExpiry (o : OutletId) (s : State) : Host.Outcome State Fault Refusal :=
  atEvent (fun s => s.atExpiry (s.outlet o).energiseTimer fun s =>
    (s.modify o fun x => { x with energiseTimer := none }).trip o .energiseFail) s

/-- PARALLEL_TIMER_EXPIRY (R137). -/
def execParallelTimerExpiry (o : OutletId) (s : State) : Host.Outcome State Fault Refusal :=
  atEvent (fun s => s.atExpiry (s.outlet o).handover.parallelTimer fun s =>
    s.separate o .parallelTimeout
      (some (if (s.outlet o).state = .transferOut then .returnIncomplete else .transferIncomplete))) s

/-- OVERLOAD_TIMER_EXPIRY (R148). -/
def execOverloadTimerExpiry (o : OutletId) (s : State) : Host.Outcome State Fault Refusal :=
  atEvent (fun s => s.atExpiry (s.outlet o).handover.overloadTimer fun s =>
    if (s.outlet o).state = .shoreSupply then s.trip o .overload
    else s.separate o .overload (some .overloadSeparation)) s

end Sys2Proof.Machine
end

