-- ==== Sys2Proof/Machine/Modules.lean ====
section
/-! DEFINITION. The module link's reports and the timers of the modules and of the grant queue (chapter 3). -/

namespace Sys2Proof.Machine

/-- The silence that makes a module SILENT (R45). -/
def silenceTime : Nat := ms 100

/-- A module has answered (R45); every report is an answer (log entry 27). -/
def State.moduleAnswers (s : State) (m : Fin 8) : State :=
  s.modifyModule m fun x => { x with answering := true, silence := some silenceTime }

/-- A member that enters STANDBY, and RUNNING at once where its outlet's group runs (R48). -/
def State.standBy (s : State) (m : Fin 8) : State :=
  let s := s.modifyModule m fun x => { x with state := .standby, selfTest := none }
  match (s.module m).group with
  | none => s
  | some o =>
    let x := s.outlet o
    if x.state.within .cableLive .separating ∨ (x.state = .energising ∧ x.phase = some .ramp) then s.runGroup o
    else s

/-- A CHARGED report (R46). -/
def State.takeCharged (s : State) (m : Fin 8) : State :=
  if (s.module m).state = .precharging then
    s.modifyModule m fun x =>
      { x with state := .selfTest, precharge := none, selfTest := some (seconds 2), command := some .test }
  else s

/-- A RESULT report (R47). -/
def State.takeResult (s : State) (m : Fin 8) (pass : Bool) (sig : BitVec 32) : State :=
  if (s.module m).state = .selfTest then
    if !pass then s.faultModule m .selfTestFail
    else if (s.module m).signature ≠ 0 ∧ (s.module m).signature ≠ sig.toNat then
      s.faultModule m .signatureMismatch
    else s.standBy m
  else s

/-- MODULE_CHARGED (R46). -/
def execModuleCharged (m : Fin 8) (s : State) : Host.Outcome State Fault Refusal :=
  atEvent (fun s => (s.moduleAnswers m).takeCharged m) s

/-- MODULE_RESULT (R47). -/
def execModuleResult (m : Fin 8) (pass : Bool) (sig : BitVec 32) (s : State) :
    Host.Outcome State Fault Refusal :=
  atEvent (fun s => (s.moduleAnswers m).takeResult m pass sig) s

/-- MODULE_FAULT (R50): the code is 1 to 255. -/
def execModuleFault (m : Fin 8) (code : Byte) (s : State) : Host.Outcome State Fault Refusal :=
  if code = 0#8 then .fault .notAnEvent
  else atEvent (fun s => (s.moduleAnswers m).faultModule m (.reported code.toNat)) s

/-- MODULE_ANSWER (R45). -/
def execModuleAnswer (m : Fin 8) (s : State) : Host.Outcome State Fault Refusal :=
  atEvent (fun s => s.moduleAnswers m) s

/-- MODULE_SILENT (R45): 100 ms have passed without an answer. -/
def execModuleSilent (m : Fin 8) (s : State) : Host.Outcome State Fault Refusal :=
  atEvent (fun s => s.atExpiry (s.module m).silence fun s =>
    let s := s.modifyModule m fun x => { x with answering := false, silence := none }
    if (s.module m).state.isMember then s.faultModule m .linkLost else s) s

/-- PRECHARGE_TIMER_EXPIRY (R46). -/
def execPrechargeTimerExpiry (m : Fin 8) (s : State) : Host.Outcome State Fault Refusal :=
  atEvent (fun s => s.atExpiry (s.module m).precharge fun s => s.faultModule m .prechargeTimeout) s

/-- SELF_TEST_TIMER_EXPIRY (R47). -/
def execSelfTestTimerExpiry (m : Fin 8) (s : State) : Host.Outcome State Fault Refusal :=
  atEvent (fun s => s.atExpiry (s.module m).selfTest fun s => s.faultModule m .selfTestTimeout) s

/-- The end of a drain (R49, R82). -/
def State.endDrain (s : State) (m : Fin 8) : State :=
  match (s.module m).group with
  | none => s
  | some o => (s.modifyModule m Module.stop).computeShares o

/-- DRAIN_TIMER_EXPIRY (R49). -/
def execDrainTimerExpiry (m : Fin 8) (s : State) : Host.Outcome State Fault Refusal :=
  atEvent (fun s => s.atExpiry (s.module m).drain fun s => s.endDrain m) s

/-- REST_TIME_EXPIRY (R44): the module is free, if it answers, and the queue is examined as the event ends. -/
def execRestTimeExpiry (m : Fin 8) (s : State) : Host.Outcome State Fault Refusal :=
  atEvent (fun s => s.atExpiry (s.module m).rest fun s => s.modifyModule m fun x => { x with rest := none }) s

/-- The wait of a request runs out (R57, R10). -/
def State.expireRequest (s : State) (r : Request) : State :=
  match r.kind with
  | .initial => (s.withdraw r.outlet).deEnergise r.outlet .noCapacity
  | .topUp => (s.withdraw r.outlet).raiseAt r.outlet .topupExpired

/-- GRANT_WAIT_EXPIRY (R57). -/
def execGrantWaitExpiry (o : OutletId) (s : State) : Host.Outcome State Fault Refusal :=
  atEvent (fun s =>
    match s.request o with
    | none => s
    | some r => s.atExpiry (some r.wait) fun s => s.expireRequest r) s

end Sys2Proof.Machine
end

