-- ==== Sys2Proof/Machine/Parse.lean ====
section
/-! DEFINITION. Reading an order line (R185, R186): tokens, keywords, argument forms and fixed lists. The result
is the command of the order, or the code of the first check that fails. -/

namespace Sys2Proof.Machine

/-- A token: plain, in upper case, or from between double quotes. -/
inductive Token
  | plain (t : Text)
  | quoted (t : Text)
  deriving DecidableEq, Repr

/-- What the reader is inside of. -/
inductive ReadState
  | space
  | word (t : Text)
  | quote (t : Text)
  deriving DecidableEq, Repr

/-- The tokens of a line, with `false` when a quote is opened and never closed. A quote opens a quoted token
only where a token begins, and the character after a closing quote begins the next token, a space or none between
them (DEDUCED, log entry 26). -/
def tokens : List Char → ReadState → List Token × Bool
  | [], .space => ([], true)
  | [], .word t => ([.plain t], true)
  | [], .quote t => ([.quoted t], false)
  | c :: cs, .space =>
    if c = ' ' then tokens cs .space
    else if c = '"' then tokens cs (.quote [])
    else tokens cs (.word [c.toUpper])
  | c :: cs, .word t =>
    if c = ' ' then
      let r := tokens cs .space
      (.plain t :: r.1, r.2)
    else tokens cs (.word (t ++ [c.toUpper]))
  | c :: cs, .quote t =>
    if c = '"' then
      let r := tokens cs .space
      (.quoted t :: r.1, r.2)
    else tokens cs (.quote (t ++ [c]))

/-- A word argument: any plain token, one of digits too, which check 4 then refuses where a list has no such word
(DESIGN CHOICE, log entry 66). -/
def Token.word? : Token → Option String
  | .plain t => some (String.ofList t)
  | .quoted _ => none

/-- A plain token that ends in a question mark, read as two tokens (R185, "Query"). -/
def Token.splitQuery : Token → List Token
  | .plain t => if t.length > 1 ∧ t.getLast? = some '?' then [.plain t.dropLast, .plain ['?']] else [.plain t]
  | .quoted t => [.quoted t]

def isDigits (t : Text) : Bool := !t.isEmpty && t.all Char.isDigit

/-- The number written by decimal digits, at its true magnitude. -/
def digitsValue (t : Text) : Nat := t.foldl (fun n c => n * 10 + (c.toNat - 48)) 0

/-- A number argument: an unquoted token of decimal digits. -/
def Token.number? : Token → Option Nat
  | .plain t => if isDigits t then some (digitsValue t) else none
  | .quoted _ => none

/-- An outlet argument: one letter; `some none` when it is none of A, B and C. -/
def Token.letter? : Token → Option (Option OutletId)
  | .plain [c] =>
    if c = 'A' then some (some .a)
    else if c = 'B' then some (some .b)
    else if c = 'C' then some (some .c)
    else if c.isAlpha then some none
    else none
  | _ => none

/-- A text argument; `some none` for the absent text "-". An unquoted token of digits is a number and no text, after a
text of ADMIT too (DESIGN CHOICE, log entry 87). -/
def Token.text? : Token → Option (Option Text)
  | .quoted t => some (some t)
  | .plain ['-'] => some none
  | .plain t => if isDigits t then none else some (some t)

/-- A word looked up in a fixed list by its name. -/
def lookUp {α : Type} (xs : List α) (name : α → String) (w : String) : Option α := xs.find? (name · == w)

def groupOf (w : String) : Option Group := lookUp allGroups Group.name w

def itemOf (w : String) : Option Item := lookUp Item.all Item.name w

def fieldOf (w : String) : Option ProfileField := lookUp ProfileField.all ProfileField.keyword w

def filterOf (w : String) : Option Filter := lookUp [.rise, .fall, .both] Filter.name w

/-- The forms of argument lists that several orders share; anything else fails check 3. -/
def noArguments (i : Instr) : List Token → Except Nat Instr
  | [] => .ok i
  | _ => .error 100

def oneLetter (f : Option OutletId → Instr) : List Token → Except Nat Instr
  | [t] =>
    match t.letter? with
    | some o => .ok (f o)
    | none => .error 100
  | _ => .error 100

def oneNumber (f : Nat → Instr) : List Token → Except Nat Instr
  | [t] =>
    match t.number? with
    | some n => .ok (f n)
    | none => .error 100
  | _ => .error 100

def twoNumbers (f : Nat → Nat → Instr) : List Token → Except Nat Instr
  | [t, u] =>
    match t.number?, u.number? with
    | some m, some n => .ok (f m n)
    | _, _ => .error 100
  | _ => .error 100

/-- The words of a list of tokens, `none` when one of them is quoted. -/
def allWords (ts : List Token) : Option (List String) := ts.mapM Token.word?

/-! ### Orders with forms of their own -/

/-- The digits of a field of a date or a time. -/
def fieldValue (t : Text) : Option Nat := if isDigits t then some (digitsValue t) else none

/-- A date written YYYY-MM-DD (R186). -/
def dateOf : Text → Option (Nat × Nat × Nat)
  | [a, b, c, d, '-', e, f, '-', g, h] =>
    match fieldValue [a, b, c, d], fieldValue [e, f], fieldValue [g, h] with
    | some y, some m, some n => some (y, m, n)
    | _, _, _ => none
  | _ => none

/-- A time written hh:mm:ss (R186). -/
def timeOf : Text → Option (Nat × Nat × Nat)
  | [a, b, ':', c, d, ':', e, f] =>
    match fieldValue [a, b], fieldValue [c, d], fieldValue [e, f] with
    | some h, some m, some n => some (h, m, n)
    | _, _, _ => none
  | _ => none

def parseTime : List Token → Except Nat Instr
  | [.plain d, .plain t] =>
    match dateOf d, timeOf t with
    | some (y, m, n), some (h, i, j) => .ok (.time y m n h i j)
    | _, _ => .error 100
  | _ => .error 100

/-- The texts after the numbers of ADMIT: vessel and account, or the account alone (R186). -/
def admitTexts : List Token → Option (Option Text × Option Text)
  | [] => some (none, none)
  | [t] => t.text?.map fun account => (none, account)
  | [t, u] =>
    match t.text?, u.text? with
    | some vessel, some account => some (vessel, account)
    | _, _ => none
  | _ => none

def admitRest (letter : Option OutletId) (profile : Option Nat) (kW : Nat) (ts : List Token) :
    Except Nat Instr :=
  match admitTexts ts with
  | some (vessel, account) => .ok (.admitVessel letter profile kW vessel account)
  | none => .error 100

/-- The numbers after the outlet letter of ADMIT: one or two (R186). -/
def admitNumbers (letter : Option OutletId) : List Token → Except Nat Instr
  | [] => .error 100
  | [t] =>
    match t.number? with
    | some m => admitRest letter none m []
    | none => .error 100
  | t :: u :: rest =>
    match t.number?, u.number? with
    | some m, some n => admitRest letter (some m) n rest
    | some m, none => admitRest letter none m (u :: rest)
    | none, _ => .error 100

def parseAdmit : List Token → Except Nat Instr
  | [] => .error 100
  | t :: rest =>
    match t.letter? with
    | some letter => admitNumbers letter rest
    | none => .error 100

/-- END letter, or END letter FORCE; another word after the letter is no order of the catalogue (log entry 24). -/
def parseEnd : List Token → Except Nat Instr
  | [t, u] =>
    if u.word? = some "FORCE" then oneLetter .endForce [t] else .error 110
  | ts => oneLetter .endSession ts

def parseCapacity : List Token → Except Nat Instr
  | [t, u] =>
    match t.letter?, u.number? with
    | some o, some n => .ok (.capacity o n)
    | _, _ => .error 100
  | _ => .error 100

/-- MODULE n SERVICE, n RETURN or n ?. A question mark joined to any argument is a token of its own, one that ends no
query too (DESIGN CHOICE, log entry 88). -/
def parseModule (ts : List Token) : Except Nat Instr :=
  match ts.flatMap Token.splitQuery with
  | [t, u] =>
    match t.number?, u.word? with
    | some n, some w =>
      if w = "SERVICE" then .ok (.moduleService n)
      else if w = "RETURN" then .ok (.moduleReturn n)
      else if w = "?" then .ok (.moduleQuery n)
      else .error 120
    | _, _ => .error 100
  | _ => .error 100

def parseSignature : List Token → Except Nat Instr
  | [t, u, v] =>
    match t.number?, u.number?, v.number? with
    | some n, some sig, some rating => .ok (.signature n sig rating)
    | _, _, _ => .error 100
  | _ => .error 100

/-- PROFILE n DEFAULT, n ?, or n SET field value; a word of this list with the arguments of another fails
check 3. A joined question mark is read as in MODULE (DESIGN CHOICE, log entry 88). -/
def parseProfile (ts : List Token) : Except Nat Instr :=
  match ts.flatMap Token.splitQuery with
  | [t, u] =>
    match t.number?, u.word? with
    | some n, some w =>
      if w = "DEFAULT" then .ok (.profileDefault n)
      else if w = "?" then .ok (.profileQuery n)
      else if w = "SET" then .error 100
      else .error 120
    | _, _ => .error 100
  | [t, u, v, w] =>
    match t.number?, u.word?, v.word?, w.number? with
    | some n, some k, some f, some value =>
      if k = "SET" then .ok (.profileSet n (fieldOf f) value)
      else if k = "DEFAULT" ∨ k = "?" then .error 100
      else .error 120
    | _, _, _, _ => .error 100
  | _ => .error 100

/-- TARIFF BAND b price, with start and end minutes or OFF. A third number with no fourth is a wrong number of arguments
(DESIGN CHOICE, log entry 66). -/
def parseBand : List Token → Except Nat Instr
  | [t, u] => twoNumbers (fun b p => .tariffBand b p .keep) [t, u]
  | [t, u, v] =>
    match t.number?, u.number?, v.word?, v.number? with
    | some b, some p, some w, none => if w = "OFF" then .ok (.tariffBand b p .off) else .error 120
    | _, _, _, _ => .error 100
  | [t, u, v, w] =>
    match t.number?, u.number?, v.number?, w.number? with
    | some b, some p, some m, some n => .ok (.tariffBand b p (.minutes m n))
    | _, _, _, _ => .error 100
  | _ => .error 100

def parseFilter : List Token → Except Nat Instr
  | [t, u] =>
    match t.word?, u.word? with
    | some n, some w =>
      match filterOf w with
      | some f => .ok (.filter (itemOf n) f)
      | none => .error 120
    | _, _ => .error 100
  | _ => .error 100

def parseEnable (ts : List Token) : Except Nat Instr :=
  match allWords ts with
  | some (g :: w :: ws) =>
    if w = "NONE" ∧ ws = [] then .ok (.enable (groupOf g) [])
    else .ok (.enable (groupOf g) ((w :: ws).map itemOf))
  | _ => .error 100

def parseAttn (ts : List Token) : Except Nat Instr :=
  match allWords ts with
  | some (w :: ws) =>
    if w = "NONE" ∧ ws = [] then .ok (.attn []) else .ok (.attn ((w :: ws).map groupOf))
  | _ => .error 100

def parseEvents : List Token → Except Nat Instr
  | [t] =>
    match t.word? with
    | some w => .ok (.eventsQuery (groupOf w))
    | none => .error 100
  | _ => .error 100

/-! ### Keywords (check 2) -/

/-- The orders of a one-word keyword. -/
def oneWordOrders : List (String × (List Token → Except Nat Instr)) :=
  [("TIME", parseTime), ("GRID", oneNumber .grid), ("ADMIT", parseAdmit), ("END", parseEnd),
   ("RESUME", oneLetter .resume), ("CAPACITY", parseCapacity), ("SHIPBACK", oneLetter .shipback),
   ("MODULE", parseModule), ("SIGNATURE", parseSignature), ("PROFILE", parseProfile),
   ("LINKTEST", oneLetter .linkTest), ("FILTER", parseFilter), ("ENABLE", parseEnable), ("ATTN", parseAttn),
   ("CLS", noArguments .cls), ("RESET", noArguments .reset)]

/-- The orders of a two-word keyword; a query's second word is its question mark. -/
def twoWordOrders : List ((String × String) × (List Token → Except Nat Instr)) :=
  [(("TIME", "?"), noArguments .timeQuery), (("GRID", "?"), noArguments .gridQuery),
   (("OUTLET", "?"), oneLetter .outletQuery), (("SESSION", "?"), oneLetter .sessionQuery),
   (("MEAS", "?"), oneLetter .measQuery), (("TARIFF", "BAND"), parseBand),
   (("TARIFF", "DEMAND"), oneNumber .tariffDemand), (("TARIFF", "INTERVAL"), oneNumber .tariffInterval),
   (("TARIFF", "SCHEDULE"), noArguments .tariffSchedule),
   (("TARIFF", "DISCARD"), noArguments .tariffDiscard), (("TARIFF", "?"), noArguments .tariffQuery),
   (("LOG", "WINDOW"), twoNumbers .logWindow), (("LOG", "READ"), noArguments .logRead),
   (("LOG", "?"), noArguments .logQuery), (("LOG", "RELEASE"), oneNumber .logRelease),
   (("LOG", "THRESHOLD"), oneNumber .logThreshold), (("CLOSED", "READ"), noArguments .closedRead),
   (("CLOSED", "RELEASE"), noArguments .closedRelease), (("LINK", "?"), oneLetter .linkQuery),
   (("LINK", "CLEAR"), oneLetter .linkClear), (("STATUS", "?"), noArguments .statusQuery),
   (("EVENTS", "?"), parseEvents), (("ERR", "?"), noArguments .errQuery)]

/-- The first words that take a question mark joined to them. -/
def isQueryWord (w : String) : Bool := twoWordOrders.any fun p => p.1.1 == w && p.1.2 == "?"

/-- The tokens with a joined question mark of the keyword read as a token of its own, where the keyword has a query
order without a number before the mark. Joined to any other keyword the mark stays part of the token, which then fails
check 2 (DESIGN CHOICE, log entry 82). -/
def splitKeyword : List Token → List Token
  | [] => []
  | t :: rest =>
    match t.splitQuery with
    | [k, q] => if isQueryWord (k.word?.getD "") then k :: q :: rest else t :: rest
    | _ => t :: rest

/-- The order the first two tokens name, if they name one. -/
def twoWordOrder (t u : Token) : Option (List Token → Except Nat Instr) :=
  match t.word?, u.word? with
  | some a, some b => (twoWordOrders.find? (·.1 == (a, b))).map (·.2)
  | _, _ => none

def oneWordOrder (t : Token) : Option (List Token → Except Nat Instr) :=
  match t.word? with
  | some a => (oneWordOrders.find? (·.1 == a)).map (·.2)
  | none => none

/-- Checks 2 to 4 of R185 on the tokens of a line; an unclosed quote fails check 3, after check 2, so a line that
begins with one is answered 110 (DESIGN CHOICE, log entry 86). -/
def readTokens (closed : Bool) : List Token → Except Nat Instr
  | [] => .error 110
  | [t] =>
    match oneWordOrder t with
    | some f => if closed then f [] else .error 100
    | none => .error 110
  | t :: u :: rest =>
    match twoWordOrder t u with
    | some f => if closed then f rest else .error 100
    | none =>
      match oneWordOrder t with
      | some f => if closed then f (u :: rest) else .error 100
      | none => .error 110

/-- A line without marks read as an order. -/
def readLine (chars : List Char) : Except Nat Instr :=
  let r := tokens chars .space
  readTokens r.2 (splitKeyword r.1)

end Sys2Proof.Machine
end

