-- ==== Sys2Proof/Machine/Power.lean ====
section
/-! DEFINITION. Power, RST#, the RESET order and start-up (R24, R43, R66, R83, R97, R115, R130, R152, R170,
R182, R191, R192, R198): what each block takes at a reset, and what start-up makes of the retained store. -/

namespace Sys2Proof.Machine

/-! ### The values after a reset -/

/-- The metering unit's figures of an outlet after a reset (R170): the totals are retained. -/
def Meter.afterReset (m : Meter) : Meter :=
  { Meter.blank with importTotal := m.importTotal, exportTotal := m.exportTotal,
                     releasedImport := m.releasedImport, releasedExport := m.releasedExport }

/-- A module after a reset (R66): the rating, signature, service flag and last fault code are retained, and STOP has
been sent to it once start-up runs. -/
def Module.afterReset (starting : Bool) (m : Module) : Module :=
  { Module.blank with
    message := if starting then some stopMessage else none
    rating := m.rating, signature := m.signature, service := m.service, lastFault := m.lastFault
    state := if m.service then .outOfService else .off
    rest := if m.service then none else some (seconds 30) }

/-- An outlet after a reset (sections 1.10, 2.7, 4.10, 5.6, 6.10, 7.8, 8.10): the fields of an open session and
the held record are retained. -/
def Outlet.afterReset (x : Outlet) : Outlet :=
  { Outlet.blank with
    state := if x.held.isSome then .held else .vacant
    session := x.session, interval := x.interval, held := x.held, meter := x.meter.afterReset }

/-- The part as a reset leaves it in a phase: every block at its after-reset values, the retained store
unchanged, the status unit cleared (R198), the commands that wait untouched. -/
def State.afterReset (s : State) (phase : Phase) : State :=
  { State.reset with
    phase := phase
    rstLow := s.rstLow
    outlets := { a := s.outlets.a.afterReset, b := s.outlets.b.afterReset, c := s.outlets.c.afterReset }
    modules := s.modules.map (Module.afterReset (phase == .startingUp))
    gridLimit := s.gridLimit
    tariff := s.tariff
    pendingTariff := s.pendingTariff
    log := { s.log with window := none }
    sessionCounter := s.sessionCounter
    profiles := s.profiles
    pending := s.pending }

/-! ### Power and RST# -/

/-- POWER_ON (R198): start-up begins, or waits for RST# to be released. -/
def execPowerOn (s : State) : Host.Outcome State Fault Refusal :=
  .next (s.afterReset (if s.rstLow then .inReset else .startingUp))

/-- RST_ASSERTED (R43): a part without supply only sees the level of the pin. -/
def execRstAsserted (s : State) : Host.Outcome State Fault Refusal :=
  let s := { s with rstLow := true }
  .next (if s.phase = .off then s else s.afterReset .inReset)

/-- Start-up begins, and STOP is sent to every module (R43, R66). -/
def State.beginStartUp (s : State) : State :=
  { s with phase := .startingUp, modules := s.modules.map fun m => { m with message := some stopMessage } }

/-- RST_RELEASED (R43): start-up begins. -/
def execRstReleased (s : State) : Host.Outcome State Fault Refusal :=
  let s := { s with rstLow := false }
  .next (if s.phase = .inReset then s.beginStartUp else s)

/-- POWER_LOSS (R5): only the retained store survives. -/
def execPowerLoss (s : State) : Host.Outcome State Fault Refusal := .next (s.afterReset .off)

/-! ### The RESET order (R191) -/

/-- The state codes of the outlets, for the comparison at start-up (R198). -/
def State.codes (s : State) : PerOutlet Nat :=
  { a := s.outlets.a.state.code, b := s.outlets.b.state.code, c := s.outlets.c.state.code }

/-- An accepted RESET: the reply has been sent in full, the waiting lines are discarded, and the part resets
with its status unit kept. -/
def State.orderReset (s : State) : State :=
  { s.afterReset .startingUp with
    restart := .order s.codes
    status := s.status
    terminal := { Terminal.reset with lastReply := some (.ok "" []) } }

/-- RESET (R191). -/
def execReset (s : State) : Host.Outcome State Fault Refusal := atEvent State.orderReset s

/-! ### Start-up (R24, R198) -/

/-- The sessions a reset left open are closed with end cause RESET, in ascending order of session number (R24). -/
def State.closeAtStartUp (s : State) : State :=
  (s.bySession (allOutlets.filter fun o => (s.outlet o).session.isSome)).foldl
    (fun s o => s.closeSession o .reset) s

/-- The start levels of a group's conditions, taken with no transition (R198). -/
def State.startLevels (s : State) (g : Group) : State :=
  { s with status := s.status.set g { s.status.get g with conditions := g.conditions.filter (s.level g) } }

/-- STATE_CHANGED where an outlet's code differs from its code before the RESET order (R198). -/
def State.restate (s : State) (o : OutletId) (before : Nat) : State :=
  if (s.outlet o).state.code = before then s else s.raiseState o (s.outlet o).state.code

/-- The owners' statements when start-up is complete (R198). -/
def State.stateConditions (s : State) : State :=
  match s.restart with
  | .cold => allGroups.foldl State.startLevels s
  | .order codes => (allOutlets.foldl (fun s o => s.restate o (codes.get o)) s).reportAll

/-- The hold of the module link's commands to STOP ends, and polling follows (R66). -/
def State.startPolling (s : State) : State :=
  { s with modules := s.modules.map fun m => { m with command := none } }

/-- The completion of start-up: what the status unit holds is what the owners state. -/
def State.startUp (s : State) : State :=
  let t := { s with phase := .running }.startPolling.closeAtStartUp
  { t with status := s.status }.stateConditions

/-- START_UP_COMPLETE (R24, R198). -/
def execStartUpComplete (s : State) : Host.Outcome State Fault Refusal :=
  .next (if s.phase = .startingUp then s.startUp else s)

end Sys2Proof.Machine
end

