-- ==== Sys2Proof/Machine/Control.lean ====
section
/-! DEFINITION. The reference update and the control step (chapter 4): targets, slews, setpoint, trim, shares,
and the messages of the module link (section 3.2). -/

namespace Sys2Proof.Machine

/-! ### Frequency and voltage (R69, R71 to R75) -/

/-- The phase increment word of a set frequency (R69). -/
def wordOf (mHz : Nat) : Nat := natHalfUp (mHz * 16777216) 9600000

/-- The realised frequency of a word (R69). -/
def realisedFrequency (word : Nat) : Nat := natHalfUp (word * 9600000) 16777216

/-- The phase angle of an accumulator (R68). -/
def phaseAngle (acc : BitVec 24) : Nat := natHalfUp (acc.toNat * 36000) 16777216 % 36000

/-- A value one step nearer its target, or at it (R71, R78). -/
def stepTowards (step target n : Nat) : Nat :=
  if distance n target ≤ step then target else if n < target then n + step else n - step

/-- A rate per second as a step of 10 ms, at least 1 (R71, R78). -/
def stepOf (rate : Nat) : Nat := max 1 (rate / 100)

/-- A frequency target clamped to the nominal frequency ±2,000 mHz (R71). -/
def Profile.clampFrequency (p : Profile) (f : Int) : Nat :=
  (clampInt ((p.nomFreq : Int) - 2000) (p.nomFreq + 2000) f).toNat

/-- A TRACK voltage target clamped to the nominal voltage ±10 % (R74). -/
def Profile.clampVoltage (p : Profile) (v : Nat) : Nat :=
  let tenth := natHalfUp p.nomVolt 10
  clampNat (p.nomVolt - tenth) (p.nomVolt + tenth) v

/-- The ramp value of a soft-start count (R72). -/
def Profile.rampVoltage (p : Profile) (k : Nat) : Nat := natHalfUp (p.nomVolt * k) (p.softStart * 100)

/-- The pending mode takes effect (R70, R72, R74). A TRACK that was selected again while TRACK is in force takes the
nominal targets as at its first step (DESIGN CHOICE, log entry 84). -/
def Reference.applyPending (r : Reference) (p : Profile) : Reference :=
  match r.pending with
  | none => r
  | some .softStart =>
    { r with mode := .softStart, pending := none, accumulator := 0, setFreq := p.nomFreq,
             freqTarget := p.nomFreq, setVolt := 0, softSteps := 0 }
  | some .track =>
    { r with mode := .track, pending := none, freqTarget := p.nomFreq, voltTarget := p.nomVolt }
  | some m => { r with mode := m, pending := none }

/-- One ramp step of the setpoint (R78). -/
def Reference.moveSetpoint (r : Reference) (p : Profile) (limit : Nat) (status : Option ShipStatus) :
    Reference :=
  let target := if r.rising then
      (match status with
        | some h => min limit h.busLoad
        | none => limit)
    else 0
  { r with setpoint := min limit (stepTowards (stepOf p.ramp) target r.setpoint) }

/-- The trim step of an error in kW (R76). -/
def Profile.trimStep (p : Profile) (error : Int) : Int :=
  clampInt (-50) 50 (divHalfAway (error * p.trimGain) 1000)

/-- The update of the power trim (R76). -/
def Reference.moveTrim (r : Reference) (p : Profile) (power : PowerRecord) : Reference :=
  if power.validity = .valid then
    { r with trim := clampInt (-500) 500 (r.trim + p.trimStep ((r.setpoint : Int) - power.kW)) }
  else r

/-- The targets of the mode (R72 to R75). -/
def Reference.aim (r : Reference) (p : Profile) (cable ship : CycleRecord) : Reference :=
  match r.mode with
  | .stopped => r
  | .softStart => { r with freqTarget := p.nomFreq, voltTarget := p.rampVoltage r.softSteps }
  | .island => { r with freqTarget := p.nomFreq, voltTarget := p.nomVolt }
  | .track =>
    if ship.validity.usable then
      { r with freqTarget := p.clampFrequency (ship.frequency + p.slipTarget)
               voltTarget := p.clampVoltage (natHalfUp (ship.rms * (1000 + p.vOffset)) 1000) }
    else r
  | .parallel =>
    { r with freqTarget := if cable.validity.usable then p.clampFrequency (cable.frequency + r.trim)
               else r.freqTarget
             voltTarget := p.nomVolt }

/-- The set values move towards their targets, and the word follows (R69, R71, R72). -/
def Reference.slew (r : Reference) (p : Profile) : Reference :=
  let f := stepTowards (stepOf p.fSlew) r.freqTarget r.setFreq
  { r with setFreq := f, word := wordOf f
           setVolt := if r.mode = .softStart then r.voltTarget
             else stepTowards (stepOf p.vSlew) r.voltTarget r.setVolt }

/-- The soft-start count of a step (R72). -/
def Reference.countSoftStep (r : Reference) (p : Profile) : Reference :=
  if r.mode = .softStart then { r with softSteps := min (p.softStart * 100) (r.softSteps + 1) } else r

/-- The reference after one control step (R70). -/
def Outlet.stepReference (x : Outlet) (p : Profile) : Reference :=
  let r := (x.reference.applyPending p).countSoftStep p
  let r := if r.mode = .parallel then
      (r.moveSetpoint p x.limit x.handover.shipStatus).moveTrim p x.power
    else r
  (r.aim p x.cable.record x.ship.record).slew p

/-- The ramp is complete (R72). -/
def Reference.rampDone (r : Reference) (p : Profile) : Bool :=
  r.mode == .softStart && r.softSteps == p.softStart * 100

/-! ### Shares (R81, R82) -/

/-- The share of a drain step (R82). -/
def drainShare (releaseShare count : Nat) : Nat := natHalfUp (releaseShare * (200 - count)) 200

/-- One drain step of a RELEASING member. -/
def Module.drainStep (m : Module) : Module :=
  let count := min 200 (m.drainCount + 1)
  { m with drainCount := count, share := drainShare m.releaseShare count }

def State.stepShares (s : State) (o : OutletId) : State :=
  (s.modifyModules (s.members o [.releasing]) Module.drainStep).computeShares o

/-- One outlet's control step: nothing in STOPPED with no mode pending (R70). -/
def State.controlOutlet (s : State) (o : OutletId) : State :=
  let x := s.outlet o
  match x.session with
  | none => s
  | some r =>
    if x.reference.mode = .stopped ∧ x.reference.pending = none then s
    else
      (s.modify o fun x => { x with
        reference := x.stepReference r.snapshot
        rampComplete := x.rampComplete || (x.stepReference r.snapshot).rampDone r.snapshot }).stepShares o

/-! ### The module link (section 3.2) -/

/-- The message of this step to a module: the command due, and the reference for a RUNNING or RELEASING one. -/
def State.messageTo (s : State) (m : Module) : ModuleMessage :=
  { command := m.command
    reference := if m.state = .running ∨ m.state = .releasing then
        m.group.map fun o =>
          ((s.outlet o).reference.accumulator, (s.outlet o).reference.word, (s.outlet o).reference.setVolt)
      else none
    share := m.share }

/-- Each module is addressed once; a due command has then been sent. -/
def State.sendMessages (s : State) : State :=
  { s with modules := s.modules.map fun m => { m with message := some (s.messageTo m), command := none } }

/-- The control step of the three generators and the module link (R70, section 3.2). -/
def State.controlStep (s : State) : State :=
  (((s.controlOutlet .a).controlOutlet .b).controlOutlet .c).sendMessages

/-- CONTROL_STEP (R70): taken when it falls due. -/
def execControlStep (s : State) : Host.Outcome State Fault Refusal :=
  atEvent (fun s =>
    let s := s.elapse s.due.control
    ({ s with due := { s.due with control := Config.controlPeriod } }).controlStep) s

/-- A reference update (R68): the accumulator advances in every mode but STOPPED. -/
def Reference.update (r : Reference) : Reference :=
  if r.mode = .stopped then r else { r with accumulator := r.accumulator + BitVec.ofNat 24 r.word }

/-- REFERENCE_UPDATE (R68): taken when it falls due. -/
def execReferenceUpdate (s : State) : Host.Outcome State Fault Refusal :=
  atEvent (fun s =>
    let s := s.elapse s.due.reference
    allOutlets.foldl (fun s o => s.modifyRef o Reference.update)
      { s with due := { s.due with reference := Config.samplePeriod } }) s

end Sys2Proof.Machine
end

