-- ==== Sys2Proof/Machine/Measurement.lean ====
section
/-! DEFINITION. The measurement unit (chapter 5): sample sets, zero crossings, cycle records, power records, the
grid import record and the grid-over check. -/

namespace Sys2Proof.Machine

/-! ### What each channel takes from a sample set (section 5.1, R84) -/

/-- The clipping limits of the front-ends (R94). -/
def isClipped (i : BitVec 16) : Bool := i.toInt == -32768 || i.toInt == 32767

/-- A CABLE channel's waveform, products and clipping (R93). -/
def cableSample (x : OutletSamples) : ChannelSample :=
  { wave := x.uab.toInt, product1 := x.uab.toInt * x.ia.toInt, product2 := -x.ubc.toInt * x.ic.toInt,
    power := 0, clipped := isClipped x.ia || isClipped x.ic }

def shipSample (x : OutletSamples) : ChannelSample :=
  { wave := x.ship.toInt, product1 := 0, product2 := 0, power := 0, clipped := false }

def gridSample (x : SampleSet) : ChannelSample :=
  { wave := x.gridVoltage.toInt, product1 := 0, product2 := 0, power := x.gridPower.toInt, clipped := false }

def samplesOf (x : SampleSet) : OutletId → OutletSamples
  | .a => x.a
  | .b => x.b
  | .c => x.c

/-- The nominal voltage of an outlet's channels (R84). -/
def Outlet.nominalVoltage (x : Outlet) : Nat :=
  match x.session, x.announcement with
  | some r, _ => r.snapshot.nomVolt
  | none, some h => h.voltage
  | none, none => 400

/-- The GRID channel's nominal voltage, in per mille (R84). -/
def gridNominal : Nat := 1000

/-! ### Crossings and cycles (R85 to R89) -/

def lossTime : Nat := ms 100

/-- The arming level (R85). -/
def armingLevel (nominal : Nat) : Nat := natHalfUp (nominal * 71) 1000

def CycleSums.add (c : CycleSums) (x : ChannelSample) : CycleSums :=
  { count := c.count + 1, squares := c.squares + x.wave.natAbs * x.wave.natAbs,
    product1 := c.product1 + x.product1, product2 := c.product2 + x.product2,
    power := c.power + x.power, clipped := c.clipped || x.clipped }

/-- The time of a crossing, by interpolation (R86). -/
def Candidate.time (c : Candidate) : Timestamp :=
  c.beforeTime + BitVec.ofNat 32 (natHalfUp (1000 * c.before.natAbs) (c.after.wave - c.before).toNat)

/-- The frequency of a period (R87). -/
def frequencyOf (period : Nat) : Nat := natHalfUp 9600000000 period

/-- The RMS below which a cycle is invalid (R88). -/
def rmsThreshold (nominal : Nat) : Nat := natHalfUp (nominal * 20) 100

/-- R88. -/
def isValidCycle (nominal frequency rms : Nat) : Bool :=
  40000 ≤ frequency && frequency ≤ 70000 && rmsThreshold nominal ≤ rms

/-- What an accepted crossing was: it opened the first cycle, or closed one with its sums. -/
inductive Passage
  | opened
  | closed (valid : Bool) (sums : CycleSums)
  deriving DecidableEq, Repr

/-- The record at an accepted crossing that closes a cycle (R87, R89). -/
def CycleRecord.close (r : CycleRecord) (nominal : Nat) (opened closed : Timestamp) (sums : CycleSums) :
    CycleRecord × Bool :=
  let period := (closed - opened).toNat
  let frequency := frequencyOf period
  let rms := rootMeanSquare sums.squares sums.count
  if isValidCycle nominal frequency rms then
    ({ frequency := frequency, period := period, rms := rms, crossing := some closed, valueTime := some closed,
       validity := r.validity.onValid }, true)
  else ({ r with crossing := some closed, validity := r.validity.onInvalid }, false)

/-- A channel at an accepted crossing (R86): the cycle that opens holds s_b and the present sample. -/
def Channel.accept (c : Channel) (nominal : Nat) (k : Candidate) (x : ChannelSample) : Channel × Passage :=
  let t := k.time
  let c' := { c with armed := false, candidate := none, lastCrossing := some t, lossTimer := some lossTime,
                     previous := some x.wave, sums := (CycleSums.zero.add k.after).add x }
  match c.lastCrossing with
  | none => ({ c' with record := { c.record with crossing := some t } }, .opened)
  | some t₀ =>
    let r := c.record.close nominal t₀ t c.sums
    ({ c' with record := r.1 }, .closed r.2 c.sums)

/-- A sample that is no accepted crossing goes into the sums of the cycle in progress. -/
def Channel.sum (c : Channel) (x : ChannelSample) : Channel :=
  { c with sums := if c.lastCrossing.isSome then c.sums.add x else c.sums }

/-- A channel takes its sample, stamped `now` (R85). -/
def Channel.take (c : Channel) (nominal : Nat) (now : Timestamp) (x : ChannelSample) :
    Channel × Option Passage :=
  let c := { c with armed := c.armed || decide (x.wave < -(armingLevel nominal : Int)) }
  match c.candidate with
  | some k =>
    if 0 ≤ x.wave ∧ c.armed then
      let (c, p) := c.accept nominal k x
      (c, some p)
    else
      (({ c with candidate := none, previous := some x.wave }.sum k.after).sum x, none)
  | none =>
    match c.previous with
    | some p =>
      if p < 0 ∧ 0 ≤ x.wave then
        let k := { before := p, beforeTime := now - BitVec.ofNat 32 Config.samplePeriod, after := x }
        ({ c with previous := some x.wave, candidate := some k }, none)
      else ({ c with previous := some x.wave }.sum x, none)
    | none => ({ c with previous := some x.wave }.sum x, none)

/-- A channel at the expiry of its loss timer (R90). A candidate is dropped, but where the sample set of the same
instant is still to come: a crossing of that set finds no last accepted crossing and opens a cycle, so the candidate it
would accept stands until that set judges it (DEDUCED, log entry 65). -/
def Channel.lose (c : Channel) (setToCome : Bool) : Channel :=
  { c with candidate := if setToCome then c.candidate else none, lastCrossing := none, lossTimer := some lossTime, sums := CycleSums.zero,
           record := { c.record with crossing := none, validity := c.record.validity.onInvalid } }

/-! ### The power record and the grid import record (R93 to R95) -/

/-- The power record at a closed CABLE cycle (R93, R94). -/
def PowerRecord.close (p : PowerRecord) (valid : Bool) (k : CycleSums) : PowerRecord :=
  if valid && !k.clipped then
    { p := divHalfAway (k.product1 + k.product2) k.count
      q := divHalfAway (1732 * (k.product2 - k.product1)) (1000 * k.count)
      validity := p.validity.onValid }
  else { p with validity := p.validity.onInvalid }

/-- The power record at an expiry of the CABLE channel's loss timer (R94). -/
def PowerRecord.lose (p : PowerRecord) : PowerRecord := { p with validity := p.validity.onInvalid }

def PowerRecord.pass (p : PowerRecord) : Option Passage → PowerRecord
  | some (.closed valid k) => p.close valid k
  | _ => p

/-- The import power at a GRID crossing (R95). -/
def importOf (old : Int) : Option Passage → Int
  | some (.closed true k) => divHalfAway k.power k.count
  | _ => old

/-- The delivery a crossing makes. -/
def Passage.delivery : Passage → Delivery
  | .opened => .opened
  | .closed _ _ => .closed

/-! ### Grid-over (R96) -/

def gridOverTime : Nat := seconds 60

def GridUnit.check (g : GridUnit) (limit : Nat) : GridUnit :=
  if g.channel.record.validity.usable ∧ (limit : Int) < g.importPower then
    { g with overTimer := if g.overTimer.isSome then g.overTimer else some gridOverTime }
  else { g with overTimer := none, overSet := false }

def State.deliverGrid (s : State) : State := { s with grid := s.grid.check s.gridLimit }

/-! ### The sample set as one event (R84) -/

/-- An outlet's two channels take their samples. -/
def Outlet.takeSamples (x : Outlet) (now : Timestamp) (k : OutletSamples) :
    Outlet × Option Passage × Option Passage :=
  let cable := x.cable.take x.nominalVoltage now (cableSample k)
  let ship := x.ship.take x.nominalVoltage now (shipSample k)
  ({ x with cable := cable.1, ship := ship.1, power := x.power.pass cable.2 }, cable.2, ship.2)

/-- The GRID channel takes its samples. -/
def GridUnit.takeSamples (g : GridUnit) (now : Timestamp) (k : SampleSet) : GridUnit × Option Passage :=
  let c := g.channel.take gridNominal now (gridSample k)
  ({ g with channel := c.1, importPower := importOf g.importPower c.2 }, c.2)

/-- The deliveries of one outlet's channels: CABLE with its power record, then SHIP (R91; log entry 20). -/
def State.deliverOutlet (s : State) (o : OutletId) (cable ship : Option Passage) : State :=
  let s := match cable with
    | some p => s.deliverCable o p.delivery
    | none => s
  match ship with
  | some p => s.deliverShip o p.delivery
  | none => s

/-- Every channel takes the set; then the completed records are delivered (R84, R91). -/
def State.takeSet (s : State) (k : SampleSet) : State :=
  let a := (s.outlet .a).takeSamples s.timestamp k.a
  let b := (s.outlet .b).takeSamples s.timestamp k.b
  let c := (s.outlet .c).takeSamples s.timestamp k.c
  let g := s.grid.takeSamples s.timestamp k
  let s := { s with outlets := { a := a.1, b := b.1, c := c.1 }, grid := g.1 }
  let s := s.deliverOutlet .a a.2.1 a.2.2
  let s := s.deliverOutlet .b b.2.1 b.2.2
  let s := s.deliverOutlet .c c.2.1 c.2.2
  if g.2.isSome then s.deliverGrid else s

/-- SAMPLE_SET (R84): taken when the next set falls due, and stamped then. -/
def execSampleSet (k : SampleSet) (s : State) : Host.Outcome State Fault Refusal :=
  atEvent (fun s =>
    let s := s.elapse s.due.sample
    ({ s with due := { s.due with sample := Config.samplePeriod } }).takeSet k) s

/-- The loss timer of a channel. -/
def State.lossTimer (s : State) : ChannelId → Timer
  | .cable o => (s.outlet o).cable.lossTimer
  | .ship o => (s.outlet o).ship.lossTimer
  | .grid => s.grid.channel.lossTimer

/-- The sample set of the present instant has not been taken yet (R90; log entry 65). -/
def State.setToCome (s : State) : Bool := s.due.sample == 0

/-- A loss timer runs out (R90, R91, R94, R95). -/
def State.loseChannel (s : State) : ChannelId → State
  | .cable o =>
    (s.modify o fun x => { x with cable := x.cable.lose s.setToCome, power := x.power.lose }).deliverCable o .loss
  | .ship o => (s.modify o fun x => { x with ship := x.ship.lose s.setToCome }).deliverShip o .loss
  | .grid => ({ s with grid := { s.grid with channel := s.grid.channel.lose s.setToCome } }).deliverGrid

/-- LOSS_TIMER_EXPIRY (R90). -/
def execLossTimerExpiry (ch : ChannelId) (s : State) : Host.Outcome State Fault Refusal :=
  atEvent (fun s => s.atExpiry (s.lossTimer ch) fun s => s.loseChannel ch) s

/-- An open interval in which GRID_OVER becomes Set (R162). -/
def Outlet.flagGridOver (x : Outlet) : Outlet :=
  { x with interval := x.interval.map fun i => { i with flags := addFlags i.flags [.gridOver] } }

/-- GRID_OVER_TIMER_EXPIRY (R96, R162). -/
def execGridOverTimerExpiry (s : State) : Host.Outcome State Fault Refusal :=
  atEvent (fun s => s.atExpiry s.grid.overTimer fun s =>
    allOutlets.foldl (fun s o => s.modify o Outlet.flagGridOver)
      { s with grid := { s.grid with overTimer := none, overSet := true } }) s

/-- METERING_TICK (R155): taken when it falls due. -/
def execMeteringTick (s : State) : Host.Outcome State Fault Refusal :=
  atEvent (fun s =>
    let s := s.elapse s.due.metering
    ({ s with due := { s.due with metering := Config.meteringPeriod } }).meterTick) s

end Sys2Proof.Machine
end

