-- ==== Sys2Proof/Machine/Frames.lean ====
section
/-! DEFINITION. The frame services: what the outlet controller does with the frame it takes from the receive
FIFO, by its state (R1, R2, R26; chapter 8). -/

namespace Sys2Proof.Machine

/-- The frame service of one type (R121): it happens when the oldest frame of the FIFO has that type. The frame
is removed, and acts; in VACANT it is discarded without reply (R1). -/
def State.serve (s : State) (o : OutletId) (type : Byte) (act : List Byte → State → State) : State :=
  match (s.outlet o).link.fifo with
  | [] => s
  | f :: rest =>
    if f.type = type then
      let s := s.modifyLink o fun l => { l with fifo := rest }
      if (s.outlet o).state = .vacant then s else act f.payload s
    else s

/-- The answer WS of R26. -/
def State.wrongState (s : State) (o : OutletId) (type : Byte) : State := s.sendRefuse o type .wrongState

/-- A WELCOME for the open session (R9, R17, R26). -/
def State.welcome (s : State) (o : OutletId) : State :=
  match (s.outlet o).session with
  | none => s
  | some r => s.send o (.welcome r.number r.profileNumber (s.outlet o).limit)

/-- A HELLO in CABLED or ANNOUNCED (R2). -/
def State.takeAnnouncement (s : State) (o : OutletId) (payload : List Byte) : State :=
  match decodeHello payload with
  | none => s.sendRefuse o 0x01#8 .notReady
  | some h =>
    if h.isValid then (s.modify o fun x => { x with announcement := some h }).enter o .announced
    else s.sendRefuse o 0x01#8 .notReady

def State.takeHello (s : State) (o : OutletId) (payload : List Byte) : State :=
  match (s.outlet o).state with
  | .cabled => s.takeAnnouncement o payload
  | .announced => s.takeAnnouncement o payload
  | .held => s.wrongState o 0x01#8
  | _ => s.welcome o

/-- HELLO (R2, R26). -/
def execHello (o : OutletId) (s : State) : Host.Outcome State Fault Refusal :=
  atEvent (fun s => s.serve o 0x01#8 fun p s => s.takeHello o p) s

/-- A STATUS (R131). -/
def State.takeStatus (s : State) (o : OutletId) (payload : List Byte) : State :=
  match decodeStatus payload with
  | none => s
  | some h => s.modifyHandover o fun r => { r with shipStatus := some h }

/-- STATUS (R131). -/
def execStatus (o : OutletId) (s : State) : Host.Outcome State Fault Refusal :=
  atEvent (fun s => s.serve o 0x02#8 fun p s => s.takeStatus o p) s

/-- The ship is ready to parallel (R133). -/
def Handover.mayParallel (h : Handover) : Bool :=
  match h.shipStatus with
  | some r => r.ready && r.droop
  | none => false

/-- The entry to SYNCHRONISING (R98, R133). -/
def State.enterSync (s : State) (o : OutletId) : State :=
  match (s.outlet o).session with
  | none => s
  | some r => (s.modifyCheck o fun c => c.enter r.snapshot.syncTimeout).enter o .synchronising

def State.takeParallelRequest (s : State) (o : OutletId) : State :=
  if (s.outlet o).state = .cableLive then
    if (s.outlet o).handover.mayParallel then s.enterSync o else s.sendRefuse o 0x03#8 .notReady
  else s.wrongState o 0x03#8

/-- PARALLEL_REQUEST (R133). -/
def execParallelRequest (o : OutletId) (s : State) : Host.Outcome State Fault Refusal :=
  atEvent (fun s => s.serve o 0x03#8 fun _ s => s.takeParallelRequest o) s

def State.takeGeneratorsOff (s : State) (o : OutletId) : State :=
  if (s.outlet o).state = .transferIn ∧ (s.outlet o).handover.aborting = false then
    ((s.modifyHandover o fun h => { h with parallelTimer := none, transferDone := true }).raiseAt o
      .transferComplete).enter o .shoreSupply
  else s.wrongState o 0x04#8

/-- GENERATORS_OFF (R138). -/
def execGeneratorsOff (o : OutletId) (s : State) : Host.Outcome State Fault Refusal :=
  atEvent (fun s => s.serve o 0x04#8 fun _ s => s.takeGeneratorsOff o) s

def State.takeReturnRequest (s : State) (o : OutletId) : State :=
  if (s.outlet o).state = .shoreSupply then
    (s.modifyHandover o fun h => { h with returnAccepted := true, returnPending := false }).raiseAt o
      .returnRequested
  else s.wrongState o 0x05#8

/-- RETURN_REQUEST (R141). -/
def execReturnRequest (o : OutletId) (s : State) : Host.Outcome State Fault Refusal :=
  atEvent (fun s => s.serve o 0x05#8 fun _ s => s.takeReturnRequest o) s

def State.takeGeneratorsOn (s : State) (o : OutletId) : State :=
  if (s.outlet o).state = .shoreSupply then
    ((s.modify o fun x => { x with handover := { x.handover with
      parallelTimer := x.parallelTime, transferDone := false, returnAccepted := false,
      returnPending := false } }).raiseAt o .returnStarted).enter o .transferOut
  else s.wrongState o 0x06#8

/-- GENERATORS_ON (R143). -/
def execGeneratorsOn (o : OutletId) (s : State) : Host.Outcome State Fault Refusal :=
  atEvent (fun s => s.serve o 0x06#8 fun _ s => s.takeGeneratorsOn o) s

/-- An ABORT by the outlet's state (R134, R139, R26). -/
def State.takeAbort (s : State) (o : OutletId) : State :=
  match (s.outlet o).state with
  | .synchronising => s.abandonSync o .aborted
  | .transferIn =>
    if (s.outlet o).handover.aborting then s
    else
      (s.modify o fun x => { x with
        handover := { x.handover with aborting := true }
        reference := { x.reference with rising := false } }).raiseAt o .transferAborted
  | .transferOut => s
  | _ => s.wrongState o 0x07#8

/-- ABORT (R134, R139). -/
def execAbort (o : OutletId) (s : State) : Host.Outcome State Fault Refusal :=
  atEvent (fun s => s.serve o 0x07#8 fun _ s => s.takeAbort o) s

/-- A BYE by the outlet's state (R3, R20). -/
def State.takeBye (s : State) (o : OutletId) : State :=
  match (s.outlet o).state with
  | .announced => (s.modify o fun x => { x with announcement := none }).enter o .cabled
  | .admitted => s.deEnergise o .bye
  | .energising => s.deEnergise o .bye
  | .cableLive => s.deEnergise o .bye
  | _ => s.wrongState o 0x08#8

/-- BYE (R3, R20). -/
def execBye (o : OutletId) (s : State) : Host.Outcome State Fault Refusal :=
  atEvent (fun s => s.serve o 0x08#8 fun _ s => s.takeBye o) s

end Sys2Proof.Machine
end

