-- ==== Sys2Proof/Machine/SessionOrders.lean ====
section
/-! DEFINITION. The outlet orders ADMIT, END, END FORCE, RESUME, CAPACITY and SHIPBACK, and GRID (chapters 1,
3 and 8; the table of R25). -/

namespace Sys2Proof.Machine

/-- An order that names an outlet: a letter that is none of A, B, C is refused with 120 (R185, R25). -/
def State.forOutlet (s : State) (letter : Option OutletId) (act : OutletId → State → State) : State :=
  match letter with
  | none => s.no 120
  | some o => act o s

/-! ### ADMIT (R7 to R9) -/

/-- A text argument of 1 to `most` printable characters, or an absent one (R8). -/
def textAllowed (most : Nat) : Option Text → Bool
  | none => true
  | some t => 1 ≤ t.length && t.length ≤ most && t.all isPrintable

/-- A retained profile by its number. -/
def State.profileAt (s : State) (n : Nat) : Profile := (s.profiles[n]?).getD Profile.default

/-- The profile an ADMIT snapshots (R7). -/
def Outlet.chosenProfile (x : Outlet) (named : Option Nat) : Nat :=
  match named, x.announcement with
  | some n, _ => n
  | none, some h => h.profile
  | none, none => 0

/-- The check of the profile against the announcement (R7). -/
def Outlet.profileSuits (x : Outlet) (p : Profile) : Bool :=
  match x.announcement with
  | none => true
  | some h => h.frequency == p.nomFreq && distance h.voltage p.nomVolt ≤ p.toleranceVolts

/-- The capacity a session may hold, in kW (R8, R61). -/
def clampCapacity (kW : Nat) : Nat := clampNat 1 60000 kW

/-- A session record as ADMIT creates it (R4, R9). -/
def newSession (number : Nat) (o : OutletId) (vessel account : Option Text) (n : Nat) (p : Profile)
    (kW : Nat) (start : Option Clock) : Session :=
  { number := number, outlet := o, vessel := vessel, account := account, profileNumber := n, snapshot := p,
    admitted := kW, startTime := start, endTime := none, endCause := none, importWh := Bands.zero,
    exportWh := 0, merged := Merged.none, charge := Bands.zero, peak := 0, peakStart := none, quality := [],
    closeAttempts := 0, tripCount := 0, lastTrip := none, totalCharge := none }

/-- The vessel code of the session: the order's, else the announcement's (R7). -/
def Outlet.chosenVessel (x : Outlet) (named : Option Text) : Option Text :=
  if named.isSome then named else x.announcement.map (·.vessel)

/-- R9: the session opens. -/
def State.openSession (s : State) (o : OutletId) (n kW : Nat) (vessel account : Option Text) : State :=
  let number := s.sessionCounter + 1
  let r := newSession number o ((s.outlet o).chosenVessel vessel) account n (s.profileAt n) kW s.stamp
  let s := { s with sessionCounter := number }
  let s := s.modify o fun x => { x with
    announcement := none, session := some r, interval := none, endCause := none
    meter := { x.meter with importAcc := 0, exportAcc := 0 } }
  ((s.ask o .initial kW).welcome o).enter o .admitted

/-- ADMIT on an outlet, its arguments allowed: the checks of R8 in their order. -/
def State.admitTo (s : State) (o : OutletId) (profile : Option Nat) (kW : Nat)
    (vessel account : Option Text) : State :=
  let x := s.outlet o
  let n := x.chosenProfile profile
  if x.state = .held then s.no 210
  else if x.state ≠ .cabled ∧ x.state ≠ .announced then s.no 200
  else if !s.interlocksGood o then s.no 230
  else if !x.profileSuits (s.profileAt n) then s.no 240
  else if Config.max32 ≤ s.sessionCounter then s.refuse 200 "NO NUMBER"
  else
    let given := clampCapacity kW
    let s := s.openSession o n given vessel account
    s.okOr (given != kW) ([("SESSION_NUMBER", Value.number s.sessionCounter)] ++
      (if given != kW then [("ADMITTED_CAPACITY", Value.number given)] else []))

def State.orderAdmit (s : State) (letter : Option OutletId) (profile : Option Nat) (kW : Nat)
    (vessel account : Option Text) : State :=
  s.forOutlet letter fun o s =>
    if 9 < profile.getD 0 ∨ textAllowed 16 vessel = false ∨ textAllowed 12 account = false then s.no 120
    else s.admitTo o profile kW vessel account

/-- ADMIT (R8, R9). -/
def execAdmit (letter : Option OutletId) (profile : Option Nat) (kW : Nat) (vessel account : Option Text)
    (s : State) : Host.Outcome State Fault Refusal :=
  atEvent (fun s => s.orderAdmit letter profile kW vessel account) s

/-! ### END and END FORCE (R18, R19) -/

def State.orderEnd (s : State) (letter : Option OutletId) : State :=
  s.forOutlet letter fun o s =>
    let st := (s.outlet o).state
    if st.within .vacant .announced then s.no 220
    else if st.within .admitted .synchronising ∨ st = .tripped then (s.deEnergise o .ended).ok []
    else if st.within .transferIn .separating then s.no 260
    else if st = .held then s.no 210
    else s.no 200

/-- END (R18). -/
def execEnd (letter : Option OutletId) (s : State) : Host.Outcome State Fault Refusal :=
  atEvent (fun s => s.orderEnd letter) s

def State.orderForce (s : State) (letter : Option OutletId) : State :=
  s.forOutlet letter fun o s =>
    let st := (s.outlet o).state
    if st.within .vacant .announced then s.no 220
    else if st = .held then s.no 210
    else (s.force o).ok []

/-- END FORCE (R19). -/
def execEndForce (letter : Option OutletId) (s : State) : Host.Outcome State Fault Refusal :=
  atEvent (fun s => s.orderForce letter) s

/-! ### RESUME (R17) -/

/-- An accepted RESUME. -/
def State.resumeSession (s : State) (o : OutletId) : State :=
  ((s.ask o .initial (s.admitted o)).welcome o).enter o .admitted

def State.orderResume (s : State) (letter : Option OutletId) : State :=
  s.forOutlet letter fun o s =>
    let st := (s.outlet o).state
    if st.within .vacant .announced then s.no 220
    else if st = .held then s.no 210
    else if st ≠ .tripped then s.no 200
    else if !s.interlocksGood o then s.no 230
    else (s.resumeSession o).ok []

/-- RESUME (R17). -/
def execResume (letter : Option OutletId) (s : State) : Host.Outcome State Fault Refusal :=
  atEvent (fun s => s.orderResume letter) s

/-! ### CAPACITY (R61) -/

/-- A raise of the admitted capacity that the budget allows (R61). The marks are recomputed before the top-up, which
then asks for what the unmarked members are short of (DESIGN CHOICE, log entry 58). -/
def State.raiseCapacity (s : State) (o : OutletId) (kW : Nat) : State :=
  let s := (s.modifySession o fun r => { r with admitted := kW }).recomputeLimit o
  (s.markSurplus o).topUp o

/-- The budget check on a raise (R61). -/
def State.mayRaise (s : State) (o : OutletId) (kW : Nat) : Bool :=
  s.claimsWith o (min kW (s.committed o)) ≤ s.gridLimit

/-- The reply of an accepted CAPACITY. -/
def State.okCapacity (s : State) (o : OutletId) (clamped : Bool) : State :=
  s.okOr clamped [("ADMITTED_CAPACITY", Value.number (s.admitted o)),
    ("CAPACITY_LIMIT", Value.number (s.outlet o).limit)]

/-- CAPACITY in ENERGISING to SEPARATING: the reply carries the limit the event leaves. -/
def State.changeCapacity (s : State) (o : OutletId) (kW : Nat) (clamped : Bool) : State :=
  if kW = s.admitted o then s.okCapacity o clamped
  else if kW < s.admitted o then (s.decrease o kW).reallocate.okCapacity o clamped
  else if s.mayRaise o kW then (s.raiseCapacity o kW).reallocate.okCapacity o clamped
  else s.refuse 200 "NO BUDGET"

def State.orderCapacity (s : State) (letter : Option OutletId) (kW : Nat) : State :=
  s.forOutlet letter fun o s =>
    let st := (s.outlet o).state
    let given := clampCapacity kW
    if st.within .vacant .announced then s.no 220
    else if st = .held then s.no 210
    else if st = .admitted then
      ((s.modifySession o fun r => { r with admitted := given }).ask o .initial given).okCapacity o
        (given != kW)
    else if st.supplied then s.changeCapacity o given (given != kW)
    else s.no 200

/-- CAPACITY (R61). -/
def execCapacity (letter : Option OutletId) (kW : Nat) (s : State) : Host.Outcome State Fault Refusal :=
  atEvent (fun s => s.orderCapacity letter kW) s

/-! ### SHIPBACK (R142) -/

def State.orderShipback (s : State) (letter : Option OutletId) : State :=
  s.forOutlet letter fun o s =>
    let st := (s.outlet o).state
    if st.within .vacant .announced then s.no 220
    else if st = .held then s.no 210
    else if st ≠ .shoreSupply then s.no 200
    else if (s.outlet o).link.up then
      (s.send o .returnDemand).okWord (if (s.outlet o).link.hasRoom then "QUEUED" else "DROPPED")
    else (s.modifyHandover o fun h => { h with returnPending := true }).okWord "PENDING"

/-- SHIPBACK (R142). -/
def execShipback (letter : Option OutletId) (s : State) : Host.Outcome State Fault Refusal :=
  atEvent (fun s => s.orderShipback letter) s

/-! ### GRID (R59, R60) -/

/-- The outlets the grid pressure cut may take, most recent admission first (R60). -/
def State.cutOrder (s : State) : List OutletId :=
  (s.bySession (allOutlets.filter fun o => (s.outlet o).state.supplied)).reverse

/-- One outlet's turn in the cut: as much of the excess as leaves it 1 kW. -/
def State.cutOne (s : State) (o : OutletId) : State :=
  let excess := s.claims - s.gridLimit
  let taken := min excess (s.claim o - 1)
  if taken = 0 then s else s.decrease o (s.claim o - taken)

/-- The grid pressure cut (R60). -/
def State.gridCut (s : State) : State := s.cutOrder.foldl State.cutOne s

/-- The reply lists each outlet that was cut with its new admitted capacity (R60), in the order of the cut (DESIGN
CHOICE, log entry 70). -/
def cutPairs (before after : State) : List (String × Value) :=
  (before.cutOrder.filter fun o => before.admitted o != after.admitted o).map fun o =>
    (o.letter, Value.number (after.admitted o))

def State.orderGrid (s : State) (kW : Nat) : State :=
  let given := min kW 60000
  let s := { s with gridLimit := given }
  let cut := if given < s.claims then s.gridCut else s
  cut.okOr (given != kW) (("GRID_IMPORT_LIMIT", Value.number given) :: cutPairs s cut)

/-- GRID (R59, R60). -/
def execGrid (kW : Nat) (s : State) : Host.Outcome State Fault Refusal :=
  atEvent (fun s => s.orderGrid kW) s

end Sys2Proof.Machine
end

