-- ==== Sys2Proof/Machine/PartOrders.lean ====
section
/-! DEFINITION. The orders to the module pool, the profiles, the clock and tariffs, the billing log, the ship
links and the status unit (chapters 3, 7, 9 to 12). -/

namespace Sys2Proof.Machine

/-! ### Modules (R64, R65) -/

/-- A module number of an order: 1 to 8. -/
def moduleOf (n : Nat) : Option (Fin 8) :=
  if h : 1 ≤ n ∧ n ≤ 8 then some ⟨n - 1, by omega⟩ else none

/-- An order that names a module: a number outside 1 to 8 is refused with 120. -/
def State.forModule (s : State) (n : Nat) (act : Fin 8 → State → State) : State :=
  match moduleOf n with
  | none => s.no 120
  | some m => act m s

/-- The states that keep a group supplied (R64): in PREPARE the members still preparing count. -/
def Outlet.supplyingStates (x : Outlet) : List ModuleState :=
  if x.state = .energising ∧ x.phase = some .prepare then [.precharging, .selfTest, .standby]
  else [.standby, .running]

/-- The removal of a module would leave its group without supply (R64). -/
def State.isLastModule (s : State) (m : Fin 8) : Bool :=
  match (s.module m).group with
  | none => false
  | some o =>
    (s.outlet o).state.supplied &&
      ((s.members o (s.outlet o).supplyingStates).filter (· != m)).isEmpty

/-- The effect of SERVICE by the module's state, its flag Set (R64). -/
def Module.toService (x : Module) : Module :=
  let x := { x with service := true }
  match x.state with
  | .off => { x with state := .outOfService, rest := none }
  | .faulted => { x with state := .outOfService }
  | .outOfService => x
  | .running => x.release
  | .releasing => x
  | _ => x.stop

/-- A module goes into service; a member that leaves the committed rating is a loss (R53, R64). -/
def State.serviceModule (s : State) (m : Fin 8) : State :=
  let t := s.modifyModule m Module.toService
  match (s.module m).group with
  | some o => if (s.module m).state = .releasing then t else t.memberLost o (s.hasMarks o)
  | none => t

def State.orderService (s : State) (n : Nat) : State :=
  s.forModule n fun m s =>
    if s.isLastModule m then s.no 250
    else
      let s := s.serviceModule m
      s.ok [("STATE", Value.name (s.module m).state.name)]

/-- MODULE SERVICE (R64). -/
def execModuleService (n : Nat) (s : State) : Host.Outcome State Fault Refusal :=
  atEvent (fun s => s.orderService n) s

def State.orderReturn (s : State) (n : Nat) : State :=
  s.forModule n fun m s =>
    let x := s.module m
    if x.state = .outOfService ∨ x.state = .faulted then
      (s.modifyModule m fun x => { x with state := .off, rest := some restTime, service := false }).ok []
    else if x.state = .releasing ∧ x.service then
      (s.modifyModule m fun x => { x with service := false }).ok []
    else s.no 200

/-- MODULE RETURN (R65). -/
def execModuleReturn (n : Nat) (s : State) : Host.Outcome State Fault Refusal :=
  atEvent (fun s => s.orderReturn n) s

/-- R65. That the reply carries the expected signature and the rating, clamped or not, is the model's (DESIGN CHOICE,
log entry 62). -/
def State.orderSignature (s : State) (n sig rating : Nat) : State :=
  s.forModule n fun m s =>
    if Config.max32 < sig then s.no 120
    else if (s.module m).state.isMember then s.no 200
    else
      let given := clampNat 500 4000 rating
      (s.modifyModule m fun x => { x with signature := sig, rating := given }).okOr (given != rating)
        [("EXPECTED_SIGNATURE", Value.number sig), ("RATING", Value.number given)]

/-- SIGNATURE (R65). -/
def execSignature (n sig rating : Nat) (s : State) : Host.Outcome State Fault Refusal :=
  atEvent (fun s => s.orderSignature n sig rating) s

/-! ### Profiles (R189, R190) -/

/-- An order that names a profile: a number outside 0 to 9 is refused with 120. -/
def State.forProfile (s : State) (n : Nat) (act : Fin 10 → State → State) : State :=
  if h : n < 10 then act ⟨n, h⟩ s else s.no 120

def State.setProfile (s : State) (n : Fin 10) (p : Profile) : State :=
  { s with profiles := s.profiles.set n.val p }

/-- The pairs of a profile (section 11.5). -/
def Profile.pairs (p : Profile) : List (String × Value) :=
  ProfileField.all.map fun f => (f.keyword, Value.number (p.get f))

/-- The reply of PROFILE n ? and of PROFILE n DEFAULT. -/
def State.okProfile (s : State) (n : Fin 10) : State :=
  s.ok (("PROFILE_NUMBER", Value.number n.val) :: (s.profile n).pairs)

def State.orderProfileSet (s : State) (n : Nat) (field : Option ProfileField) (value : Nat) : State :=
  match field with
  | none => s.no 120
  | some f =>
    s.forProfile n fun n s =>
      let p := s.profile n
      let given := clampNat (p.range f).1 (p.range f).2 value
      (s.setProfile n (p.set f given)).okOr (given != value)
        [("PROFILE_NUMBER", Value.number n.val), (f.keyword, Value.number given)]

/-- PROFILE SET (R189). -/
def execProfileSet (n : Nat) (field : Option ProfileField) (value : Nat) (s : State) :
    Host.Outcome State Fault Refusal :=
  atEvent (fun s => s.orderProfileSet n field value) s

def State.orderProfileDefault (s : State) (n : Nat) : State :=
  s.forProfile n fun n s => (s.setProfile n Profile.default).okProfile n

/-- PROFILE DEFAULT (R190). -/
def execProfileDefault (n : Nat) (s : State) : Host.Outcome State Fault Refusal :=
  atEvent (fun s => s.orderProfileDefault n) s

def State.orderProfileQuery (s : State) (n : Nat) : State := s.forProfile n fun n s => s.okProfile n

/-- PROFILE ? (R190). -/
def execProfileQuery (n : Nat) (s : State) : Host.Outcome State Fault Refusal :=
  atEvent (fun s => s.orderProfileQuery n) s

/-! ### The clock (R154) -/

/-- TIME with a reading that exists: the clock is set, open intervals are closed with TIME_SET, a ready tariff
becomes active, and the closed intervals are replaced. -/
def State.setClock (s : State) (c : Clock) : State :=
  let os := s.openIntervalOutlets
  let s := os.foldl (·.closeInterval [.timeSet]) { s with clock := some c }
  os.foldl State.openInterval s.switchTariff

def State.orderTime (s : State) (year month day hour minute second : Nat) : State :=
  let c := { year := year, month := month, day := day, hour := hour, minute := minute, second := second,
             tenth := 0 : Clock }
  if c.isReading then (s.setClock c).ok [("READING", Value.reading c)] else s.no 120

/-- TIME (R154). -/
def execTime (year month day hour minute second : Nat) (s : State) : Host.Outcome State Fault Refusal :=
  atEvent (fun s => s.orderTime year month day hour minute second) s

/-! ### Tariffs (R164 to R166) -/

/-- A mark or flag as a reply writes it: SET or CLEARED, a form R188 does not give (DESIGN CHOICE, log entry 78). -/
def markName (b : Bool) : String := if b then "SET" else "CLEARED"

/-- The pairs of a tariff table (R164), named by band (DESIGN CHOICE, log entry 85). -/
def Tariff.pairs (t : Tariff) : List (String × Value) :=
  [("BAND_0_PRICE", Value.number t.prices.b0), ("BAND_1_PRICE", Value.number t.prices.b1),
   ("BAND_2_PRICE", Value.number t.prices.b2), ("BAND_3_PRICE", Value.number t.prices.b3)] ++
  ([1, 2, 3].flatMap fun b =>
    [("BAND_" ++ decimal b ++ "_START", Value.number (t.window b).start),
     ("BAND_" ++ decimal b ++ "_END", Value.number (t.window b).stop),
     ("BAND_" ++ decimal b ++ "_ENABLED", Value.name (markName (t.window b).enabled))]) ++
  [("DEMAND_PRICE", Value.number t.demandPrice), ("INTERVAL_LENGTH", Value.number t.length)]

/-- An accepted edit and its reply, which carries the pending table (R165). -/
def State.editTariff (s : State) (t : Tariff) (clamped : Bool) : State :=
  (s.setPending t).okOr clamped t.pairs

/-- The largest price and the last minute of a table (R164). -/
def highestPrice : Nat := 99999

def lastMinute : Nat := 1439

/-- The window argument of TARIFF BAND on a band's window (R165). -/
def applyWindow (w : WindowArg) (old : BandWindow) : BandWindow :=
  match w with
  | .keep => old
  | .minutes a b => { start := min lastMinute a, stop := min lastMinute b, enabled := true }
  | .off => { old with enabled := false }

/-- A window argument has a minute that is clamped. -/
def windowIsClamped : WindowArg → Bool
  | .minutes a b => lastMinute < a || lastMinute < b
  | _ => false

/-- The bands TARIFF BAND takes: 0 to 3, and 1 to 3 with a window argument (R165). -/
def bandAllowed (b : Nat) : WindowArg → Bool
  | .keep => b ≤ 3
  | _ => 1 ≤ b && b ≤ 3

/-- A table with a band's price replaced and its window argument applied; band 0 has no window. -/
def Tariff.editBand (t : Tariff) (b price : Nat) (w : WindowArg) : Tariff :=
  let t := { t with prices := t.prices.set b price }
  match w with
  | .keep => t
  | w => t.setWindow b (applyWindow w (t.window b))

def State.orderTariffBand (s : State) (b price : Nat) (w : WindowArg) : State :=
  if bandAllowed b w then
    s.editTariff (s.editedTariff.editBand b (min highestPrice price) w)
      (highestPrice < price || windowIsClamped w)
  else s.no 120

/-- TARIFF BAND (R165). -/
def execTariffBand (b price : Nat) (w : WindowArg) (s : State) : Host.Outcome State Fault Refusal :=
  atEvent (fun s => s.orderTariffBand b price w) s

def State.orderTariffDemand (s : State) (price : Nat) : State :=
  s.editTariff { s.editedTariff with demandPrice := min highestPrice price } (highestPrice < price)

/-- TARIFF DEMAND (R165). -/
def execTariffDemand (price : Nat) (s : State) : Host.Outcome State Fault Refusal :=
  atEvent (fun s => s.orderTariffDemand price) s

def State.orderTariffInterval (s : State) (minutes : Nat) : State :=
  if [5, 10, 15, 30, 60].contains minutes then s.editTariff { s.editedTariff with length := minutes } false
  else s.no 120

/-- TARIFF INTERVAL (R165). -/
def execTariffInterval (minutes : Nat) (s : State) : Host.Outcome State Fault Refusal :=
  atEvent (fun s => s.orderTariffInterval minutes) s

def State.orderTariffSchedule (s : State) : State :=
  match s.pendingTariff with
  | none => s.no 270
  | some p => ({ s with pendingTariff := some { p with ready := true } }).ok []

/-- TARIFF SCHEDULE (R166). -/
def execTariffSchedule (s : State) : Host.Outcome State Fault Refusal := atEvent State.orderTariffSchedule s

def State.orderTariffDiscard (s : State) : State :=
  match s.pendingTariff with
  | none => s.okWord "NONE"
  | some _ => ({ s with pendingTariff := none }).ok []

/-- TARIFF DISCARD (R166). -/
def execTariffDiscard (s : State) : Host.Outcome State Fault Refusal := atEvent State.orderTariffDiscard s

/-! ### The billing log (R175 to R178, R181) -/

def isSequence (n : Nat) : Bool := 1 ≤ n && n ≤ Config.max32

/-- LOG WINDOW with both arguments in range (R176). -/
def State.setWindow (s : State) (first last : Nat) : State :=
  match s.log.oldest, s.log.newest with
  | some a, some b =>
    let lo := max first a
    let hi := min last b
    if hi < lo then s.no 120
    else
      ({ s with log := { s.log with window := some { first := lo, last := hi, pointer := lo } } }).okOr
        (lo != first || hi != last) [("FIRST", Value.number lo), ("LAST", Value.number hi)]
  | _, _ => s.no 270

def State.orderLogWindow (s : State) (first last : Nat) : State :=
  if isSequence first && isSequence last then s.setWindow first last else s.no 120

/-- LOG WINDOW (R176). -/
def execLogWindow (first last : Nat) (s : State) : Host.Outcome State Fault Refusal :=
  atEvent (fun s => s.orderLogWindow first last) s

def State.orderLogRead (s : State) : State :=
  match s.log.window with
  | none => s.refuse 270 "NO WINDOW"
  | some w =>
    if w.last < w.pointer then s.okWord "END"
    else
      match s.log.records.find? (·.sequence == w.pointer) with
      | none => s.no 270
      | some r =>
        ({ s with log := { s.log with window := some { w with pointer := w.pointer + 1 } } }).answer
          (.record r)

/-- LOG READ (R177). -/
def execLogRead (s : State) : Host.Outcome State Fault Refusal := atEvent State.orderLogRead s

/-- An optional number of a reply. -/
def Value.ofNat? : Option Nat → Value
  | Option.none => .none
  | some n => .number n

/-- An accepted LOG RELEASE: the release, the conditions of R175, then the placing of held outlets. -/
def State.releaseLog (s : State) (seq : Nat) : State :=
  let freed := (s.releaseRecords seq).reportAll
  let placed := freed.placeHeld
  placed.ok [("RECORDS_REMOVED", Value.number (s.log.records.filter (·.sequence ≤ seq)).length),
    ("OLDEST_SEQUENCE", Value.ofNat? placed.log.oldest),
    ("PLACED", Value.numbers ((placedNumbers freed placed).map Int.ofNat))]

def State.orderLogRelease (s : State) (seq : Nat) : State :=
  if !isSequence seq then s.no 120
  else
    match s.log.oldest, s.log.newest with
    | some a, some b => if seq < a ∨ b < seq then s.no 270 else s.releaseLog seq
    | _, _ => s.no 270

/-- LOG RELEASE (R178). -/
def execLogRelease (seq : Nat) (s : State) : Host.Outcome State Fault Refusal :=
  atEvent (fun s => s.orderLogRelease seq) s

def State.orderLogThreshold (s : State) (n : Nat) : State :=
  let given := clampNat 1 2047 n
  ({ s with log := { s.log with threshold := given } }).okOr (given != n)
    [("ALMOST_FULL_THRESHOLD", Value.number given)]

/-- LOG THRESHOLD (R175). -/
def execLogThreshold (n : Nat) (s : State) : Host.Outcome State Fault Refusal :=
  atEvent (fun s => s.orderLogThreshold n) s

/-- CLOSED RELEASE with a record to remove (R181). -/
def State.releaseClosed (s : State) (r : Session) : State :=
  let freed := ({ s with log := { s.log with closed := s.log.closed.drop 1 } }).reportAll
  let placed := freed.placeHeld
  placed.ok [("SESSION_NUMBER", Value.number r.number),
    ("PLACED", Value.numbers ((placedNumbers freed placed).map Int.ofNat))]

def State.orderClosedRelease (s : State) : State :=
  match s.log.closed with
  | [] => s.no 270
  | r :: _ => s.releaseClosed r

/-- CLOSED RELEASE (R181). -/
def execClosedRelease (s : State) : Host.Outcome State Fault Refusal := atEvent State.orderClosedRelease s

/-! ### The ship links (R128, R129) -/

/-- A frame stopped in transmission waits again; a SHORE_STATUS is filled anew (R126, R129). -/
def ShipLink.stopSending (l : ShipLink) : ShipLink :=
  match l.sending, l.queue with
  | true, .shoreStatus _ :: rest => { l with queue := .shoreStatus none :: rest, sending := false }
  | _, _ => { l with sending := false }

/-- The start of a LINKTEST (R129), whose first start bit falls at this event (log entry 89); the reply waits for the
result (R184). -/
def State.startTest (s : State) (o : OutletId) : State :=
  let s := s.modifyLink o fun l => { l.stopSending with assembling := none, gapTimer := none, testAge := some 0 }
  { s with terminal := { s.terminal with reply := none, awaiting := some o } }

def State.orderLinkTest (s : State) (letter : Option OutletId) : State :=
  s.forOutlet letter fun o s =>
    let st := (s.outlet o).state
    if st.within .vacant .announced then s.startTest o
    else if st = .held then s.no 210
    else s.no 200

/-- LINKTEST (R129). -/
def execLinkTest (letter : Option OutletId) (s : State) : Host.Outcome State Fault Refusal :=
  atEvent (fun s => s.orderLinkTest letter) s

/-- The result of a test from the characters that have returned and those sent (R129). A byte that differs and has a
framing error too is answered FRAMING (DESIGN CHOICE, log entry 60). -/
def judgeTest : List Received → List Byte → TestResult
  | _, [] => .pass
  | [], _ :: _ => .noEcho
  | r :: rs, b :: bs =>
    if r.framingError then .framing else if r.byte = b then judgeTest rs bs else .mismatch

/-- How many of the characters that have returned decide a test: those up to the first bad one, or all. -/
def decidingCharacters : List Received → List Byte → Nat
  | r :: rs, b :: bs => if r.framingError ∨ r.byte ≠ b then 1 else decidingCharacters rs bs + 1
  | _, _ => 0

/-- One character time of a ship link: ten bits of 250 ticks (section 7.1). -/
def characterTime : Nat := 2500

/-- From the start edge of a character to the sample of its stop bit, which completes it (R116). -/
def stopSample : Nat := 2375

/-- The bound of a test (R129). -/
def testLimit : Nat := ms 50

/-- The ticks from the first start bit to the earliest instant of a result: NO_ECHO falls at the bound, any other result
at the stop bit of the character that decides it, the test frame's characters following one another without idle time
(R116, R129; log entry 89). -/
def testTime (returned : List Received) : Nat :=
  match judgeTest returned testFrame with
  | .noEcho => testLimit
  | _ => characterTime * (decidingCharacters returned testFrame - 1) + stopSample

/-- The result of a test of an age: NO_ECHO past the bound, when fewer than 64 bytes had returned at 50 ms (R129; log
entry 89). -/
def testResult (age : Nat) (returned : List Received) : TestResult :=
  if testLimit < age then .noEcho else judgeTest returned testFrame

/-- The word of a result's reply. -/
def TestResult.reply : TestResult → String
  | .pass => "PASS"
  | r => "FAIL " ++ r.name

/-- The end of a LINKTEST: the receiver rejoins the line in HUNTING, and transmission resumes (R129). -/
def State.endTest (s : State) (o : OutletId) (result : TestResult) : State :=
  let s := (s.modifyLink o fun l =>
    { l with testAge := none, lastTest := some result, assembling := none, gapTimer := none }).startSending o
  if s.terminal.awaiting = some o then
    ({ s with terminal := { s.terminal with awaiting := none } }).okWord result.reply
  else s

/-- The result of a test of an age (R129): the time to its instant passes, and the test ends. -/
def State.resolveTest (s : State) (o : OutletId) (returned : List Received) (age : Nat) : State :=
  (s.elapse (testTime returned - age)).endTest o (testResult age returned)

/-- LINKTEST_RESULT (R129): nothing where no test runs (log entry 40). -/
def execLinkTestResult (o : OutletId) (returned : List Received) (s : State) :
    Host.Outcome State Fault Refusal :=
  if returned.length ≤ 64 then
    atEvent (fun s =>
      match (s.outlet o).link.testAge with
      | none => s
      | some age => s.resolveTest o returned age) s
  else .fault .notAnEvent

def State.orderLinkClear (s : State) (letter : Option OutletId) : State :=
  s.forOutlet letter fun o s =>
    (s.modifyLink o fun l =>
      { l with counts := LinkCounts.zero, overrun := false, lastRefusal := none }).ok []

/-- LINK CLEAR (R128). -/
def execLinkClear (letter : Option OutletId) (s : State) : Host.Outcome State Fault Refusal :=
  atEvent (fun s => s.orderLinkClear letter) s

/-! ### The status unit (R195 to R197) -/

/-- The filter table with one entry replaced. -/
def StatusUnit.setFilter (u : StatusUnit) (x : Item) (f : Filter) : StatusUnit :=
  { u with filters := Item.all.filterMap fun y =>
      if y = x then some (y, f) else u.filters.find? (·.1 == y) }

/-- The reply's pair FILTER is named by the model (DEDUCED, log entry 90). -/
def State.orderFilter (s : State) (name : Option Item) (f : Filter) : State :=
  match name with
  | none => s.no 120
  | some x =>
    if x.isCondition then
      ({ s with status := s.status.setFilter x f }).ok [("FILTER", Value.name f.name)]
    else s.no 120

/-- FILTER (R196). -/
def execFilter (name : Option Item) (f : Filter) (s : State) : Host.Outcome State Fault Refusal :=
  atEvent (fun s => s.orderFilter name f) s

/-- A set of names, in table order, once each. -/
def inTableOrder (table : List Item) (names : List (Option Item)) : List Item :=
  table.filter fun x => names.contains (some x)

/-- A set of names as a reply writes it (R188). -/
def Value.ofItems (names : List Item) : Value := .names (names.map Item.name)

/-- The reply's pair ENABLE_MASK is named by the model, after the field that R194 calls the enable mask (DEDUCED, log entry
90). -/
def State.orderEnable (s : State) (group : Option Group) (names : List (Option Item)) : State :=
  match group with
  | none => s.no 120
  | some g =>
    if names.all fun x => (g.items.map some).contains x then
      let mask := inTableOrder g.items names
      ({ s with status := s.status.set g { s.status.get g with enabled := mask } }).ok
        [("ENABLE_MASK", Value.ofItems mask)]
    else s.no 120

/-- ENABLE (R196). -/
def execEnable (group : Option Group) (names : List (Option Item)) (s : State) :
    Host.Outcome State Fault Refusal :=
  atEvent (fun s => s.orderEnable group names) s

/-- A set of groups as a reply writes it. -/
def Value.ofGroups (groups : List Group) : Value := .names (groups.map Group.name)

/-- The reply's pair ATTN_MASK bears the name that R195 gives it in STATUS? (DEDUCED, log entry 90). -/
def State.orderAttn (s : State) (groups : List (Option Group)) : State :=
  if groups.all Option.isSome then
    let mask := allGroups.filter fun g => groups.contains (some g)
    ({ s with status := { s.status with attention := mask } }).ok [("ATTN_MASK", Value.ofGroups mask)]
  else s.no 120

/-- ATTN (R196). -/
def execAttn (groups : List (Option Group)) (s : State) : Host.Outcome State Fault Refusal :=
  atEvent (fun s => s.orderAttn groups) s

/-- R197. That the text is written without quotes is the model's (DESIGN CHOICE, log entry 67). -/
def State.orderErrQuery (s : State) : State :=
  match s.status.errors with
  | [] => s.ok [("CODE", Value.none)]
  | e :: rest =>
    ({ s with status := { s.status with errors := rest } }).ok
      [("CODE", Value.number e.1), ("TEXT", Value.name e.2)]

/-- ERR? (R197). -/
def execErrQuery (s : State) : Host.Outcome State Fault Refusal := atEvent State.orderErrQuery s

/-- Every latch of a group Cleared and every count 0. -/
def GroupStatus.clear (g : GroupStatus) : GroupStatus := { g with counts := [] }

/-- CLS Clears the latches, then empties the error queue; ERROR_QUEUED follows as the event ends (log entry 29). -/
def State.orderCls (s : State) : State :=
  let u := s.status
  let s := { s with status := { u with
    part := u.part.clear
    groups := { a := u.groups.a.clear, b := u.groups.b.clear, c := u.groups.c.clear }
    errors := [] } }
  s.ok []

/-- CLS (R195). -/
def execCls (s : State) : Host.Outcome State Fault Refusal := atEvent State.orderCls s

/-- The pairs of EVENTS? (R195). -/
def State.eventPairs (s : State) (g : Group) : List (String × Value) :=
  let st := s.status.get g
  [("GROUP", Value.name g.name), ("EVENTS", Value.ofItems (st.counts.map (·.1)))] ++
    (match g with
      | .part => []
      | .outlet _ => [("LAST_STATE", Value.ofNat? st.lastState)]) ++
    st.counts.map fun p => (p.1.name, Value.number p.2)

def State.orderEvents (s : State) (group : Option Group) : State :=
  match group with
  | none => s.no 120
  | some g =>
    let pairs := s.eventPairs g
    ({ s with status := s.status.set g (s.status.get g).clear }).ok pairs

/-- EVENTS? (R195). -/
def execEventsQuery (group : Option Group) (s : State) : Host.Outcome State Fault Refusal :=
  atEvent (fun s => s.orderEvents group) s

end Sys2Proof.Machine
end

