-- ==== Sys2Proof/Machine/Queries.lean ====
section
/-! DEFINITION. The query orders: the pairs each replies with, in the order of its rule (R27, R83, R92, R114,
R128, R151, R153, R158, R164, R169, R179, R181, R195). The names of the pairs follow R188 (log entries 22 and 85). -/

namespace Sys2Proof.Machine

/-! ### Forms of values -/

def Value.ofClock? : Option Clock → Value
  | Option.none => .none
  | some c => .reading c

def Value.ofName? : Option String → Value
  | Option.none => .none
  | some s => .name s

def Value.ofText? : Option Text → Value
  | Option.none => .none
  | some t => .text t

def Value.ofInt? : Option Int → Value
  | Option.none => .none
  | some n => .number n

/-- The time left on a timer in whole ms, rounded down, or NONE when it is stopped. -/
def Value.ofMs (t : Timer) : Value := Value.ofNat? (t.map (· / Config.ticksPerMs))

/-- The time left on a timer in whole seconds, rounded down, or NONE when it is stopped (R114). -/
def Value.ofSeconds (t : Timer) : Value := Value.ofNat? (t.map (· / Config.ticksPerSecond))

def Value.ofBands (b : Bands) : Value := .numbers [(b.b0 : Int), b.b1, b.b2, b.b3]

def Value.ofFlags (l : List IntervalFlag) : Value := .names (l.map IntervalFlag.name)

def Value.ofMark (b : Bool) : Value := .name (markName b)

def madeName (b : Bool) : String := if b then "MADE" else "LOST"

def feedbackName (b : Bool) : String := if b then "CLOSED" else "OPEN"

/-- A level of x_WINDOW as a reply writes it (R114), a form R188 does not give (DESIGN CHOICE, log entry 78). -/
def levelName (b : Bool) : String := if b then "ASSERTED" else "DE_ASSERTED"

/-- A validity, with its hold count when HELD (R92); the written form HELD,n is the model's (DESIGN CHOICE, log entry
68). -/
def Value.ofValidity : Validity → Value
  | .valid => .name "VALID"
  | .held n => .list ["HELD", decimal n]
  | .invalid => .name "INVALID"

/-! ### TIME? (R153) -/

/-- The reading of the next interval boundary after a reading (R153, R161). -/
def Tariff.nextBoundary (t : Tariff) (c : Clock) : Clock :=
  let m := (c.minuteOfDay / t.length + 1) * t.length
  let c := { c with second := 0, tenth := 0 }
  if m < 1440 then { c with hour := m / 60, minute := m % 60 } else { c with hour := 0, minute := 0 }.nextDay

/-- The reply to TIME? (R153). With the clock unset it is the bare word UNSET after OK (DESIGN CHOICE, log entry
75). -/
def State.orderTimeQuery (s : State) : State :=
  match s.clock with
  | none => s.okWord "UNSET"
  | some c =>
    s.ok [("READING", Value.reading c), ("MINUTE_OF_DAY", Value.number c.minuteOfDay),
      ("BAND", Value.number (s.tariff.band s.clock)),
      ("NEXT_BOUNDARY", Value.reading (s.tariff.nextBoundary c))]

/-- TIME? (R153). -/
def execTimeQuery (s : State) : Host.Outcome State Fault Refusal := atEvent State.orderTimeQuery s

/-! ### GRID? (R59, R92) -/

def State.orderGridQuery (s : State) : State :=
  let r := s.grid.channel.record
  s.ok [("GRID_IMPORT_LIMIT", Value.number s.gridLimit), ("SUM_OF_CLAIMS", Value.number s.claims),
    ("SUM_OF_CAPACITY_LIMITS", Value.number s.limits), ("GRID_IMPORT_POWER", Value.number s.grid.importPower),
    ("VALIDITY", Value.ofValidity r.validity), ("FREQUENCY", Value.number r.frequency),
    ("RMS", Value.number r.rms)]

/-- GRID? (R59, R92). -/
def execGridQuery (s : State) : Host.Outcome State Fault Refusal := atEvent State.orderGridQuery s

/-! ### OUTLET? (R27) -/

/-- The session an outlet reports: open or held. -/
def Outlet.reported (x : Outlet) : Option Session :=
  match x.session, x.held with
  | some r, _ => some r
  | none, some h => some h.session
  | none, none => none

def State.statePairs (s : State) (o : OutletId) : List (String × Value) :=
  let x := s.outlet o
  let i := x.interlocks
  [("STATE", Value.number x.state.code), ("PHASE", Value.ofName? (x.phase.map EnergisePhase.name)),
   ("LAST_TRIP_CAUSE", Value.ofName? ((x.reported.bind (·.lastTrip)).map TripCause.name)),
   ("PLUG", Value.name (madeName i.plug)), ("PILOT", Value.name (madeName i.pilot)),
   ("EARTH", Value.name (madeName i.earth)), ("ESTOP", Value.name (madeName i.estop)),
   ("ESTOP_ALL", Value.name (madeName s.estopAllMade)),
   ("SB_FEEDBACK", Value.name (feedbackName x.sb.feedback)),
   ("PB_FEEDBACK", Value.name (feedbackName x.pb.feedback)),
   ("SB_CHANNEL", Value.name x.sb.channel.name), ("PB_CHANNEL", Value.name x.pb.channel.name),
   ("MODE", Value.name x.reference.mode.name),
   ("PENDING_MODE", Value.ofName? (x.reference.pending.map Mode.name)),
   ("CAPACITY_LIMIT", Value.number x.limit)]

/-- The outlet's request, each pair NONE when it has none (R27, R54). That PLACE counts the head of the queue as 1 is
the model's (DESIGN CHOICE, log entry 61). -/
def State.requestPairs (s : State) (o : OutletId) : List (String × Value) :=
  let r := s.request o
  let place := (s.grants.findIdx? (·.outlet == o)).map (· + 1)
  [("REQUEST_KIND", Value.ofName? (r.map fun r => r.kind.name)),
   ("WANTED", Value.ofNat? (r.map (·.wanted))), ("PLACE", Value.ofNat? place),
   ("WAIT_REMAINING", Value.ofSeconds (r.map (·.wait)))]

/-- The synchronising check (R114). -/
def State.checkPairs (s : State) (o : OutletId) : List (String × Value) :=
  let c := (s.outlet o).check
  [("CHECK_STATE", Value.name c.state.name), ("ATTEMPT_COUNT", Value.number c.attempts),
   ("SYNC_TIMER", Value.ofSeconds c.syncTimer), ("NOTED_SYNC_EXPIRY", Value.ofMark c.notedExpiry),
   ("NOTED_EXIT", Value.ofName? (c.notedExit.map SyncOutcome.name)),
   ("REFUSED_REQUESTS", Value.number c.refusedRequests),
   ("LAST_RESULT", Value.ofName? (c.result.map CheckResult.name)),
   ("WINDOW_ASKED", Value.name (levelName c.windowAsked)),
   ("WINDOW_DRIVEN", Value.name (levelName (s.window o))),
   ("LAST_OUTCOME", Value.ofName? (c.outcome.map SyncOutcome.name))]

/-- The handover record (R151). Each pair of an absent ship status is NONE (DESIGN CHOICE, log entry 71). -/
def Handover.pairs (h : Handover) : List (String × Value) :=
  let st := h.shipStatus
  [("GENERATORS_ONLINE", Value.ofNat? (st.map (·.generators))),
   ("SHIP_BUS_LOAD", Value.ofNat? (st.map (·.busLoad))),
   ("GENERATOR_LOAD", Value.ofNat? (st.map (·.generatorLoad))),
   ("READY_PARALLEL", Value.ofName? (st.map fun r => markName r.ready)),
   ("DROOP", Value.ofName? (st.map fun r => markName r.droop)),
   ("PANEL_CLOSED", Value.ofName? (st.map fun r => markName r.panelClosed)),
   ("AGE", Value.ofMs (st.map (·.age))), ("PARALLEL_TIMER", Value.ofMs h.parallelTimer),
   ("OVERLOAD_TIMER", Value.ofMs h.overloadTimer), ("ABORTING_MARK", Value.ofMark h.aborting),
   ("TRANSFER_DONE", Value.ofMark h.transferDone), ("RETURN_ACCEPTED", Value.ofMark h.returnAccepted),
   ("RETURN_DEMAND_PENDING", Value.ofMark h.returnPending),
   ("LAST_SEPARATION_CAUSE", Value.ofName? (h.lastSeparation.map SeparationCause.name))]

/-- The meter totals and the held power (R158). -/
def Meter.pairs (m : Meter) : List (String × Value) :=
  [("IMPORT_METER_TOTAL", Value.number m.importTotal), ("EXPORT_METER_TOTAL", Value.number m.exportTotal),
   ("RELEASED_IMPORT_TOTAL", Value.number m.releasedImport),
   ("RELEASED_EXPORT_TOTAL", Value.number m.releasedExport), ("HELD_POWER", Value.ofInt? m.heldPower),
   ("HOLD_COUNT", Value.number m.holdCount)]

def State.orderOutletQuery (s : State) (letter : Option OutletId) : State :=
  s.forOutlet letter fun o s =>
    s.ok (s.statePairs o ++ s.requestPairs o ++ s.checkPairs o ++ (s.outlet o).handover.pairs ++
      (s.outlet o).meter.pairs)

/-- OUTLET? (R27). -/
def execOutletQuery (letter : Option OutletId) (s : State) : Host.Outcome State Fault Refusal :=
  atEvent (fun s => s.orderOutletQuery letter) s

/-! ### SESSION? and CLOSED READ (R27, R169, R181) -/

/-- Every field of a session record, in the order of the table of section 1.3. -/
def Session.pairs (r : Session) : List (String × Value) :=
  [("SESSION_NUMBER", Value.number r.number), ("OUTLET", Value.name r.outlet.letter),
   ("VESSEL_CODE", Value.ofText? r.vessel), ("ACCOUNT", Value.ofText? r.account),
   ("PROFILE_NUMBER", Value.number r.profileNumber)] ++ r.snapshot.pairs ++
  [("ADMITTED_CAPACITY", Value.number r.admitted), ("START_TIME", Value.ofClock? r.startTime),
   ("END_TIME", Value.ofClock? r.endTime), ("END_CAUSE", Value.ofName? (r.endCause.map EndCause.name)),
   ("IMPORT_WH_PER_BAND", Value.ofBands r.importWh), ("EXPORT_WH", Value.number r.exportWh),
   ("MERGED_WH_PER_BAND", Value.ofBands r.merged.importWh), ("MERGED_COUNT", Value.number r.merged.count),
   ("CHARGE_ACCUMULATORS", Value.ofBands r.charge), ("PEAK_DEMAND", Value.number r.peak),
   ("PEAK_INTERVAL_START", Value.ofClock? r.peakStart), ("QUALITY_SUMMARY", Value.ofFlags r.quality),
   ("CLOSE_ATTEMPTS", Value.number r.closeAttempts), ("TRIP_COUNT", Value.number r.tripCount),
   ("LAST_TRIP_CAUSE", Value.ofName? (r.lastTrip.map TripCause.name)),
   ("TOTAL_CHARGE", Value.ofNat? r.totalCharge)]

/-- The current interval of an open session (R169), or the one pair CURRENT_INTERVAL=NONE that R27 states. That the
interval's pairs repeat names of the record's is the model's (DESIGN CHOICE, log entry 85). -/
def Outlet.intervalPairs (x : Outlet) : List (String × Value) :=
  if x.session.isNone then []
  else
    match x.interval with
    | none => [("CURRENT_INTERVAL", Value.none)]
    | some i =>
      [("START", Value.ofClock? i.start), ("LENGTH", Value.number i.length),
       ("TICK_COUNT", Value.number i.ticks), ("IMPORT_WH_PER_BAND", Value.ofBands i.importWh),
       ("EXPORT_WH", Value.number i.exportWh), ("FLAGS", Value.ofFlags i.flags)]

def State.orderSessionQuery (s : State) (letter : Option OutletId) : State :=
  s.forOutlet letter fun o s =>
    match (s.outlet o).reported with
    | none => s.no 220
    | some r =>
      s.ok (r.pairs ++ [("CAPACITY_LIMIT", Value.number (s.outlet o).limit)] ++ (s.outlet o).intervalPairs)

/-- SESSION? (R27, R169). -/
def execSessionQuery (letter : Option OutletId) (s : State) : Host.Outcome State Fault Refusal :=
  atEvent (fun s => s.orderSessionQuery letter) s

def State.orderClosedRead (s : State) : State :=
  match s.log.closed with
  | [] => s.no 270
  | r :: _ => s.ok r.pairs

/-- CLOSED READ (R181). -/
def execClosedRead (s : State) : Host.Outcome State Fault Refusal := atEvent State.orderClosedRead s

/-! ### MEAS? (R83, R92, R114) -/

def Reference.pairs (r : Reference) : List (String × Value) :=
  [("MODE", Value.name r.mode.name), ("PENDING_MODE", Value.ofName? (r.pending.map Mode.name)),
   ("SET_FREQUENCY", Value.number r.setFreq),
   ("REALISED_FREQUENCY", Value.number (realisedFrequency r.word)),
   ("FREQUENCY_TARGET", Value.number r.freqTarget), ("SET_VOLTAGE", Value.number r.setVolt),
   ("VOLTAGE_TARGET", Value.number r.voltTarget), ("POWER_SETPOINT", Value.number r.setpoint),
   ("RAMP_DIRECTION", Value.name (if r.rising then "RISING" else "FALLING")),
   ("POWER_TRIM", Value.number r.trim), ("PHASE_ANGLE", Value.number (phaseAngle r.accumulator))]

/-- The age of a record in ms (R91). -/
def CycleRecord.age (r : CycleRecord) (now : Timestamp) : Option Nat :=
  r.valueTime.map fun t => (now - t).toNat / Config.ticksPerMs

/-- A cycle record (R92), its channel before each name (DESIGN CHOICE, log entry 85). -/
def CycleRecord.pairs (channel : String) (now : Timestamp) (r : CycleRecord) : List (String × Value) :=
  [(channel ++ "_FREQUENCY", Value.number r.frequency), (channel ++ "_PERIOD", Value.number r.period),
   (channel ++ "_RMS", Value.number r.rms),
   (channel ++ "_CROSSING_TIMESTAMP", Value.ofNat? (r.crossing.map BitVec.toNat)),
   (channel ++ "_VALIDITY", Value.ofValidity r.validity), (channel ++ "_AGE", Value.ofNat? (r.age now))]

/-- A power record (R92); the name POWER_VALIDITY is the model's (DESIGN CHOICE, log entry 85). -/
def PowerRecord.pairs (p : PowerRecord) : List (String × Value) :=
  [("P", Value.number p.p), ("Q", Value.number p.q), ("POWER_VALIDITY", Value.ofValidity p.validity)]

/-- The last figures (R114). Absent figures are written as the seven pairs, each NONE (DESIGN CHOICE, log entry 73). -/
def figurePairs (f : Option Figures) : List (String × Value) :=
  [("SLIP", Value.ofInt? (f.map (·.slip))), ("THETA", Value.ofInt? (f.map (·.theta))),
   ("ALPHA", Value.ofInt? (f.map (·.alpha))), ("DELTA", Value.ofInt? (f.map (·.delta))),
   ("PHI", Value.ofInt? (f.map (·.phi))), ("DV", Value.ofInt? (f.map (·.dV))),
   ("SHIP_CROSSING", Value.ofNat? (f.map (·.time.toNat)))]

def State.orderMeasQuery (s : State) (letter : Option OutletId) : State :=
  s.forOutlet letter fun o s =>
    let x := s.outlet o
    s.ok (x.reference.pairs ++ x.cable.record.pairs "CABLE" s.timestamp ++
      x.ship.record.pairs "SHIP" s.timestamp ++ x.power.pairs ++ figurePairs x.check.figures)

/-- MEAS? (R83, R92, R114). -/
def execMeasQuery (letter : Option OutletId) (s : State) : Host.Outcome State Fault Refusal :=
  atEvent (fun s => s.orderMeasQuery letter) s

/-! ### MODULE n ? (R65) -/

/-- The reply's pairs (R65). The drain step count, which R82 has reported as part of the share, shows through the
share alone (DEDUCED, log entry 64). -/
def Module.pairs (m : Module) : List (String × Value) :=
  [("STATE", Value.name m.state.name), ("RATING", Value.number m.rating),
   ("EXPECTED_SIGNATURE", Value.number m.signature), ("SERVICE_FLAG", Value.ofMark m.service),
   ("GROUP", Value.ofName? (m.group.map OutletId.letter)), ("SHARE", Value.number m.share),
   ("REST_TIME_REMAINING", Value.number ((m.rest.getD 0) / Config.ticksPerSecond : Nat)),
   ("RELEASE_PENDING", Value.ofMark m.releasePending),
   ("LAST_FAULT_CODE", Value.ofName? (m.lastFault.map FaultCode.name)),
   ("LINK_STATE", Value.name (if m.answering then "ANSWERING" else "SILENT"))]

def State.orderModuleQuery (s : State) (n : Nat) : State := s.forModule n fun m s => s.ok (s.module m).pairs

/-- MODULE n ? (R65). -/
def execModuleQuery (n : Nat) (s : State) : Host.Outcome State Fault Refusal :=
  atEvent (fun s => s.orderModuleQuery n) s

/-! ### TARIFF? (R164) -/

/-- The pending table with its ready mark (R164), PENDING before each name (DESIGN CHOICE, log entry 85). -/
def PendingTariff.pairs (p : PendingTariff) : List (String × Value) :=
  (p.table.pairs.map fun x => ("PENDING_" ++ x.1, x.2)) ++ [("READY_MARK", Value.ofMark p.ready)]

/-- The reply to TARIFF? (R164). Without a pending table the one pair PENDING=NONE stands in place of the table's
pairs and READY_MARK (DESIGN CHOICE, log entry 76). -/
def State.orderTariffQuery (s : State) : State :=
  s.ok (s.tariff.pairs ++
    (match s.pendingTariff with
      | none => [("PENDING", Value.none)]
      | some p => p.pairs))

/-- TARIFF? (R164). -/
def execTariffQuery (s : State) : Host.Outcome State Fault Refusal := atEvent State.orderTariffQuery s

/-! ### LOG? (R179) -/

/-- The read window (R179); the names of its pairs are the model's (DESIGN CHOICE, log entry 85). -/
def State.windowPairs (s : State) : List (String × Value) :=
  let w := s.log.window
  [("WINDOW_FIRST", Value.ofNat? (w.map (·.first))), ("WINDOW_LAST", Value.ofNat? (w.map (·.last))),
   ("READ_POINTER", Value.ofNat? (w.map (·.pointer)))]

/-- The merged count of each outlet with an open or held session (R179), the outlet's letter appended to the name
(DESIGN CHOICE, log entry 85). -/
def State.mergedPairs (s : State) : List (String × Value) :=
  (allOutlets.filter fun o => (s.outlet o).reported.isSome).map fun o =>
    ("MERGED_COUNT_" ++ o.letter, Value.number (s.outlet o).mergedCount)

def State.orderLogQuery (s : State) : State :=
  s.ok ([("RECORDS", Value.number s.log.records.length), ("OLDEST", Value.ofNat? s.log.oldest),
      ("NEWEST", Value.ofNat? s.log.newest), ("NEXT", Value.ofNat? s.log.next),
      ("ALMOST_FULL_THRESHOLD", Value.number s.log.threshold)] ++ s.windowPairs ++
    [("LOG_ALMOST_FULL", Value.ofMark (s.level .part .logAlmostFull)),
     ("LOG_FULL", Value.ofMark (s.level .part .logFull))] ++ s.mergedPairs ++
    [("CLOSED_SESSIONS", Value.number s.log.closed.length),
     ("HELD_SESSIONS", Value.numbers (s.heldOutlets.map fun o => ((s.outlet o).sessionNumber : Int)))])

/-- LOG? (R179). -/
def execLogQuery (s : State) : Host.Outcome State Fault Refusal := atEvent State.orderLogQuery s

/-! ### LINK? (R128) -/

def LinkCounts.pairs (c : LinkCounts) : List (String × Value) :=
  [("FRAMES_RECEIVED", Value.number c.framesReceived), ("FRAMES_SENT", Value.number c.framesSent),
   ("CRC_ERRORS", Value.number c.crcErrors), ("LENGTH_ERRORS", Value.number c.lengthErrors),
   ("STRAY_BYTES", Value.number c.strayBytes), ("GAPS", Value.number c.gaps),
   ("FRAMING_ERRORS", Value.number c.framingErrors), ("FORMAT_REFUSALS", Value.number c.formatRefusals),
   ("OVERRUNS", Value.number c.overruns), ("TRANSMIT_DROPS", Value.number c.transmitDrops),
   ("STATUS_SKIPS", Value.number c.statusSkips), ("BREAKS", Value.number c.breaks),
   ("WATCHDOG_EXPIRIES", Value.number c.watchdogExpiries)]

/-- The pairs of LINK? (R128). The kept result of a failed LINKTEST is written as its reason alone (DESIGN CHOICE,
log entry 74). -/
def ShipLink.pairs (l : ShipLink) : List (String × Value) :=
  [("LINK_STATE", Value.name (if l.up then "UP" else "DOWN")),
   ("LATEST_DOWN_CAUSE", Value.ofName? (l.lastDown.map DownCause.name)),
   ("WATCHDOG_PERIOD", Value.number (l.watchdogPeriod / Config.ticksPerMs : Nat)),
   ("WATCHDOG_REMAINING", Value.ofMs l.watchdog), ("RECEIVE_FIFO", Value.number l.fifo.length),
   ("TRANSMIT_QUEUE", Value.number l.queue.length)] ++ l.counts.pairs ++
  [("OVERRUN", Value.ofMark l.overrun),
   ("LAST_REFUSAL_CAUSE", Value.ofName? (l.lastRefusal.map RefuseCause.name)),
   ("LATEST_LINKTEST_RESULT", Value.ofName? (l.lastTest.map TestResult.name))]

def State.orderLinkQuery (s : State) (letter : Option OutletId) : State :=
  s.forOutlet letter fun o s => s.ok (s.outlet o).link.pairs

/-- LINK? (R128). -/
def execLinkQuery (letter : Option OutletId) (s : State) : Host.Outcome State Fault Refusal :=
  atEvent (fun s => s.orderLinkQuery letter) s

/-! ### STATUS? (R195) -/

def State.orderStatusQuery (s : State) : State :=
  s.ok ((allGroups.map fun g => (g.name, Value.ofItems (s.status.get g).conditions)) ++
    [("SUMMARY", Value.ofGroups (allGroups.filter s.status.summary)),
     ("ATTN_MASK", Value.ofGroups s.status.attention),
     ("ATTN", Value.name (if s.attention then "ASSERTED" else "RELEASED")),
     ("ERRORS", Value.number s.status.errors.length)])

/-- STATUS? (R195). -/
def execStatusQuery (s : State) : Host.Outcome State Fault Refusal := atEvent State.orderStatusQuery s

end Sys2Proof.Machine
end

