-- ==== Sys2Proof/Machine/Terminal.lean ====
section
/-! DEFINITION. The terminal link interpreter (chapter 11): lines, the input queue, the taking of a line, and
the handing of its order to its owner. -/

namespace Sys2Proof.Machine

/-- The order handed to its owner: what the order's own command does (log entry 8). A command that is no order
is never handed. -/
def State.handOver (s : State) : Instr → State
  | .time y m d h i j => s.orderTime y m d h i j
  | .timeQuery => s.orderTimeQuery
  | .grid kW => s.orderGrid kW
  | .gridQuery => s.orderGridQuery
  | .admitVessel o p kW v a => s.orderAdmit o p kW v a
  | .endSession o => s.orderEnd o
  | .endForce o => s.orderForce o
  | .resume o => s.orderResume o
  | .capacity o kW => s.orderCapacity o kW
  | .shipback o => s.orderShipback o
  | .outletQuery o => s.orderOutletQuery o
  | .sessionQuery o => s.orderSessionQuery o
  | .measQuery o => s.orderMeasQuery o
  | .moduleService n => s.orderService n
  | .moduleReturn n => s.orderReturn n
  | .moduleQuery n => s.orderModuleQuery n
  | .signature n sig r => s.orderSignature n sig r
  | .profileSet n f v => s.orderProfileSet n f v
  | .profileDefault n => s.orderProfileDefault n
  | .profileQuery n => s.orderProfileQuery n
  | .tariffBand b p w => s.orderTariffBand b p w
  | .tariffDemand p => s.orderTariffDemand p
  | .tariffInterval m => s.orderTariffInterval m
  | .tariffSchedule => s.orderTariffSchedule
  | .tariffDiscard => s.orderTariffDiscard
  | .tariffQuery => s.orderTariffQuery
  | .logWindow a b => s.orderLogWindow a b
  | .logRead => s.orderLogRead
  | .logQuery => s.orderLogQuery
  | .logRelease n => s.orderLogRelease n
  | .logThreshold n => s.orderLogThreshold n
  | .closedRead => s.orderClosedRead
  | .closedRelease => s.orderClosedRelease
  | .linkTest o => s.orderLinkTest o
  | .linkQuery o => s.orderLinkQuery o
  | .linkClear o => s.orderLinkClear o
  | .statusQuery => s.orderStatusQuery
  | .eventsQuery g => s.orderEvents g
  | .filter x f => s.orderFilter x f
  | .enable g xs => s.orderEnable g xs
  | .attn gs => s.orderAttn gs
  | .errQuery => s.orderErrQuery
  | .cls => s.orderCls
  | .reset => s.orderReset
  | _ => s

/-- A line taken by the interpreter (R183, R185): refused for its marks or by the first check that fails, or
handed over. -/
def State.takeLine (s : State) (l : Line) : State :=
  if l.tooLong then s.refuse 100 "LINE TOO LONG"
  else if l.bad then s.refuse 100 "BAD CHARACTER"
  else
    match readLine l.chars with
    | .ok i => s.handOver i
    | .error code => s.no code

/-- The interpreter is busy from the taking of a line to the last character of its reply (R184). -/
def Terminal.isBusy (t : Terminal) : Bool := t.reply.isSome || t.awaiting.isSome

/-- An idle interpreter takes the oldest line (R184). -/
def State.takeNext (s : State) : State :=
  if s.terminal.isBusy then s
  else
    match s.terminal.queue with
    | [] => s
    | l :: rest => ({ s with terminal := { s.terminal with queue := rest } }).takeLine l

/-- A line that is discarded at its end without reply: no mark, and nothing but spaces (R183; log entry 25). -/
def Line.isBlank (l : Line) : Bool := !l.bad && !l.tooLong && l.chars.all (· == ' ')

/-- The end of the line being assembled (R183, R184). -/
def State.endLine (s : State) : State :=
  let l := s.terminal.line
  let s := { s with terminal := { s.terminal with line := Line.empty } }
  if l.isBlank then s
  else if s.terminal.queue.length < Config.inputCapacity then
    ({ s with terminal := { s.terminal with queue := s.terminal.queue ++ [l] } }).takeNext
  else s.pushError 300 "INPUT OVERFLOW"

/-- TL_LINE_END (R183, R184). -/
def execTlLineEnd (s : State) : Host.Outcome State Fault Refusal := atEvent State.endLine s

/-- The last character of a reply has left (R184). -/
def State.replyLeaves (s : State) : State :=
  if s.terminal.reply.isSome then ({ s with terminal := { s.terminal with reply := none } }).takeNext else s

/-- REPLY_SENT (R184). -/
def execReplySent (s : State) : Host.Outcome State Fault Refusal := atEvent State.replyLeaves s

/-- A character of the line being assembled (R183). A bad one after 128 held characters marks the line bad alone (DESIGN
CHOICE, log entry 72), and so does a line terminator received with a framing error (DESIGN CHOICE, log entry 77). -/
def Line.take (l : Line) (ch : Received) : Line :=
  if ch.framingError ∨ ch.byte.toNat < 0x20 ∨ 0x7E < ch.byte.toNat then { l with bad := true }
  else if l.chars.length < Config.lineCapacity then { l with chars := l.chars ++ [Char.ofNat ch.byte.toNat] }
  else { l with tooLong := true }

/-- TL_CHARACTER (R183, R191). Characters received before start-up is complete are discarded, and those that follow are
assembled, the tail of a line that began before it too (DESIGN CHOICE, log entry 83). -/
def execTlCharacter (ch : Received) (s : State) : Host.Outcome State Fault Refusal :=
  if ch.isTerminator then .fault .notAnEvent
  else
    atEvent (fun s =>
      { s with terminal := { s.terminal with line := s.terminal.line.take ch } }) s

end Sys2Proof.Machine
end

