-- ==== Sys2Proof/Machine/Dispatch.lean ====
section
/-! DEFINITION. The dispatch of a command to its meaning: one arm for each row of the table. -/

namespace Sys2Proof.Machine

def exec (i : Instr) (s : State) : Host.Outcome State Fault Refusal :=
  match i with
  | .powerOn => Sys2Proof.Machine.execPowerOn s
  | .rstAsserted => Sys2Proof.Machine.execRstAsserted s
  | .startUpComplete => Sys2Proof.Machine.execStartUpComplete s
  | .tlLineEnd => Sys2Proof.Machine.execTlLineEnd s
  | .replySent => Sys2Proof.Machine.execReplySent s
  | .time y m d h n j => Sys2Proof.Machine.execTime y m d h n j s
  | .timeQuery => Sys2Proof.Machine.execTimeQuery s
  | .grid kW => Sys2Proof.Machine.execGrid kW s
  | .gridQuery => Sys2Proof.Machine.execGridQuery s
  | .admitVessel o p kW v a => Sys2Proof.Machine.execAdmit o p kW v a s
  | .endSession o => Sys2Proof.Machine.execEnd o s
  | .endForce o => Sys2Proof.Machine.execEndForce o s
  | .resume o => Sys2Proof.Machine.execResume o s
  | .capacity o kW => Sys2Proof.Machine.execCapacity o kW s
  | .shipback o => Sys2Proof.Machine.execShipback o s
  | .outletQuery o => Sys2Proof.Machine.execOutletQuery o s
  | .sessionQuery o => Sys2Proof.Machine.execSessionQuery o s
  | .measQuery o => Sys2Proof.Machine.execMeasQuery o s
  | .moduleService n => Sys2Proof.Machine.execModuleService n s
  | .moduleReturn n => Sys2Proof.Machine.execModuleReturn n s
  | .moduleQuery n => Sys2Proof.Machine.execModuleQuery n s
  | .signature n sig r => Sys2Proof.Machine.execSignature n sig r s
  | .profileSet n f v => Sys2Proof.Machine.execProfileSet n f v s
  | .profileDefault n => Sys2Proof.Machine.execProfileDefault n s
  | .profileQuery n => Sys2Proof.Machine.execProfileQuery n s
  | .tariffBand b p w => Sys2Proof.Machine.execTariffBand b p w s
  | .tariffDemand p => Sys2Proof.Machine.execTariffDemand p s
  | .tariffInterval m => Sys2Proof.Machine.execTariffInterval m s
  | .tariffSchedule => Sys2Proof.Machine.execTariffSchedule s
  | .tariffDiscard => Sys2Proof.Machine.execTariffDiscard s
  | .tariffQuery => Sys2Proof.Machine.execTariffQuery s
  | .logWindow a b => Sys2Proof.Machine.execLogWindow a b s
  | .logRead => Sys2Proof.Machine.execLogRead s
  | .logQuery => Sys2Proof.Machine.execLogQuery s
  | .logRelease n => Sys2Proof.Machine.execLogRelease n s
  | .logThreshold n => Sys2Proof.Machine.execLogThreshold n s
  | .closedRead => Sys2Proof.Machine.execClosedRead s
  | .closedRelease => Sys2Proof.Machine.execClosedRelease s
  | .linkTest o => Sys2Proof.Machine.execLinkTest o s
  | .linkTestResult o r => Sys2Proof.Machine.execLinkTestResult o r s
  | .linkQuery o => Sys2Proof.Machine.execLinkQuery o s
  | .linkClear o => Sys2Proof.Machine.execLinkClear o s
  | .statusQuery => Sys2Proof.Machine.execStatusQuery s
  | .eventsQuery g => Sys2Proof.Machine.execEventsQuery g s
  | .filter x f => Sys2Proof.Machine.execFilter x f s
  | .enable g xs => Sys2Proof.Machine.execEnable g xs s
  | .attn gs => Sys2Proof.Machine.execAttn gs s
  | .errQuery => Sys2Proof.Machine.execErrQuery s
  | .cls => Sys2Proof.Machine.execCls s
  | .reset => Sys2Proof.Machine.execReset s
  | .interlockChange x m => Sys2Proof.Machine.execInterlockChange x m s
  | .sbFeedbackCloses o => Sys2Proof.Machine.execSbFeedbackCloses o s
  | .sbFeedbackOpens o => Sys2Proof.Machine.execSbFeedbackOpens o s
  | .pbFeedbackCloses o => Sys2Proof.Machine.execPbFeedbackCloses o s
  | .pbFeedbackOpens o => Sys2Proof.Machine.execPbFeedbackOpens o s
  | .sbCloseTimerExpiry o => Sys2Proof.Machine.execSbCloseTimerExpiry o s
  | .sbOpenTimerExpiry o => Sys2Proof.Machine.execSbOpenTimerExpiry o s
  | .pbCloseTimerExpiry o => Sys2Proof.Machine.execPbCloseTimerExpiry o s
  | .pbTripTimerExpiry o => Sys2Proof.Machine.execPbTripTimerExpiry o s
  | .closeFeedbackTimerExpiry o => Sys2Proof.Machine.execCloseFeedbackTimerExpiry o s
  | .syncTimerExpiry o => Sys2Proof.Machine.execSyncTimerExpiry o s
  | .energiseTimerExpiry o => Sys2Proof.Machine.execEnergiseTimerExpiry o s
  | .parallelTimerExpiry o => Sys2Proof.Machine.execParallelTimerExpiry o s
  | .overloadTimerExpiry o => Sys2Proof.Machine.execOverloadTimerExpiry o s
  | .moduleCharged m => Sys2Proof.Machine.execModuleCharged m s
  | .moduleResult m p sig => Sys2Proof.Machine.execModuleResult m p sig s
  | .moduleFault m c => Sys2Proof.Machine.execModuleFault m c s
  | .moduleAnswer m => Sys2Proof.Machine.execModuleAnswer m s
  | .moduleSilent m => Sys2Proof.Machine.execModuleSilent m s
  | .prechargeTimerExpiry m => Sys2Proof.Machine.execPrechargeTimerExpiry m s
  | .selfTestTimerExpiry m => Sys2Proof.Machine.execSelfTestTimerExpiry m s
  | .drainTimerExpiry m => Sys2Proof.Machine.execDrainTimerExpiry m s
  | .restTimeExpiry m => Sys2Proof.Machine.execRestTimeExpiry m s
  | .grantWaitExpiry o => Sys2Proof.Machine.execGrantWaitExpiry o s
  | .referenceUpdate => Sys2Proof.Machine.execReferenceUpdate s
  | .controlStep => Sys2Proof.Machine.execControlStep s
  | .sampleSet k => Sys2Proof.Machine.execSampleSet k s
  | .lossTimerExpiry c => Sys2Proof.Machine.execLossTimerExpiry c s
  | .gridOverTimerExpiry => Sys2Proof.Machine.execGridOverTimerExpiry s
  | .meteringTick => Sys2Proof.Machine.execMeteringTick s
  | .shipCharacter o c => Sys2Proof.Machine.execShipCharacter o c s
  | .frameGapTimeout o => Sys2Proof.Machine.execFrameGapTimeout o s
  | .lineBreak o => Sys2Proof.Machine.execLineBreak o s
  | .frameComplete o f => Sys2Proof.Machine.execFrameComplete o f s
  | .hello o => Sys2Proof.Machine.execHello o s
  | .status o => Sys2Proof.Machine.execStatus o s
  | .parallelRequest o => Sys2Proof.Machine.execParallelRequest o s
  | .generatorsOff o => Sys2Proof.Machine.execGeneratorsOff o s
  | .returnRequest o => Sys2Proof.Machine.execReturnRequest o s
  | .generatorsOn o => Sys2Proof.Machine.execGeneratorsOn o s
  | .abort o => Sys2Proof.Machine.execAbort o s
  | .bye o => Sys2Proof.Machine.execBye o s
  | .shoreFrameSent o => Sys2Proof.Machine.execShoreFrameSent o s
  | .watchdogExpiry o => Sys2Proof.Machine.execWatchdogExpiry o s
  | .statusTimerExpiry o => Sys2Proof.Machine.execStatusTimerExpiry o s
  | .tlCharacter c => Sys2Proof.Machine.execTlCharacter c s
  | .rstReleased => Sys2Proof.Machine.execRstReleased s
  | .powerLoss => Sys2Proof.Machine.execPowerLoss s

end Sys2Proof.Machine
end

