-- ==== Sys2Proof/Safety.lean ====
section
/-! DEFINITION. The terms in which claims are stated: a part that has settled, and the invariants that every step
keeps. Each is about the state alone. -/

namespace Sys2Proof

/-! ### Kinds of commands -/

/-- The rows of supply, reset pin and start-up. -/
def Instr.isPowerRow : Instr → Bool
  | .powerOn => true
  | .rstAsserted => true
  | .rstReleased => true
  | .startUpComplete => true
  | .powerLoss => true
  | _ => false

/-- The rows of a ship link's receiver, which act in start-up too (R130). -/
def Instr.isReceiverRow : Instr → Bool
  | .shipCharacter .. => true
  | .frameGapTimeout _ => true
  | .frameComplete .. => true
  | .lineBreak _ => true
  | _ => false

/-- The commands that are orders of the catalogue. -/
def Instr.isOrder : Instr → Bool
  | .time .. => true | .timeQuery => true | .grid _ => true | .gridQuery => true | .admitVessel .. => true
  | .endSession _ => true | .endForce _ => true | .resume _ => true | .capacity .. => true
  | .shipback _ => true | .outletQuery _ => true | .sessionQuery _ => true | .measQuery _ => true
  | .moduleService _ => true | .moduleReturn _ => true | .moduleQuery _ => true | .signature .. => true
  | .profileSet .. => true | .profileDefault _ => true | .profileQuery _ => true | .tariffBand .. => true
  | .tariffDemand _ => true | .tariffInterval _ => true | .tariffSchedule => true | .tariffDiscard => true
  | .tariffQuery => true | .logWindow .. => true | .logRead => true | .logQuery => true
  | .logRelease _ => true | .logThreshold _ => true | .closedRead => true | .closedRelease => true
  | .linkTest _ => true | .linkQuery _ => true | .linkClear _ => true | .statusQuery => true
  | .eventsQuery _ => true | .filter .. => true | .enable .. => true | .attn _ => true | .errQuery => true
  | .cls => true | .reset => true
  | _ => false

end Sys2Proof

namespace Sys2Proof.Machine

/-! ### A settled part -/

/-- Every condition stands at the status unit at the level its owner states (R193). -/
def State.stated (s : State) : Bool :=
  allGroups.all fun g => g.conditions.all fun x => (s.status.get g).conditions.contains x == s.level g x

/-- DE_ENERGISING is complete at an outlet (R21). -/
def State.endsNow (s : State) (o : OutletId) : Bool :=
  (s.outlet o).state == .deEnergising && (!(s.outlet o).sb.feedback || (s.outlet o).sb.channel == .stuck)

/-- PREPARE is at its end at an outlet (R11). -/
def State.closesNow (s : State) (o : OutletId) : Bool :=
  (s.outlet o).state == .energising && (s.outlet o).phase == some .prepare && s.prepared o

/-- The head of the grant queue cannot be granted (R56). -/
def State.queueWaits (s : State) : Bool :=
  match s.grants with
  | [] => true
  | r :: _ => (s.grantable r).isNone

/-- Nothing waits to follow from what has happened: no session to close (R21), no limit to recompute (R52), no
request to grant (R56), BUDGET_OVER as the claims say (R55), no PREPARE to end (R11), no condition to report. -/
def State.settled (s : State) : Bool :=
  allOutlets.all (fun o => !s.endsNow o && (s.outlet o).limit == s.newLimit o && !s.closesNow o) &&
    s.queueWaits && s.budgetOver == decide (s.gridLimit < s.claims) && s.stated

/-- A part that runs and has settled: what the part is between two events. -/
def State.ready (s : State) : Bool := s.phase == .running && s.settled

/-! ### What an event leaves as it was -/

/-- The filters, masks and errors of the status unit: what no report and no event changes. -/
def StatusUnit.settings (u : StatusUnit) : StatusUnit :=
  let f (g : GroupStatus) : GroupStatus := { g with conditions := [], counts := [], lastState := none }
  { u with part := f u.part, groups := { a := f u.groups.a, b := f u.groups.b, c := f u.groups.c } }

/-- The status unit of `t` is that of `s` as owners' reports have moved it: every condition at its level, no
filter, mask or error changed. -/
def State.follows (t s : State) : Bool := t.stated && t.status.settings == s.status.settings

/-- An outlet event has been raised once between `s` and `t`: its count is one higher, holding at 255 (R193). -/
def State.hasRaised (t s : State) (o : OutletId) (x : Item) : Bool :=
  (t.status.get (.outlet o)).count x == addHolding 255 ((s.status.get (.outlet o)).count x) 1

/-- An outlet without what the allocator's answer to an event elsewhere may change on it: the grant of its
request with PREPARE, its limit and what follows the limit, and the SB closing that ends PREPARE. -/
def Outlet.kept (x : Outlet) : Outlet :=
  { x with
    state := if x.state = .admitted then .energising else x.state
    phase := none, rampComplete := false, closeWanted := false, limit := 0
    reference := Reference.reset
    handover := { x.handover with overloadTimer := none }
    sb := { x.sb with
      channel := if x.sb.channel = .closing then .opened else x.sb.channel, closeTimer := none }
    link := { x.link with
      queue := [], sending := false, counts := { x.link.counts with transmitDrops := 0 } } }

/-- A module is as it was, or was free and has been granted (R46, R56). -/
def Module.keptBy (m m' : Module) : Bool := m' == m || (m.isFree && m'.state == .precharging)

/-- The parts of the machine that no outlet's event touches: clock, tariffs, log, profiles, terminal, grid
figures and the counters of time. -/
def State.common (s : State) : State :=
  { s with outlets := State.reset.outlets, modules := State.reset.modules, grants := [], budgetOver := false,
           status := s.status.settings }

/-- The contents of the retained store, in a state otherwise after reset. -/
def State.retained (s : State) : State :=
  let f (x : Outlet) : Outlet :=
    { Outlet.blank with
      session := x.session, interval := x.interval, held := x.held
      meter := { Meter.blank with
        importTotal := x.meter.importTotal, exportTotal := x.meter.exportTotal
        releasedImport := x.meter.releasedImport, releasedExport := x.meter.releasedExport } }
  { State.reset with
    outlets := { a := f s.outlets.a, b := f s.outlets.b, c := f s.outlets.c }
    modules := s.modules.map fun m =>
      { Module.blank with
        rating := m.rating, signature := m.signature, service := m.service, lastFault := m.lastFault }
    gridLimit := s.gridLimit
    tariff := s.tariff
    pendingTariff := s.pendingTariff
    log := { s.log with window := none }
    sessionCounter := s.sessionCounter
    profiles := s.profiles }

/-- Every block of the outlets and of the module pool holds its after-reset values. -/
def State.isReset (s : State) : Bool :=
  allOutlets.all (fun o => (s.outlet o).afterReset == s.outlet o) &&
    s.modules.map (Module.afterReset (s.phase == .startingUp)) == s.modules && s.grants == [] && !s.budgetOver &&
    !s.estopAllMade

/-- A link as it was before its receiver took anything: nothing being assembled, and the receiver's counts 0 (R116,
R117, R118, R124). -/
def ShipLink.beforeReception (l : ShipLink) : ShipLink :=
  { l with
    assembling := none, gapTimer := none
    counts := { l.counts with
      framesReceived := 0, crcErrors := 0, lengthErrors := 0, strayBytes := 0, gaps := 0, framingErrors := 0
      breaks := 0 } }

/-- The part as it was before the receivers of the ship links took anything. -/
def State.beforeReception (s : State) : State :=
  let f (x : Outlet) : Outlet := { x with link := x.link.beforeReception }
  { s with outlets := { a := f s.outlets.a, b := f s.outlets.b, c := f s.outlets.c } }

/-- Until start-up is complete every block holds its after-reset values, but for what the receivers of the ship
links take in start-up (R43, R66, R130, R192). -/
def State.atRest (s : State) : Bool :=
  s.phase == .running || (if s.phase == .startingUp then s.beforeReception else s).isReset

/-! ### Breakers and interlocks (chapter 2) -/

/-- The SB channel, its feedback, timers and condition as the table of section 2.3 gives. -/
def ShoreBreaker.wellFormed (b : ShoreBreaker) : Bool :=
  match b.channel with
  | .opened => !b.feedback && b.closeTimer.isNone && b.openTimer.isNone && !b.stuckSet
  | .closing => !b.feedback && b.closeTimer.isSome && b.openTimer.isNone && !b.stuckSet
  | .closed => b.feedback && b.closeTimer.isNone && b.openTimer.isNone && !b.stuckSet
  | .opening => b.feedback && b.closeTimer.isNone && b.openTimer.isSome && !b.stuckSet
  | .stuck => b.feedback && b.closeTimer.isNone && b.openTimer.isNone && b.stuckSet

/-- The PB channel and its timers as the table of section 2.4 gives; a close pulse runs only while the feedback
reports OPEN, and PB_STUCK stands only while it reports CLOSED (R37, R40). -/
def ParallelBreaker.wellFormed (b : ParallelBreaker) : Bool :=
  (!b.stuckSet || b.feedback) &&
    match b.channel with
    | .idle => b.closeTimer.isNone && b.tripTimer.isNone && !b.afterClose
    | .closePulse => b.closeTimer.isSome && b.tripTimer.isNone && !b.afterClose && !b.feedback
    | .tripPulse => b.closeTimer.isNone && b.tripTimer.isSome
    | .stuck => b.closeTimer.isNone && b.tripTimer.isNone && !b.afterClose && b.feedback && b.stuckSet

/-- A close request waits to be repeated only in phase CLOSING, and only while the SB is being opened or would not
open (R12, R33, R36). -/
def Outlet.closeSound (x : Outlet) : Bool :=
  !x.closeWanted || (x.state == .energising && x.phase == some .closing &&
    (x.sb.channel == .opening || x.sb.channel == .stuck))

/-- One outlet's breakers: no close command and no close pulse while an interlock is lost (R30, R31), no close
pulse unless the SB is closed (R37, R38, R104), and a close request waiting only where it may. -/
def State.breakersSound (s : State) (o : OutletId) : Bool :=
  (s.outlet o).sb.wellFormed && (s.outlet o).pb.wellFormed && (s.outlet o).closeSound &&
    (!s.sbCommand o || (s.blocking o).isNone) &&
    (!s.pbClose o || ((s.blocking o).isNone && (s.outlet o).sb.channel == .closed))

/-! ### The synchronising check and the transfer states (chapters 6 and 8) -/

/-- The check is at work only in SYNCHRONISING, its close-feedback timer runs only in CLOSING, the parallel timer
runs only in the two parallel states and the overload timer only in the transfer states, and in the three transfer
states both breakers report closed with no pulse in progress (R98, R104, R132, R147). -/
def Outlet.syncSound (x : Outlet) : Bool :=
  (x.check.state == .inactive || x.state == .synchronising) &&
    (x.check.feedbackTimer.isNone || x.check.state == .closing) &&
    (x.handover.parallelTimer.isNone || x.state == .transferIn || x.state == .transferOut) &&
    (x.handover.overloadTimer.isNone || x.state.isTransfer) &&
    (!x.state.isTransfer ||
      (x.sb.channel == .closed && x.sb.feedback && x.pb.channel == .idle && x.pb.feedback))

/-! ### The module pool (chapter 3) -/

/-- A module belongs to a group exactly in the states of a member, a group exists in ENERGISING to DE_ENERGISING
only, a module rests only in OFF and is marked only in RUNNING (R10, R15, R44, R51, R52, R62). -/
def State.memberSound (s : State) (m : Fin 8) : Bool :=
  (s.module m).group.isSome == (s.module m).state.isMember &&
    ((s.module m).rest.isNone || (s.module m).state == .off) &&
    (!(s.module m).releasePending || (s.module m).state == .running) &&
    match (s.module m).group with
    | none => true
    | some o => (s.outlet o).state.within .energising .deEnergising

/-- A lifecycle timer of a module runs only in the state it bounds: the precharge timer in PRECHARGING, the self-test timer
in SELF_TEST and the drain timer in RELEASING (R46, R47, R49). -/
def Module.timersSound (m : Module) : Bool :=
  (m.precharge.isNone || m.state == .precharging) && (m.selfTest.isNone || m.state == .selfTest) &&
    (m.drain.isNone || m.state == .releasing)

def State.timersSound (s : State) : Bool := s.modules.all Module.timersSound

/-- The grant queue holds at most one request per outlet: an initial one in ADMITTED, a top-up in ENERGISING to
SEPARATING, each wanting what the committed rating of the unmarked members is short of the admitted
capacity (R10, R53, R54). -/
def State.grantsSound (s : State) : Bool :=
  (s.grants.map (·.outlet)).Nodup &&
    s.grants.all fun r => s.admitted r.outlet ≤ s.committedUnmarked r.outlet + r.wanted &&
      match r.kind with
      | .initial => (s.outlet r.outlet).state == .admitted
      | .topUp => (s.outlet r.outlet).state.supplied

/-- Marked members are a surplus: while an outlet is supplied, the members that are not marked still reach its
admitted capacity (R62). -/
def State.marksSound (s : State) (o : OutletId) : Bool :=
  !s.hasMarks o || !(s.outlet o).state.supplied || s.admitted o ≤ s.committedUnmarked o

/-- What the protective rules keep in every state the part reaches: breakers and interlocks (chapter 2), the
synchronising check and the transfer states (chapters 6 and 8), groups, marks and requests (chapter 3). -/
def State.sound (s : State) : Bool :=
  s.atRest && allOutlets.all (fun o => s.breakersSound o && (s.outlet o).syncSound && s.marksSound o) &&
    allModules.all s.memberSound && s.grantsSound

/-! ### The reference generator (chapter 4) -/

/-- Every field of a profile in its range, the slip fields in their order (R189). -/
def Profile.inRange (p : Profile) : Bool :=
  ProfileField.all.all fun f => (p.range f).1 ≤ p.get f && p.get f ≤ (p.range f).2

/-- A frequency within 2,000 mHz of the nominal one. -/
def Profile.admits (p : Profile) (f : Nat) : Bool := distance f p.nomFreq ≤ 2000

/-- The states in which the generator's output has begun. -/
def Outlet.isLive (x : Outlet) : Bool :=
  x.state.within .cableLive .separating ||
    (x.state == .energising && x.phase == some .ramp && x.rampComplete)

/-- The law of R69 for one outlet: in STOPPED the set frequency and the word are 0, and in every other mode the
set frequency lies within 2,000 mHz of the session's nominal frequency and the word is its rounding; with the
outlet states in which the output runs, the pending modes they allow, and the setpoint within the limit (R79). -/
def Outlet.referenceSound (x : Outlet) : Bool :=
  let r := x.reference
  let starting := x.state == .energising && x.phase == some .ramp
  (r.mode != .stopped || (r.setFreq == 0 && r.word == 0)) &&
    (r.mode == .stopped ||
      match x.session with
      | none => false
      | some k => k.snapshot.admits r.setFreq && k.snapshot.admits r.freqTarget && r.word == wordOf r.setFreq) &&
    (match x.session with
      | none => true
      | some k => k.snapshot.inRange) &&
    (x.state.within .cableLive .separating || starting || (r.mode == .stopped && r.pending.isNone)) &&
    (!x.isLive || r.mode != .stopped) &&
    (r.mode != .stopped || r.pending.isNone || r.pending == some .softStart) && r.pending != some .stopped &&
    r.setpoint ≤ x.limit

/-- The generators of the three outlets and the retained profiles they take their snapshots from. -/
def State.referencesSound (s : State) : Bool :=
  s.atRest && s.profiles.all Profile.inRange && allOutlets.all fun o => (s.outlet o).referenceSound

/-! ### The billing log (chapter 10) -/

/-- Sequences that rise by one from a first. -/
def consecutiveFrom : Nat → List LogRecord → Bool
  | _, [] => true
  | n, r :: rest => r.sequence == n && consecutiveFrom (n + 1) rest

/-- The log holds at most 2,048 records with consecutive sequences, the counter follows the newest, and the
closed-session queue holds at most 8 (R171, R180). -/
def BillingLog.wellFormed (l : BillingLog) : Bool :=
  l.records.length ≤ Config.logCapacity && l.closed.length ≤ Config.closedCapacity &&
    (match l.next with
      | some n => 1 ≤ n && n ≤ Config.max32
      | none => true) &&
    l.records.length < l.next.getD (Config.max32 + 1) &&
    consecutiveFrom (l.next.getD (Config.max32 + 1) - l.records.length) l.records

/-! ### Bounded queues and counts -/

def LinkCounts.bounded (c : LinkCounts) : Bool :=
  [c.framesReceived, c.framesSent, c.crcErrors, c.lengthErrors, c.strayBytes, c.gaps, c.framingErrors,
   c.formatRefusals, c.overruns, c.transmitDrops, c.statusSkips, c.breaks, c.watchdogExpiries].all (· ≤ 65535)

/-- The FIFO of R121, the transmit queue of R125 with at most one SHORE_STATUS, the transmitter that sends where a
frame waits, but for a LINKTEST, the queue empty and the status timer stopped while the link is DOWN (R124, R126,
R127, R129), and the counts of R128. -/
def ShipLink.bounded (l : ShipLink) : Bool :=
  l.fifo.length ≤ Config.fifoCapacity && l.queue.length ≤ Config.transmitCapacity &&
    (l.queue.filter (·.isStatus)).length ≤ 1 && (l.up || l.queue.isEmpty && l.statusTimer.isNone) &&
    (!l.sending || !l.queue.isEmpty) && (l.testing || l.queue.isEmpty || l.sending) && l.counts.bounded

/-- The counts of a group's latched names (R193). -/
def GroupStatus.bounded (g : GroupStatus) : Bool := g.counts.all fun p => 1 ≤ p.2 && p.2 ≤ 255

/-- Every queue and count of the links, the terminal and the status unit within its capacity, and no line waits
at an idle interpreter (R121, R125, R128, R183, R184, R193, R197). -/
def State.bounded (s : State) : Bool :=
  allOutlets.all (fun o => (s.outlet o).link.bounded) && s.terminal.queue.length ≤ Config.inputCapacity &&
    (s.terminal.isBusy || s.terminal.queue.isEmpty) && s.terminal.line.chars.length ≤ Config.lineCapacity &&
    s.status.errors.length ≤ Config.errorCapacity &&
    allGroups.all fun g => (s.status.get g).bounded

/-! ### Energy (R158) -/

/-- Merged figures that count no interval hold none. -/
def Merged.sound (m : Merged) : Bool := m.count != 0 || m == Merged.none

/-- What an outlet's records say of its sessions: an open session or a held one, each of this outlet, and an
interval only in an open session; while the part runs, the open session in the session states and the held one
in HELD. -/
def State.recordsSound (s : State) (o : OutletId) : Bool :=
  let x := s.outlet o
  (x.session.isNone || x.held.isNone) && (x.interval.isNone || x.session.isSome) &&
    (match x.session with
      | some r => r.outlet == o && r.merged.sound
      | none => true) &&
    (match x.held with
      | some h => h.session.outlet == o && h.session.merged.sound
      | none => true) &&
    (s.phase != .running || (x.state.inSession == x.session.isSome && (x.state == .held) == x.held.isSome))

/-- The import Wh of an outlet that stand in the log, in its open or held session's merged figures, and in its
current interval or held FINAL interval. -/
def State.standingImport (s : State) (o : OutletId) : Nat :=
  ((s.log.records.filter (·.outlet == o)).map (·.importWh.sum)).sum +
    (match (s.outlet o).session with
      | some r => r.merged.importWh.sum
      | none => 0) +
    (match (s.outlet o).interval with
      | some i => i.importWh.sum
      | none => 0) +
    (match (s.outlet o).held with
      | some h => h.session.merged.importWh.sum + h.final.importWh.sum
      | none => 0)

/-- The law of R158 for one outlet. -/
def State.energyKept (s : State) (o : OutletId) : Bool :=
  (s.outlet o).meter.importTotal == (s.outlet o).meter.releasedImport + s.standingImport o

/-- The accounts of the part: the log in its form, every outlet's records, and the law of R158. -/
def State.accounts (s : State) : Bool :=
  s.atRest && s.log.wellFormed && allOutlets.all fun o => s.recordsSound o && s.energyKept o

/-! ### Tariffs, intervals and the close of a session (chapters 9 and 10) -/

/-- A tariff table with every figure in its range (R164). -/
def Tariff.inRange (t : Tariff) : Bool :=
  [t.prices.b0, t.prices.b1, t.prices.b2, t.prices.b3, t.demandPrice].all (· ≤ 99999) &&
    [t.window1, t.window2, t.window3].all (fun w => w.start ≤ 1439 && w.stop ≤ 1439) &&
    [5, 10, 15, 30, 60].contains t.length

/-- The tables in force and pending are in range, and every open interval has a length such a table gives (R160,
R164). -/
def State.tariffsSound (s : State) : Bool :=
  s.tariff.inRange && s.pendingTariff.all (·.table.inRange) &&
    allOutlets.all fun o => (s.outlet o).interval.all fun i => [5, 10, 15, 30, 60].contains i.length

/-- The band of a tick by the reading before its advance: the table of R159. -/
def Tariff.bandAt (t : Tariff) : Option Clock → Nat
  | none => 0
  | some c =>
    let m := c.hour * 60 + c.minute
    let holds (w : BandWindow) : Bool := w.enabled &&
      ((w.start < w.stop && w.start ≤ m && m < w.stop) ||
        (w.stop < w.start && (w.start ≤ m || m < w.stop)) || w.start == w.stop)
    if holds t.window1 then 1 else if holds t.window2 then 2 else if holds t.window3 then 3 else 0

/-- The reading as a record takes it: to the second (R153). -/
def State.second (s : State) : Option Clock := s.clock.map fun c => { c with tenth := 0 }

/-- An interval that opens in this state (R160, R162). -/
def State.freshInterval (s : State) : Interval :=
  { start := s.second, length := s.tariff.length, ticks := 0, importWh := Bands.zero, exportWh := 0
    flags := (if s.clock = none then [.timeUnset] else []) ++ (if s.grid.overSet then [.gridOver] else []) }

/-- The flags of an interval closed with the flags `more`, in table order: those it took, those, and SHORT below its
full count (R162). -/
def Interval.closedFlags (i : Interval) (more : List IntervalFlag) : List IntervalFlag :=
  IntervalFlag.all.filter fun f =>
    i.flags.contains f || more.contains f || (f == .short && i.ticks < i.length * 600)

/-- A session after the first three steps of R163 for an interval closed with the flags `more` under a table: each
band's charge, the peak by the demand of a full-length interval, and the quality summary. -/
def Session.billed (r : Session) (t : Tariff) (i : Interval) (more : List IntervalFlag) : Session :=
  let flags := i.closedFlags more
  let charge (now gained : Nat) : Nat := min 18446744073709551615 (now + gained)
  let demand := min 4294967295 ((2 * (i.importWh.sum * 60) + i.length * 1000) / (2 * (i.length * 1000)))
  let raises := !flags.contains .short && !flags.contains .final && r.peak < demand
  { r with
    charge := { b0 := charge r.charge.b0 (i.importWh.b0 * t.prices.b0)
                b1 := charge r.charge.b1 (i.importWh.b1 * t.prices.b1)
                b2 := charge r.charge.b2 (i.importWh.b2 * t.prices.b2)
                b3 := charge r.charge.b3 (i.importWh.b3 * t.prices.b3) }
    peak := if raises then demand else r.peak
    peakStart := if raises then i.start else r.peakStart
    quality := IntervalFlag.all.filter fun f => r.quality.contains f || flags.contains f }

/-- What an interval closed with the flags `more` is handed to the billing log with (R163). -/
def Interval.handed (i : Interval) (more : List IntervalFlag) : IntervalFigures :=
  { start := i.start, duration := i.ticks / 10, importWh := i.importWh, exportWh := i.exportWh
    flags := i.closedFlags more }

/-- The record of a session's closed interval: the interval's own figures where nothing is merged, and the merged
figures together with them otherwise (R172). -/
def Session.recordOf (r : Session) (f : IntervalFigures) (sequence : Nat) : LogRecord :=
  let m := r.merged
  let own := { sequence := sequence, session := r.number, outlet := r.outlet, start := f.start
               duration := f.duration, importWh := f.importWh, exportWh := f.exportWh, mergedCount := 0
               flags := f.flags : LogRecord }
  if m.count = 0 then own
  else { own with
    start := m.start
    duration := min 999999999 (m.duration + f.duration)
    importWh := { b0 := m.importWh.b0 + f.importWh.b0, b1 := m.importWh.b1 + f.importWh.b1
                  b2 := m.importWh.b2 + f.importWh.b2, b3 := m.importWh.b3 + f.importWh.b3 }
    exportWh := m.exportWh + f.exportWh
    mergedCount := m.count
    flags := IntervalFlag.all.filter fun x => f.flags.contains x || m.flags.contains x || x == .merged }

/-- The merged figures once a closed interval joins them (R173). -/
def Session.mergedWith (r : Session) (f : IntervalFigures) : Merged :=
  let m := r.merged
  { start := if m.count = 0 then f.start else m.start
    duration := min 999999999 (m.duration + f.duration)
    importWh := { b0 := m.importWh.b0 + f.importWh.b0, b1 := m.importWh.b1 + f.importWh.b1
                  b2 := m.importWh.b2 + f.importWh.b2, b3 := m.importWh.b3 + f.importWh.b3 }
    exportWh := m.exportWh + f.exportWh
    count := min 65535 (m.count + 1)
    flags := IntervalFlag.all.filter fun x => m.flags.contains x || f.flags.contains x }

/-- Whether the log takes a record after `n` others: fewer than 2,048 then, and a sequence left (R171, R172). -/
def BillingLog.takesAfter (l : BillingLog) (n : Nat) : Bool :=
  l.records.length + n < 2048 && l.next.any (· + n ≤ 4294967295)

/-- The sequence counter after `n` records more (R171). -/
def BillingLog.nextAfter (l : BillingLog) (n : Nat) : Option Nat :=
  l.next.bind fun k => if k + n ≤ 4294967295 then some (k + n) else none

/-- How many of the outlets `os` come before `o` in ascending order of session number. Of equal numbers, which no two
open sessions have, the first letter comes first. -/
def State.turn (s : State) (os : List OutletId) (o : OutletId) : Nat :=
  (os.filter fun q =>
    (s.outlet q).sessionNumber < (s.outlet o).sessionNumber ||
      ((s.outlet q).sessionNumber == (s.outlet o).sessionNumber &&
        (allOutlets.takeWhile (· != o)).contains q)).length

/-- One of the intervals that an event closes at the outlets `os`, that of `o`, whose session and interval then are `r`
and `i`: billed with the table active before any switch, and written at its turn where the log has room for it, the
merged figures being zero then, or merged, MERGED joining the quality summary at the first merge (R163, R172,
R173). -/
def State.hasClosedInterval (t s : State) (os : List OutletId) (o : OutletId) (r : Session) (i : Interval)
    (more : List IntervalFlag) : Bool :=
  let n := s.turn os o
  let k := r.billed s.tariff i more
  if s.log.takesAfter n then
    (t.outlet o).session == some { k with merged := Merged.none } &&
      t.log.records[s.log.records.length + n]? == s.log.next.map fun q => r.recordOf (i.handed more) (q + n)
  else
    (t.outlet o).session == some { k with
      merged := r.mergedWith (i.handed more)
      quality := IntervalFlag.all.filter fun f =>
        k.quality.contains f || (r.merged.count == 0 && f == .merged) }

/-- The log after an event that closes `count` intervals: one record more for each that it takes, the rest of the log
as it was (R171 to R173). -/
def State.hasLogged (t s : State) (count : Nat) : Bool :=
  let written := ((List.range count).filter s.log.takesAfter).length
  t.log == { s.log with records := t.log.records, next := s.log.nextAfter written } &&
    t.log.records.length == s.log.records.length + written &&
    t.log.records.take s.log.records.length == s.log.records

/-- The interval that a session close ends as FINAL: the open one, or one opened at that event (R168). The flags of
the latter, but for TIME_UNSET, are the model's reading (log entry 30). -/
def State.finalInterval (s : State) (o : OutletId) : Interval :=
  (s.outlet o).interval.getD s.freshInterval

/-- The record of a session `r` of outlet `o` closed with `cause`: billed for its FINAL interval, with its end cause
and end time, and priced with the active table (R22, R168). Its merged figures stand. -/
def State.closedSession (s : State) (o : OutletId) (r : Session) (cause : EndCause) : Session :=
  let k := r.billed s.tariff (s.finalInterval o) [.final]
  { k with
    endCause := some cause
    endTime := s.second
    totalCharge := some (min 18446744073709551615
      ((2 * (k.charge.b0 + k.charge.b1 + k.charge.b2 + k.charge.b3) + 100000) / 200000 +
        k.peak * s.tariff.demandPrice)) }

/-- Whether a closed session is placed after `n` others: room in the log and in the closed-session queue (R22). -/
def BillingLog.placesAfter (l : BillingLog) (n : Nat) : Bool := l.takesAfter n && l.closed.length + n < 8

/-- One of the sessions that an event closes at the outlets `os`, that of `o`, whose record is `r`. At its turn, where
both conditions of R22 hold, its FINAL record with the merged figures is in the log and its closed record in the
queue, and the outlet is at rest. Otherwise the closed record with the FINAL interval's figures is held. The
outlet's accumulators are 0 and its held power is absent (R22, R168, R172, R174). That the placed record's merged
figures are zero is the model's reading (log entry 46). -/
def State.hasClosedOne (t s : State) (os : List OutletId) (o : OutletId) (r : Session) (cause : EndCause) : Bool :=
  let n := s.turn os o
  let k := s.closedSession o r cause
  let i := s.finalInterval o
  let y := t.outlet o
  y.session.isNone && y.interval.isNone &&
    y.meter == { (s.outlet o).meter with importAcc := 0, exportAcc := 0, heldPower := none } &&
    (if s.log.placesAfter n then
      t.log.records[s.log.records.length + n]? == (s.log.next.map fun q => r.recordOf (i.handed [.final]) (q + n)) &&
        t.log.closed[s.log.closed.length + n]? == some { k with merged := Merged.none } && y.held.isNone &&
        y.state == (if y.interlocks.plug then .cabled else .vacant)
    else
      y.state == .held && y.held == some { session := k, final := i.handed [.final] })

/-- The log of `t` is `l` with as many of `count` closed sessions placed as it has room for, a record and a closed
session each, and otherwise `l` (R22, R174). -/
def State.hasPlaced (t : State) (l : BillingLog) (count : Nat) : Bool :=
  let placed := ((List.range count).filter l.placesAfter).length
  t.log == { l with records := t.log.records, closed := t.log.closed, next := l.nextAfter placed } &&
    t.log.records.length == l.records.length + placed &&
    t.log.records.take l.records.length == l.records &&
    t.log.closed.length == l.closed.length + placed &&
    t.log.closed.take l.closed.length == l.closed

/-- The held outlets have been examined in ascending order of session number with the log as `l`: each is placed
whole, its FINAL record with the merged figures, and leaves HELD, while both conditions of R22 hold, and stands as
it was otherwise (R23, R174). Its meter, and what every change of state stops (phase, reference, overload timer), are
left to other clauses. That the placed record's merged figures are zero is the model's reading (log entry 46). -/
def State.hasExamined (t s : State) (l : BillingLog) : Bool :=
  let os := allOutlets.filter fun o => (s.outlet o).held.isSome
  t.hasPlaced l os.length && os.all fun o => (s.outlet o).held.all fun h =>
    let n := s.turn os o
    let rest (x : Outlet) : Outlet := { x with
      meter := Meter.blank, phase := none, reference := Reference.reset
      handover := { x.handover with overloadTimer := none } }
    let x := rest (s.outlet o)
    if l.placesAfter n then
      t.log.records[l.records.length + n]? == (l.next.map fun q => h.session.recordOf h.final (q + n)) &&
        t.log.closed[l.closed.length + n]? == some { h.session with merged := Merged.none } &&
        rest (t.outlet o) == { x with held := none, state := if x.interlocks.plug then .cabled else .vacant }
    else t.outlet o == { s.outlet o with meter := (t.outlet o).meter }

/-- The session `r` of an outlet, the only one an event closes, has been closed with `cause`: the whole of R22, R168
and R174. -/
def State.hasClosed (t s : State) (o : OutletId) (r : Session) (cause : EndCause) : Bool :=
  t.hasClosedOne s [o] o r cause && t.hasPlaced s.log 1

/-- A capacity decrease of an outlet to `kW` (R62, R63). In descending module number, a member in PRECHARGING to RUNNING
is surplus while those below it still reach `kW`. A surplus member that does not run is stopped; one that runs is
released where the power record is within what the members kept can carry, and marked otherwise; every other member
loses its mark alone. A request that waits asks for what the members are short of. -/
def State.hasDecreased (t s : State) (o : OutletId) (kW : Nat) : Bool :=
  let total (ms : List (Fin 8)) : Nat := (ms.map fun m => (s.module m).rating).sum
  let members := (s.group o).filter fun m =>
    [.precharging, .selfTest, .standby, .running].contains (s.module m).state
  let isSurplus (m : Fin 8) : Bool := members.contains m && kW ≤ total (members.filter (· < m))
  let carriers := members.filter fun m =>
    !isSurplus m && [.standby, .running].contains (s.module m).state
  let power := (s.outlet o).power
  let releases : Bool := power.validity != .invalid && power.p ≤ (total carriers * 900 : Nat)
  t.admitted o == kW &&
    (match t.request o with
      | none => true
      | some q => (s.request o).isSome && q.kind == .topUp && q.wanted != 0 && q.wanted == kW - total members) &&
    (s.group o).all fun m =>
      let k := s.module m
      let k' := t.module m
      if !isSurplus m then { k' with share := 0 } == { k with releasePending := false, share := 0 }
      else if k.state != .running then
        k'.group.isNone && k'.state == (if k.service then .outOfService else .off) && k'.share == 0 &&
          k'.command == some .stop
      else if releases then
        k'.group == some o && k'.state == .releasing && !k'.releasePending &&
          k'.drain == some (2 * Config.ticksPerSecond) && k'.drainCount == 0 && k'.releaseShare == k.share
      else k' == { k with releasePending := true }

/-- The effect MODULE SERVICE has on a module by its state, with its service flag Set (R64). -/
def Module.servicedAs (m m' : Module) : Bool :=
  m'.service &&
    match m.state with
    | .running => m'.state == .releasing && m'.group == m.group && m'.drain == some (2 * Config.ticksPerSecond)
        && m'.releaseShare == m.share && m'.drainCount == 0 && !m'.releasePending
    | .releasing => m' == { m with service := true, share := m'.share }
    | _ => m'.state == .outOfService && m'.rest.isNone

/-- What a trip or an ending does not touch on its own outlet: announcement, interval, held record, measurement and
meter figures. -/
def Outlet.apart (x : Outlet) : Outlet :=
  { Outlet.blank with
    announcement := x.announcement, interval := x.interval, held := x.held, cable := x.cable, ship := x.ship
    power := x.power, meter := x.meter }

/-- An event at one outlet leaves the others: their records, breakers and measurement, the modules outside the
outlet's group (but for grants), and the common parts. -/
def State.leavesOthers (t s : State) (o : OutletId) : Bool :=
  allOutlets.all (fun q => q == o || (t.outlet q).kept == (s.outlet q).kept) &&
    allModules.all (fun m => (s.module m).group == some o || (s.module m).keptBy (t.module m)) &&
    t.common == s.common

/-- The trip count and the last trip cause of an outlet's session have been written, and TRIP_NOTICE waits for the
ship where the link is UP and the queue had room (R15, R16). -/
def State.hasNoted (t s : State) (o : OutletId) (cause : TripCause) : Bool :=
  ((t.outlet o).session == (s.outlet o).session.map fun r =>
      { r with tripCount := min 65535 (r.tripCount + 1), lastTrip := some cause }) &&
    (!(t.outlet o).link.up || !(s.outlet o).link.hasRoom ||
      (t.outlet o).link.queue.contains (.tripNotice cause))

/-- The whole of R15 at an outlet between `s` and `t`, but for the breakers. -/
def State.hasTripped (t s : State) (o : OutletId) (cause : TripCause) : Bool :=
  let x := t.outlet o
  x.state == .tripped && t.hasNoted s o cause && x.energiseTimer.isNone && x.check.state == .inactive &&
    x.check.syncTimer.isNone && x.check.feedbackTimer.isNone && x.check.attempts == 0 &&
    !x.check.windowAsked && x.handover.parallelTimer.isNone && x.handover.overloadTimer.isNone &&
    x.reference.mode == .stopped && x.reference.pending.isNone && x.reference.setpoint == 0 &&
    x.reference.word == 0 && t.group o == [] && (t.request o).isNone && x.limit == 0 &&
    (t.status.get (.outlet o)).conditions.contains .tripped && x.apart == (s.outlet o).apart

/-- What the unit does with an outlet's breakers at a loss, by the state of each channel (R30, R35, R38, R39); of a
PB in STUCK it is the model's choice (log entry 52). -/
def Outlet.openedOnLoss (x y : Outlet) : Bool :=
  (match x.sb.channel with
    | .closing => y.sb == { x.sb with channel := .opened, closeTimer := none }
    | .closed => y.sb == { x.sb with channel := .opening, openTimer := some (200 * Config.ticksPerMs) }
    | _ => y.sb == x.sb) &&
  (match x.pb.channel with
    | .closePulse => y.pb.channel == .tripPulse && y.pb.tripTimer == some (200 * Config.ticksPerMs) &&
        y.pb.afterClose && y.pb.closeTimer.isNone
    | .idle =>
      if x.pb.feedback then y.pb.channel == .tripPulse && y.pb.tripTimer == some (200 * Config.ticksPerMs) &&
        !y.pb.afterClose
      else y.pb == x.pb
    | .stuck => y.pb.channel == .tripPulse && y.pb.tripTimer == some (200 * Config.ticksPerMs) &&
        !y.pb.afterClose
    | .tripPulse => y.pb == x.pb)

/-- A module reported or found faulty (R50, R53): it leaves its group FAULTED with the code, STOP due to it. Where
its outlet keeps a member to run on, the outlet's state stands and a shortfall of committed rating waits as a
request; where it does not, the outlet trips with NO_MODULES. -/
def State.hasFaulted (t s : State) (m : Fin 8) (o : OutletId) (code : FaultCode) : Bool :=
  let x := s.outlet o
  let k := t.module m
  let others := (s.group o).filter (· != m)
  let preparing := x.state == .energising && x.phase == some .prepare
  let supplies := if preparing then !others.isEmpty
    else others.any fun j => (s.module j).state == .standby || (s.module j).state == .running
  k.state == .faulted && k.group.isNone && k.lastFault == some code && k.share == 0 && k.rest.isNone &&
    k.precharge.isNone && k.selfTest.isNone && k.drain.isNone && k.command == some .stop &&
    (!x.state.supplied || (if supplies then
        (t.outlet o).state == x.state && (t.outlet o).session == x.session && (t.outlet o).pb == x.pb &&
          (t.admitted o ≤ t.committedUnmarked o || (t.request o).isSome)
      else t.hasTripped s o .noModules && !t.sbCommand o && (t.outlet o).pb.channel == .tripPulse)) &&
    t.leavesOthers s o

/-- A link's delimiter returned to HUNTING, with its counts replaced. -/
def ShipLink.hunting (l : ShipLink) (counts : LinkCounts) : ShipLink :=
  { l with assembling := none, gapTimer := none, counts := counts }

/-- What a link that was UP leaves when it goes DOWN (R124, R131, R134, R150): its timers stopped, its FIFO and
queue emptied, the ship status discarded; ANNOUNCED returns to CABLED, TRANSFER_IN separates with
TRANSFER_LINK_LOST, SYNCHRONISING is left or is to be left, and every other state stands. -/
def State.hasLostLink (t s : State) (o : OutletId) (cause : DownCause) : Bool :=
  let x := s.outlet o
  let y := t.outlet o
  !y.link.up && y.link.lastDown == some cause && y.link.fifo.isEmpty && y.link.queue.isEmpty &&
    y.link.watchdog.isNone && y.link.statusTimer.isNone && !y.link.sending && y.handover.shipStatus.isNone &&
    !(t.status.get (.outlet o)).conditions.contains .linkUp && y.session == x.session && y.sb == x.sb &&
    (match x.state with
      | .announced => y.state == .cabled && y.announcement.isNone
      | .transferIn => y.state == .separating && y.pb.channel == .tripPulse && y.handover.parallelTimer.isNone &&
          y.handover.lastSeparation == some .linkLost && t.hasRaised s o .transferLinkLost
      | .synchronising =>
        match x.check.state with
        | .evaluating => y.state == .cableLive && y.check.state == .inactive &&
            y.check.outcome == some .linkLost && y.handover.lastSeparation == some .linkLost &&
            t.hasRaised s o .syncLinkLost
        | .closing => y.state == .synchronising && y.check.state == .recovering &&
            y.check.notedExit == some (x.check.notedExit.getD .linkLost) && y.pb.channel == .tripPulse
        | .recovering => y.state == .synchronising && y.check.state == .recovering &&
            y.check.notedExit == some (x.check.notedExit.getD .linkLost)
        | .inactive => y.state == .synchronising
      | st => y.state == st && y.pb == x.pb) &&
    t.leavesOthers s o && t.follows s

/-- A channel after a run of stamped samples, and whether it accepted none of them as a crossing. -/
def Channel.takes (c : Channel) (nominal : Nat) : List (Timestamp × ChannelSample) → Channel × Bool
  | [] => (c, true)
  | y :: rest =>
    let r := c.take nominal y.1 y.2
    let later := r.1.takes nominal rest
    (later.1, r.2.isNone && later.2)

/-- The state as a frame service leaves it before the frame acts: the oldest frame of the FIFO removed (R121). -/
def State.served (s : State) (o : OutletId) : State :=
  s.modifyLink o fun l => { l with fifo := l.fifo.drop 1 }

/-- The state after bytes that arrive from the ship one by one, each a character received well (R116). -/
def State.receive (s : State) (o : OutletId) : List Byte → State
  | [] => s
  | b :: rest =>
    match exec (.shipCharacter o { byte := b, framingError := false }) s with
    | .next t => t.receive o rest
    | _ => s

end Sys2Proof.Machine
end

