-- ==== Sys2Proof/Certificates/Slice0/Obligations.lean ====
section
/-! DEFINITION. The statements about the HZ-3B, for the provers. -/

open Sys2Proof Sys2Proof.Machine

/-! ### The queue of commands, reset and power -/

/-- A step runs the command at the front of the queue with the rest waiting; on an empty queue the block idles.
The idling is the model's choice (log entry 5): the manual has no row for a tick. A command acts on everything
but the queue of the commands that wait. -/
def Obligations.StepRunsFrontCommand : Prop :=
  ((∀ (s : State) (c : Instr) (rest : List Instr),
    s.pending = c :: rest → step s = exec c { s with pending := rest }) ∧
  ∀ s : State, s.pending = [] → step s = .next s) ∧
  (∀ (c : Instr) (s t : State), exec c s = .next t → t.pending = s.pending)

/-- Every well-formed command answers a next state in every state, and an ill-formed one names no event of the
part (log entry 36, the model's choice). A part that does not run takes no sample, runs no timer and receives no
character: a command other than those of supply, RST# and start-up changes nothing (log entry 6, read from R43,
R66, R191 and R192), but for the receiver of a ship link during start-up (R130), which changes that link alone.
-/
def Obligations.CommandsComplete : Prop :=
  (∀ (c : Instr) (s : State),
    (c.wellFormed = true → ∃ t, exec c s = .next t) ∧
      (c.wellFormed = false → exec c s = .fault .notAnEvent)) ∧
  ((∀ (c : Instr) (s : State), s.phase ≠ .running → c.isPowerRow = false → c.wellFormed = true →
    (s.phase = .startingUp → c.isReceiverRow = false) → exec c s = .next s) ∧
  ∀ s : State, s.phase = .startingUp → s.atRest = true → ∀ (o : OutletId) (ch : Received) (f : RawFrame),
    ∀ c ∈ [Instr.shipCharacter o ch, .frameGapTimeout o, .lineBreak o, .frameComplete o f], c.wellFormed = true →
      ∃ t, exec c s = .next t ∧ t = s.modifyLink o (fun _ => (t.outlet o).link) ∧ t.atRest = true ∧
        (t.outlet o).link.up = false ∧ (t.outlet o).link.fifo = [])

/-- The values the manual gives for power-on on a blank retained store, outlet by outlet and block by block. -/
def Obligations.ResetState : Prop :=
  let s := State.reset
  (∀ o : OutletId,
    (s.outlet o).state = .vacant ∧ (s.outlet o).session = none ∧ (s.outlet o).held = none ∧
      (s.outlet o).announcement = none ∧
      (s.outlet o).interlocks = { plug := false, pilot := false, earth := false, estop := false } ∧
      s.sbCommand o = false ∧ s.pbClose o = false ∧ s.pbTrip o = false ∧ s.window o = false ∧
      (s.outlet o).sb.channel = .opened ∧ (s.outlet o).pb.channel = .idle ∧
      (s.outlet o).limit = 0 ∧ (s.outlet o).reference.mode = .stopped ∧
      (s.outlet o).reference.accumulator = 0 ∧ (s.outlet o).check.state = .inactive ∧
      (s.outlet o).cable.record.validity = .invalid ∧ (s.outlet o).ship.record.validity = .invalid ∧
      (s.outlet o).link.up = false ∧ (s.outlet o).link.fifo = [] ∧ (s.outlet o).link.queue = [] ∧
      (s.outlet o).handover.parallelTimer = none ∧ (s.outlet o).handover.overloadTimer = none ∧
      (s.outlet o).meter.importTotal = 0 ∧ (s.outlet o).meter.releasedImport = 0) ∧
  (∀ m : Fin 8,
    (s.module m).state = .off ∧ (s.module m).rest = some (30 * Config.ticksPerSecond) ∧
      (s.module m).rating = 2500 ∧ (s.module m).signature = 0 ∧ (s.module m).group = none ∧
      (s.module m).answering = false) ∧
  s.grants = [] ∧ s.budgetOver = false ∧ s.gridLimit = 0 ∧ s.clock = none ∧ s.pendingTariff = none ∧
  s.tariff.length = 15 ∧ s.tariff.demandPrice = 0 ∧ s.log.records = [] ∧ s.log.next = some 1 ∧
  s.log.threshold = 1792 ∧ s.log.closed = [] ∧ s.sessionCounter = 0 ∧
  (∀ n : Fin 10, s.profile n = Profile.default) ∧ s.terminal.queue = [] ∧ s.terminal.reply = none ∧
  s.status.errors = [] ∧ s.status.attention = [] ∧ s.attention = false ∧ s.pending = []

/-- The power-on state meets every invariant stated below. -/
def Obligations.ResetMeetsInvariants : Prop :=
  State.reset.sound = true ∧ State.reset.referencesSound = true ∧ State.reset.accounts = true ∧
    State.reset.timersSound = true ∧ State.reset.bounded = true ∧
    State.reset.tariffsSound = true ∧ State.reset.clock.all (·.isReading) = true ∧ (exec .startUpComplete State.reset = .next State.reset.startUp ∧
    State.reset.startUp.ready = true)

/-- A loss of power, power-on and an assertion of RST# leave the retained store as it was and every block at its
after-reset values, with no breaker commanded; a release of RST# begins start-up (R5, R43), and start-up sends
STOP to every module (R66). RST# on a part without supply is the model's choice (log entry 45). RESET (R191,
R66): the retained store and the status unit are kept, the lines are discarded, and every other block takes its
after-reset values with every breaker's command removed and STOP sent to every module. -/
def Obligations.PowerRowsKeepRetainedStore : Prop :=
  (∀ s : State,
    (∃ t, exec .powerLoss s = .next t ∧ t.phase = .off ∧ t.retained = s.retained ∧ t.isReset = true ∧
      t.status = StatusUnit.reset ∧ t.terminal = Terminal.reset ∧ t.clock = none ∧
      ∀ o, t.sbCommand o = false ∧ t.pbClose o = false) ∧
    (∃ t, exec .powerOn s = .next t ∧ t.phase = (if s.rstLow then .inReset else .startingUp) ∧
      t.restart = .cold ∧ t.retained = s.retained ∧ t.isReset = true ∧ t.status = StatusUnit.reset ∧
      t.terminal = Terminal.reset ∧ t.clock = none ∧
      (s.rstLow = false → ∀ m, (t.module m).message = some { command := some .stop, reference := none, share := 0 })) ∧
    (∃ t, exec .rstAsserted s = .next t ∧ t.rstLow = true ∧
      (s.phase = .off → t = { s with rstLow := true }) ∧
      (s.phase ≠ .off → t.phase = .inReset ∧ t.restart = .cold ∧ t.retained = s.retained ∧
        t.isReset = true ∧ t.status = StatusUnit.reset ∧ t.terminal = Terminal.reset ∧ t.clock = none ∧
        ∀ o, t.sbCommand o = false ∧ t.pbClose o = false)) ∧
    (s.phase = .inReset → exec .rstReleased s = .next { s with
      rstLow := false, phase := .startingUp
      modules := s.modules.map fun m =>
        { m with message := some { command := some .stop, reference := none, share := 0 } } }) ∧
    (s.phase ≠ .inReset → exec .rstReleased s = .next { s with rstLow := false })) ∧
  (∀ s : State, s.ready = true →
    ∃ t, exec .reset s = .next t ∧ t.phase = .startingUp ∧ t.retained = s.retained ∧ t.isReset = true ∧
      t.status = s.status ∧ t.terminal = { Terminal.reset with lastReply := some (.ok "" []) } ∧
      t.clock = none ∧ t.restart = .order s.codes ∧
      (∀ m, (t.module m).message = some { command := some .stop, reference := none, share := 0 }) ∧
      ∀ o, t.sbCommand o = false ∧ t.pbClose o = false)

/-- The completion of start-up. With no session left open nothing changes but the phase, the status unit and the
hold of the modules' commands to STOP, which ends (R66); after power-on or RST# the conditions are taken with no
transition (R198); and every session that was open is closed with end cause RESET, in ascending order of session
number, each billed and priced, with its FINAL interval, and placed while the log and the closed-session queue
have room, or held (R22, R24, R168, R172, R174). What a FINAL interval that never opened carries is the model's
reading (log entry 30, DEDUCED), as is that a placed record's merged figures are zero (log entry 46, DEDUCED).
-/
def Obligations.StartUpClosesOpenSessions : Prop :=
  ∀ s : State, s.phase = .startingUp → s.atRest = true →
    ((∀ o, (s.outlet o).session = none) →
      ∃ t, exec .startUpComplete s = .next t ∧
        t = { s with phase := .running, status := t.status, modules := s.modules.map fun m => { m with command := none } } ∧
        t.stated = true ∧ t.status.settings = s.status.settings ∧
        (s.restart = .cold → ∀ g, (t.status.get g).counts = (s.status.get g).counts)) ∧
    (s.accounts = true →
      let closing := allOutlets.filter fun o => (s.outlet o).session.isSome
      ∃ t, exec .startUpComplete s = .next t ∧ t.phase = .running ∧ t.stated = true ∧
        (∀ (o : OutletId) (r : Session), (s.outlet o).session = some r →
          t.hasClosedOne s closing o r .reset = true) ∧
        (∀ o, (s.outlet o).session = none → t.outlet o = s.outlet o) ∧
        t.hasPlaced s.log closing.length = true ∧
        t = { s with
          phase := .running, outlets := t.outlets, log := t.log, status := t.status
          modules := s.modules.map fun m => { m with command := none } })

/-! ### The terminal link and the status unit -/

/-- TL_CHARACTER (R183): a bad character marks the line, another joins it while it holds fewer than 128
characters, and marks it too long otherwise. That a bad character beyond the 128th marks the line bad alone is
the model's (log entry 72, DESIGN CHOICE), and so is that a carriage return or line feed with a framing error
does (log entry 77, DESIGN CHOICE); and a character joins the line after start-up though the line began before
it (log entry 83, DESIGN CHOICE). TL_LINE_END (R183, R184): an empty line is discarded, a line joins a busy
interpreter's queue of four or is dropped with INPUT OVERFLOW, and an idle interpreter takes it at once. A line
of spaces alone counts as empty, but not where it carries a mark (log entry 25, the model's reading). REPLY_SENT
(R184): the interpreter is idle once the reply has left, and takes the oldest line that waits. -/
def Obligations.TerminalLinkTakesLines : Prop :=
  (∀ (s : State) (ch : Received), s.ready = true → ch.isTerminator = false →
    ((ch.framingError = true ∨ ch.byte.toNat < 0x20 ∨ 0x7E < ch.byte.toNat) →
      exec (.tlCharacter ch) s =
        .next { s with terminal := { s.terminal with line := { s.terminal.line with bad := true } } }) ∧
    (ch.framingError = false → 0x20 ≤ ch.byte.toNat → ch.byte.toNat ≤ 0x7E →
      (s.terminal.line.chars.length < 128 →
        exec (.tlCharacter ch) s =
          .next { s with terminal := { s.terminal with line := { s.terminal.line with
            chars := s.terminal.line.chars ++ [Char.ofNat ch.byte.toNat] } } }) ∧
      (128 ≤ s.terminal.line.chars.length →
        exec (.tlCharacter ch) s =
          .next { s with terminal := { s.terminal with line := { s.terminal.line with tooLong := true } } }))) ∧
  (∀ s : State, s.ready = true →
    let l := s.terminal.line
    let s' := { s with terminal := { s.terminal with line := Line.empty } }
    (l.isBlank = true → exec .tlLineEnd s = .next s') ∧
    (l.isBlank = false →
      (4 ≤ s.terminal.queue.length → exec .tlLineEnd s = .next (s'.pushError 300 "INPUT OVERFLOW")) ∧
      (s.terminal.queue.length < 4 → s.terminal.isBusy = true →
        exec .tlLineEnd s =
          .next { s' with terminal := { s'.terminal with queue := s.terminal.queue ++ [l] } }) ∧
      (s.terminal.queue = [] → s.terminal.isBusy = false →
        exec .tlLineEnd s = atEvent (·.takeLine l) s'))) ∧
  (∀ s : State, s.ready = true →
    let s' := { s with terminal := { s.terminal with reply := none } }
    (s.terminal.reply = none → exec .replySent s = .next s) ∧
    (s.terminal.reply.isSome = true →
      ((s.terminal.queue = [] ∨ s.terminal.awaiting.isSome = true) → exec .replySent s = .next s') ∧
      (s.terminal.awaiting = none → ∀ (l : Line) (rest : List Line), s.terminal.queue = l :: rest →
        exec .replySent s =
          atEvent (·.takeLine l) { s' with terminal := { s'.terminal with queue := rest } })))

/-- A line as the interpreter takes it: the order it names, or the refusal of the first check it fails (R183,
R185). That the order's effect is that of the order's own command, at the same event, is the model's choice (log
entry 8), and how the line's tokens and arguments are read rests on log entries 24 and 26 (DEDUCED), 66, 82 and
86 to 88 (DESIGN CHOICE). Whatever a line says, the interpreter reads from it an order of the catalogue or one
of the codes of R185's checks 2 to 4: no line reaches a pin, a timer or a ship frame. -/
def Obligations.TakenLineRunsItsOrder : Prop :=
  (∀ (s : State) (l : Line), s.ready = true →
    (l.tooLong = true → atEvent (·.takeLine l) s = .next (s.refuse 100 "LINE TOO LONG")) ∧
    (l.tooLong = false → l.bad = true → atEvent (·.takeLine l) s = .next (s.refuse 100 "BAD CHARACTER")) ∧
    (l.tooLong = false → l.bad = false →
      (∀ i, readLine l.chars = .ok i → atEvent (·.takeLine l) s = exec i s) ∧
      (∀ code, readLine l.chars = .error code → atEvent (·.takeLine l) s = .next (s.no code)))) ∧
  (∀ chars : List Char,
    (∀ i, readLine chars = .ok i → i.isOrder = true) ∧
      ∀ code, readLine chars = .error code → code ∈ [100, 110, 120])

/-- A NO reply changes the reply, the error queue and ERROR_QUEUED, and nothing else: of the status unit every
filter, mask and other error, every other group, and of the group PART everything but the level, the latch and
the count of ERROR_QUEUED stand; the part is settled after it (R187, R193, R197). -/
def Obligations.RefusalEntersErrorQueue : Prop :=
  ∀ (s : State) (code : Nat) (text : String), s.ready = true →
    let t := s.refuse code text
    t = { s with terminal := { s.terminal with
            reply := some (.no code text), lastReply := some (.no code text) }, status := t.status } ∧
      t.status.errors =
        (if s.status.errors.length < 16 then s.status.errors ++ [(code, text)]
         else s.status.errors.dropLast ++ [(399, "QUEUE OVERFLOW")]) ∧
      t.status.part.conditions.contains .errorQueued = true ∧ t.status.filters = s.status.filters ∧
      t.status.attention = s.status.attention ∧ t.status.groups = s.status.groups ∧
      t.status.part.enabled = s.status.part.enabled ∧ t.status.part.lastState = s.status.part.lastState ∧
      (∀ x ∈ Group.part.items, x ≠ .errorQueued →
        t.status.part.conditions.contains x = s.status.part.conditions.contains x ∧
          t.status.part.count x = s.status.part.count x) ∧
      t.status.part.count .errorQueued =
        (if s.status.part.conditions.contains .errorQueued = false ∧
            (s.status.filterOf .errorQueued = .rise ∨ s.status.filterOf .errorQueued = .both)
          then min 255 (s.status.part.count .errorQueued + 1) else s.status.part.count .errorQueued) ∧
      t.ready = true

/-- The status unit's answer to its owners (R193): a condition reported at the level it holds changes nothing;
one reported at the other level takes it, and is latched and counted when its filter selects the change; an
event raised is latched and counted. Nothing else of the unit moves. -/
def Obligations.ReportsFollowFilters : Prop :=
  ∀ (s : State) (g : Group) (x : Item),
    (∀ level : Bool,
      ((s.status.get g).conditions.contains x = level → s.report g x level = s) ∧
      (x ∈ g.conditions → (s.status.get g).conditions.contains x = !level →
        let u := (s.report g x level).status
        let selected := s.status.filterOf x = .both ∨ s.status.filterOf x = (if level then .rise else .fall)
        s.report g x level = { s with status := u } ∧ (u.get g).conditions.contains x = level ∧
          (∀ y ∈ g.conditions, y ≠ x →
            (u.get g).conditions.contains y = (s.status.get g).conditions.contains y) ∧
          (selected → (u.get g).count x = min 255 ((s.status.get g).count x + 1)) ∧
          (¬selected → (u.get g).counts = (s.status.get g).counts) ∧
          (∀ y ∈ g.items, y ≠ x → (u.get g).count y = (s.status.get g).count y) ∧
          (∀ k, k ≠ g → u.get k = s.status.get k) ∧
          (u.get g).lastState = (s.status.get g).lastState ∧ u.settings = s.status.settings)) ∧
    (x ∈ g.items →
      let u := (s.raise g x).status
      s.raise g x = { s with status := u } ∧ (u.get g).count x = min 255 ((s.status.get g).count x + 1) ∧
        (∀ y ∈ g.items, y ≠ x → (u.get g).count y = (s.status.get g).count y) ∧
        (u.get g).conditions = (s.status.get g).conditions ∧ (∀ k, k ≠ g → u.get k = s.status.get k) ∧
        (u.get g).lastState = (s.status.get g).lastState ∧ u.settings = s.status.settings)

/-! ### Orders: refusals and queries -/

/-- An argument that no check after the form allows is refused with 120 and changes nothing but the reply and
the error queue (R8, R25, R65, R165, R176, R178, R185, R189, R195, R196; the table of section 11.3). The orders
that find nothing to act on, or find their object in a state that forbids them (R61, R64, R65, R176, R177, R178,
R181). -/
def Obligations.BadOrdersRefused : Prop :=
  (∀ s : State, s.ready = true →
    (∀ (p : Option Nat) (kW : Nat) (v a : Option Text),
      exec (.admitVessel none p kW v a) s = .next (s.no 120)) ∧
    (∀ c ∈ [Instr.endSession none, .endForce none, .resume none, .shipback none, .outletQuery none,
        .sessionQuery none, .measQuery none, .linkTest none, .linkQuery none, .linkClear none,
        .eventsQuery none],
      exec c s = .next (s.no 120)) ∧
    (∀ kW : Nat, exec (.capacity none kW) s = .next (s.no 120)) ∧
    (∀ (o : OutletId) (p : Option Nat) (kW : Nat) (v a : Option Text),
      (9 < p.getD 0 ∨ textAllowed 16 v = false ∨ textAllowed 12 a = false) →
        exec (.admitVessel (some o) p kW v a) s = .next (s.no 120)) ∧
    (∀ n : Nat, n = 0 ∨ 8 < n →
      exec (.moduleService n) s = .next (s.no 120) ∧ exec (.moduleReturn n) s = .next (s.no 120) ∧
        exec (.moduleQuery n) s = .next (s.no 120)) ∧
    (∀ n sig r : Nat, n = 0 ∨ 8 < n ∨ 4294967295 < sig →
      exec (.signature n sig r) s = .next (s.no 120)) ∧
    (∀ (n : Nat) (f : Option ProfileField) (x : Nat), 9 < n ∨ f = none →
      exec (.profileSet n f x) s = .next (s.no 120)) ∧
    (∀ n : Nat, 9 < n →
      exec (.profileDefault n) s = .next (s.no 120) ∧ exec (.profileQuery n) s = .next (s.no 120)) ∧
    (∀ (b p : Nat) (w : WindowArg), 3 < b ∨ (b = 0 ∧ w ≠ .keep) →
      exec (.tariffBand b p w) s = .next (s.no 120)) ∧
    (∀ n : Nat, n ∉ [5, 10, 15, 30, 60] → exec (.tariffInterval n) s = .next (s.no 120)) ∧
    (∀ a b : Nat, a = 0 ∨ 4294967295 < a ∨ b = 0 ∨ 4294967295 < b →
      exec (.logWindow a b) s = .next (s.no 120)) ∧
    (∀ n : Nat, n = 0 ∨ 4294967295 < n → exec (.logRelease n) s = .next (s.no 120)) ∧
    (∀ (x : Option Item) (f : Filter), x.any (·.isCondition) = false →
      exec (.filter x f) s = .next (s.no 120)) ∧
    (∀ xs : List (Option Item), exec (.enable none xs) s = .next (s.no 120)) ∧
    (∀ (g : Group) (x : Option Item), x.any (g.items.contains ·) = false →
      exec (.enable (some g) [x]) s = .next (s.no 120)) ∧
    (∀ gs : List (Option Group), none ∈ gs → exec (.attn gs) s = .next (s.no 120)) ∧
    (∀ y m d h i j : Nat,
      (y < 2000 ∨ 9999 < y ∨ m = 0 ∨ 12 < m ∨ d = 0 ∨ daysIn y m < d ∨ 23 < h ∨ 59 < i ∨ 59 < j) →
        exec (.time y m d h i j) s = .next (s.no 120))) ∧
  (∀ s : State, s.ready = true →
    (∀ m : Fin 8,
      (s.isLastModule m = true → exec (.moduleService (m.val + 1)) s = .next (s.no 250)) ∧
      ((s.module m).state.isMember = true →
        (∀ sig r, sig ≤ 4294967295 → exec (.signature (m.val + 1) sig r) s = .next (s.no 200)) ∧
        ((s.module m).state ≠ .releasing ∨ (s.module m).service = false →
          exec (.moduleReturn (m.val + 1)) s = .next (s.no 200))) ∧
      ((s.module m).state = .off → exec (.moduleReturn (m.val + 1)) s = .next (s.no 200))) ∧
    (s.log.records = [] →
      (∀ a b, 1 ≤ a → a ≤ 4294967295 → 1 ≤ b → b ≤ 4294967295 →
        exec (.logWindow a b) s = .next (s.no 270)) ∧
      ∀ n, 1 ≤ n → n ≤ 4294967295 → exec (.logRelease n) s = .next (s.no 270)) ∧
    (∀ lo hi, s.log.oldest = some lo → s.log.newest = some hi →
      (∀ a b, 1 ≤ a → a ≤ 4294967295 → 1 ≤ b → b ≤ 4294967295 → min hi b < max lo a →
        exec (.logWindow a b) s = .next (s.no 120)) ∧
      ∀ n, 1 ≤ n → n ≤ 4294967295 → n < lo ∨ hi < n → exec (.logRelease n) s = .next (s.no 270)) ∧
    (s.log.window = none → exec .logRead s = .next (s.refuse 270 "NO WINDOW")) ∧
    (s.log.closed = [] →
      exec .closedRead s = .next (s.no 270) ∧ exec .closedRelease s = .next (s.no 270)) ∧
    (∀ (o : OutletId) (kW : Nat), (s.outlet o).state.supplied = true → 1 ≤ kW → kW ≤ 60000 →
      s.admitted o < kW → s.gridLimit < s.claims - s.claim o + min kW (s.committed o) →
        exec (.capacity (some o) kW) s = .next (s.refuse 200 "NO BUDGET")))

/-- The refusals of the table of R25: an outlet order taken in a state that does not allow it changes nothing
but the reply and the error queue. The checks of R8 in their order on an ADMIT whose arguments are allowed: the
first that fails gives the reply, and a refused ADMIT changes nothing but the reply and the error queue. -/
def Obligations.WrongStateRefused : Prop :=
  (∀ (s : State) (o : OutletId), s.ready = true →
    let st := (s.outlet o).state
    ((st = .vacant ∨ st = .cabled ∨ st = .announced) →
      (∀ c ∈ [Instr.endSession (some o), .endForce (some o), .resume (some o), .shipback (some o)],
        exec c s = .next (s.no 220)) ∧
      ∀ kW, exec (.capacity (some o) kW) s = .next (s.no 220)) ∧
    (st = .held →
      (∀ c ∈ [Instr.endSession (some o), .endForce (some o), .resume (some o), .shipback (some o),
          .linkTest (some o)], exec c s = .next (s.no 210)) ∧
      ∀ kW, exec (.capacity (some o) kW) s = .next (s.no 210)) ∧
    ((st = .transferIn ∨ st = .shoreSupply ∨ st = .transferOut ∨ st = .separating) →
      exec (.endSession (some o)) s = .next (s.no 260)) ∧
    (st = .deEnergising → exec (.endSession (some o)) s = .next (s.no 200)) ∧
    (st.within .admitted .deEnergising = true → exec (.resume (some o)) s = .next (s.no 200)) ∧
    (st = .tripped → s.interlocksGood o = false → exec (.resume (some o)) s = .next (s.no 230)) ∧
    ((st = .deEnergising ∨ st = .tripped) → ∀ kW, exec (.capacity (some o) kW) s = .next (s.no 200)) ∧
    (st.within .admitted .tripped = true → st ≠ .shoreSupply →
      exec (.shipback (some o)) s = .next (s.no 200)) ∧
    (st.within .admitted .tripped = true → exec (.linkTest (some o)) s = .next (s.no 200)) ∧
    ((s.outlet o).session = none → (s.outlet o).held = none →
      exec (.sessionQuery (some o)) s = .next (s.no 220))) ∧
  (∀ s : State, s.ready = true → ∀ (o : OutletId) (p : Option Nat) (kW : Nat) (v a : Option Text),
    p.getD 0 ≤ 9 → textAllowed 16 v = true → textAllowed 12 a = true →
    let x := s.outlet o
    let waits := x.state = .cabled ∨ x.state = .announced
    let profile := s.profileAt (x.chosenProfile p)
    let c := Instr.admitVessel (some o) p kW v a
    (x.state = .held → exec c s = .next (s.no 210)) ∧
    (x.state ≠ .held → ¬waits → exec c s = .next (s.no 200)) ∧
    (waits → s.interlocksGood o = false → exec c s = .next (s.no 230)) ∧
    (waits → s.interlocksGood o = true →
      (∀ h, x.announcement = some h →
        (h.frequency ≠ profile.nomFreq ∨ profile.toleranceVolts < distance h.voltage profile.nomVolt) →
          exec c s = .next (s.no 240)) ∧
      (x.profileSuits profile = true → 4294967295 ≤ s.sessionCounter →
        exec c s = .next (s.refuse 200 "NO NUMBER"))))

/-- The query orders answer what the part holds and change nothing but the reply (R27, R59, R65, R83, R92, R114,
R128, R153, R158, R164, R169, R179, R181, R190, R195). The names of the reply pairs are the model's spelling of
the rules' words (log entry 22, PRESUMED), as is the text of REFUSED (log entry 23, PRESUMED). The model's too
are that PLACE counts the head of the queue as 1 (log entry 61, DESIGN CHOICE), that MODULE n ? shows the drain
step count through the share alone (log entry 64, DEDUCED), that a HELD validity is written HELD,n (log entry
68, DESIGN CHOICE), that each pair of an absent ship status, and of absent figures, is NONE (log entries 71 and
73, DESIGN CHOICE), and the written forms of a kept LINKTEST result, of an unset clock, of a missing pending
table, of marks and levels, and of a module's own fault code (log entries 74, 75, 76, 78 and 80, DESIGN CHOICE),
and so are the names that tell like figures apart, as MERGED_COUNT_A does (log entry 85, DESIGN CHOICE). -/
def Obligations.QueriesChangeOnlyReply : Prop :=
  ∀ s : State, s.ready = true →
    (s.clock = none → exec .timeQuery s = .next (s.okWord "UNSET")) ∧
    (∀ c, s.clock = some c →
      exec .timeQuery s = .next (s.ok [("READING", .reading c), ("MINUTE_OF_DAY", .number c.minuteOfDay),
        ("BAND", .number (s.tariff.band (some c))),
        ("NEXT_BOUNDARY", .reading (s.tariff.nextBoundary c))])) ∧
    exec .gridQuery s = .next (s.ok [("GRID_IMPORT_LIMIT", .number s.gridLimit),
      ("SUM_OF_CLAIMS", .number s.claims), ("SUM_OF_CAPACITY_LIMITS", .number s.limits),
      ("GRID_IMPORT_POWER", .number s.grid.importPower),
      ("VALIDITY", Value.ofValidity s.grid.channel.record.validity),
      ("FREQUENCY", .number s.grid.channel.record.frequency),
      ("RMS", .number s.grid.channel.record.rms)]) ∧
    (∀ o : OutletId,
      exec (.outletQuery (some o)) s = .next (s.ok (s.statePairs o ++ s.requestPairs o ++ s.checkPairs o ++
        (s.outlet o).handover.pairs ++ (s.outlet o).meter.pairs)) ∧
      (∀ r, (s.outlet o).reported = some r →
        exec (.sessionQuery (some o)) s = .next (s.ok (r.pairs ++
          [("CAPACITY_LIMIT", .number (s.outlet o).limit)] ++ (s.outlet o).intervalPairs))) ∧
      exec (.measQuery (some o)) s = .next (s.ok ((s.outlet o).reference.pairs ++
        (s.outlet o).cable.record.pairs "CABLE" s.timestamp ++
        (s.outlet o).ship.record.pairs "SHIP" s.timestamp ++ (s.outlet o).power.pairs ++
        figurePairs (s.outlet o).check.figures)) ∧
      exec (.linkQuery (some o)) s = .next (s.ok (s.outlet o).link.pairs)) ∧
    (∀ m : Fin 8, exec (.moduleQuery (m.val + 1)) s = .next (s.ok (s.module m).pairs)) ∧
    (∀ n : Fin 10, exec (.profileQuery n.val) s =
      .next (s.ok (("PROFILE_NUMBER", .number n.val) :: (s.profile n).pairs))) ∧
    (s.pendingTariff = none →
      exec .tariffQuery s = .next (s.ok (s.tariff.pairs ++ [("PENDING", .none)]))) ∧
    (∀ p, s.pendingTariff = some p → exec .tariffQuery s = .next (s.ok (s.tariff.pairs ++ p.pairs))) ∧
    exec .logQuery s = .next (s.ok ([("RECORDS", .number s.log.records.length),
        ("OLDEST", Value.ofNat? s.log.oldest), ("NEWEST", Value.ofNat? s.log.newest),
        ("NEXT", Value.ofNat? s.log.next), ("ALMOST_FULL_THRESHOLD", .number s.log.threshold)] ++
      s.windowPairs ++
      [("LOG_ALMOST_FULL", Value.ofMark (s.level .part .logAlmostFull)),
       ("LOG_FULL", Value.ofMark (s.level .part .logFull))] ++ s.mergedPairs ++
      [("CLOSED_SESSIONS", .number s.log.closed.length),
       ("HELD_SESSIONS", .numbers (s.heldOutlets.map fun o => ((s.outlet o).sessionNumber : Int)))])) ∧
    (∀ k rest, s.log.closed = k :: rest → exec .closedRead s = .next (s.ok k.pairs)) ∧
    exec .statusQuery s = .next (s.ok ((allGroups.map fun g =>
        (g.name, Value.ofItems (s.status.get g).conditions)) ++
      [("SUMMARY", Value.ofGroups (allGroups.filter s.status.summary)),
       ("ATTN_MASK", Value.ofGroups s.status.attention),
       ("ATTN", .name (if s.attention then "ASSERTED" else "RELEASED")),
       ("ERRORS", .number s.status.errors.length)]))

/-! ### Orders: sessions and capacity -/

/-- An accepted ADMIT (R4, R7, R9, R54): the next session number, a record as R4 creates it, the announcement
consumed, the initial request at the tail of the grant queue unless it was granted at once, WELCOME appended,
and every other outlet as it was. An accepted RESUME (R17): TRIPPED goes to ADMITTED with a new initial request
for the admitted capacity, or on to ENERGISING where it is granted at once; the session record stands, and
WELCOME is appended. -/
def Obligations.AdmitAndResumeRequestCapacity : Prop :=
  (∀ s : State, s.ready = true → s.sound = true → s.sessionCounter < 4294967295 →
  ∀ o : OutletId, (s.outlet o).session = none →
    ((s.outlet o).state = .cabled ∨ (s.outlet o).state = .announced) → s.interlocksGood o = true →
  ∀ (p : Option Nat) (kW : Nat) (v a : Option Text),
    p.getD 0 ≤ 9 → textAllowed 16 v = true → textAllowed 12 a = true →
    (s.outlet o).profileSuits (s.profileAt ((s.outlet o).chosenProfile p)) = true →
    let n := (s.outlet o).chosenProfile p
    let number := s.sessionCounter + 1
    let given := if kW = 0 then 1 else min kW 60000
    let request : Request := { outlet := o, kind := .initial, wanted := given, wait := 300 * Config.ticksPerSecond }
    ∃ t, exec (.admitVessel (some o) p kW v a) s = .next t ∧ t.sessionCounter = number ∧
      (t.outlet o).session = some
        { number := number, outlet := o
          vessel := if v.isSome then v else (s.outlet o).announcement.map (·.vessel)
          account := a, profileNumber := n, snapshot := s.profileAt n, admitted := given
          startTime := s.clock.map fun c => { c with tenth := 0 }, endTime := none, endCause := none
          importWh := Bands.zero, exportWh := 0, merged := Merged.none, charge := Bands.zero, peak := 0
          peakStart := none, quality := [], closeAttempts := 0, tripCount := 0, lastTrip := none
          totalCharge := none } ∧
      (t.outlet o).announcement = none ∧ (t.outlet o).limit = 0 ∧ (t.outlet o).sb = (s.outlet o).sb ∧
      (t.outlet o).pb = (s.outlet o).pb ∧
      (((t.outlet o).state = .admitted ∧ t.grants = s.grants ++ [request] ∧ t.modules = s.modules) ∨
        ((t.outlet o).state = .energising ∧ (t.outlet o).phase = some .prepare ∧ t.grants = [])) ∧
      (t.outlet o).link = ((s.send o (.welcome number n 0)).outlet o).link ∧
      t.terminal.reply = some (if given = kW then .ok "" [("SESSION_NUMBER", .number number)]
        else .clamped [("SESSION_NUMBER", .number number), ("ADMITTED_CAPACITY", .number given)]) ∧
      (∀ q, q ≠ o → t.outlet q = s.outlet q) ∧ (∀ m, (s.module m).keptBy (t.module m) = true) ∧
      t.common = { s.common with sessionCounter := number, terminal := t.terminal } ∧ t.follows s = true) ∧
  (∀ s : State, s.ready = true → s.sound = true →
  ∀ (o : OutletId) (r : Session), (s.outlet o).session = some r → (s.outlet o).state = .tripped → s.interlocksGood o = true →
    let request : Request :=
      { outlet := o, kind := .initial, wanted := r.admitted, wait := 300 * Config.ticksPerSecond }
    ∃ t, exec (.resume (some o)) s = .next t ∧ t.terminal.reply = some (.ok "" []) ∧
      (t.outlet o).session = some r ∧
      (((t.outlet o).state = .admitted ∧ t.grants = s.grants ++ [request] ∧ t.modules = s.modules) ∨
        ((t.outlet o).state = .energising ∧ (t.outlet o).phase = some .prepare ∧ t.grants = [])) ∧
      (t.outlet o).link =
        ((s.send o (.welcome r.number r.profileNumber (s.outlet o).limit)).outlet o).link ∧
      (t.outlet o).sb = (s.outlet o).sb ∧ (t.outlet o).pb = (s.outlet o).pb ∧
      (∀ q, q ≠ o → t.outlet q = s.outlet q) ∧ (∀ m, (s.module m).keptBy (t.module m) = true) ∧
      t.common = { s.common with terminal := t.terminal } ∧ t.follows s = true)

/-- An accepted END (R18, R21): the request withdrawn, the check inactive, the breakers asked to open by the
state left, and the session closing once the SB reports open. END FORCE in any session state (R19, R21, R132):
both breakers asked to open, the group stopped, the check and the handover cleared. A session that closes is
billed for its FINAL interval and priced, its outlet's accumulators are zero, and it is placed with its FINAL
record or held (R22, R168, R174). What a FINAL interval that never opened carries is the model's reading (log
entry 30, DEDUCED), as is that a placed record's merged figures are zero (log entry 46, DEDUCED). -/
def Obligations.EndOrdersDeEnergise : Prop :=
  (∀ s : State, s.ready = true → s.sound = true → s.accounts = true →
  ∀ (o : OutletId) (r : Session), (s.outlet o).session = some r →
    ((s.outlet o).state.within .admitted .synchronising = true ∨ (s.outlet o).state = .tripped) →
    ∃ t, exec (.endSession (some o)) s = .next t ∧ t.terminal.reply = some (.ok "" []) ∧
      t.request o = none ∧ (t.outlet o).energiseTimer = none ∧ (t.outlet o).check.state = .inactive ∧
      (t.outlet o).check.syncTimer = none ∧ (t.outlet o).check.feedbackTimer = none ∧
      ((s.outlet o).state.within .energising .synchronising = true → t.sbCommand o = false) ∧
      ((s.outlet o).state = .synchronising → (t.outlet o).pb.channel = .tripPulse) ∧
      ((s.outlet o).state ≠ .synchronising → (s.outlet o).pb.channel ≠ .closePulse →
        (t.outlet o).pb = (s.outlet o).pb) ∧
      ((s.outlet o).state = .energising → t.group o = [] ∧ (t.outlet o).limit = 0) ∧
      (if (t.outlet o).sb.feedback = true ∧ (t.outlet o).sb.channel ≠ .stuck then
        (t.outlet o).state = .deEnergising ∧ (t.outlet o).session = some r ∧
          (t.outlet o).endCause = some .ended ∧ t.log = s.log
      else t.hasClosed s o r .ended = true ∧ t.group o = []) ∧
      (∀ q, q ≠ o → (t.outlet q).kept = (s.outlet q).kept) ∧
      (∀ m, (s.module m).group ≠ some o → (s.module m).keptBy (t.module m) = true) ∧
      { t.common with log := s.log } = { s.common with terminal := t.terminal } ∧ t.follows s = true) ∧
  (∀ s : State, s.ready = true → s.sound = true → s.referencesSound = true → s.accounts = true →
  ∀ (o : OutletId) (r : Session), (s.outlet o).session = some r → (s.outlet o).state.inSession = true →
    ∃ t, exec (.endForce (some o)) s = .next t ∧ t.terminal.reply = some (.ok "" []) ∧
      t.request o = none ∧ t.sbCommand o = false ∧ (t.outlet o).pb.channel = .tripPulse ∧
      t.group o = [] ∧ (t.outlet o).limit = 0 ∧ (t.outlet o).reference.mode = .stopped ∧
      (t.outlet o).energiseTimer = none ∧ (t.outlet o).check.state = .inactive ∧
      (t.outlet o).handover.parallelTimer = none ∧ (t.outlet o).handover.overloadTimer = none ∧
      (t.outlet o).handover.aborting = false ∧ (t.outlet o).handover.transferDone = false ∧
      (t.outlet o).handover.returnAccepted = false ∧ (t.outlet o).handover.returnPending = false ∧
      (if (t.outlet o).sb.feedback = true ∧ (t.outlet o).sb.channel ≠ .stuck then
        (t.outlet o).state = .deEnergising ∧ (t.outlet o).session = some r ∧
          (t.outlet o).endCause = some .forced ∧ t.log = s.log
      else t.hasClosed s o r .forced = true) ∧
      (∀ q, q ≠ o → (t.outlet q).kept = (s.outlet q).kept) ∧
      (∀ m, (s.module m).group ≠ some o → (s.module m).keptBy (t.module m) = true) ∧
      { t.common with log := s.log } = { s.common with terminal := t.terminal } ∧ t.follows s = true)

/-- An accepted CAPACITY (R61, R62): the admitted capacity of the session becomes the value given, clamped to 1
to 60,000 kW, the limit does not exceed it, and the reply carries both; an equal value changes nothing. A
decrease in a supplied state recomputes the surplus: what the walk finds is stopped, marked or released (R62,
R63). That the limit of the reply is the one the grants and the budget of the same event leave is the model's
choice (log entry 48). GRID (R59, R60): the limit is replaced, clamped to 60,000 kW. Where the claims stay
within it no session changes. Where they do not, admitted capacities of the outlets in ENERGISING to SEPARATING
are lowered, the most recent admission first, until the claims fit or no such outlet claims more than 1 kW; each
cut acts on its outlet as a capacity decrease (R62, R63), and the reply lists the outlets cut, in their order,
with their new admitted capacities. The names of the reply pairs are the model's (log entry 22, PRESUMED), and
so is that the reply lists the outlets in the order of the cut (log entry 70, DESIGN CHOICE). -/
def Obligations.CapacityOrdersReplaceLimits : Prop :=
  (∀ s : State, s.ready = true → s.sound = true →
  ∀ (o : OutletId) (r : Session), (s.outlet o).session = some r → ∀ kW : Nat,
    let given := if kW = 0 then 1 else min kW 60000
    ((s.outlet o).state = .admitted ∨
      (s.outlet o).state.supplied = true ∧ (given ≤ r.admitted ∨
        s.claims - s.claim o + min given (s.committed o) ≤ s.gridLimit)) →
    ∃ t, exec (.capacity (some o) kW) s = .next t ∧
      (t.outlet o).session = some { r with admitted := given } ∧
      (t.outlet o).limit ≤ min given (t.groupCapacity o) ∧
      t.terminal.reply = some
        (let pairs := [("ADMITTED_CAPACITY", Value.number given), ("CAPACITY_LIMIT", .number (t.outlet o).limit)]
         if given = kW then .ok "" pairs else .clamped pairs) ∧
      ((s.outlet o).state = .admitted → (t.outlet o).state = .admitted →
        ∀ q, t.request o = some q → q.wanted = given) ∧
      ((s.outlet o).state.supplied = true → (t.outlet o).state = (s.outlet o).state) ∧
      ((s.outlet o).state.supplied = true → given = r.admitted →
        t = { s with terminal := t.terminal }) ∧
      ((s.outlet o).state.supplied = true → given < r.admitted → t.hasDecreased s o given = true) ∧
      (∀ q, q ≠ o → (t.outlet q).kept = (s.outlet q).kept) ∧
      (t.outlet o).kept = { (s.outlet o).kept with session := some { r with admitted := given } } ∧
      t.common = { s.common with terminal := t.terminal } ∧ t.follows s = true) ∧
  (∀ s : State, s.ready = true → s.sound = true → ∀ kW : Nat,
    let given := min kW 60000
    ∃ t, exec (.grid kW) s = .next t ∧ t.gridLimit = given ∧
      (s.claims ≤ given →
        (∀ o, (t.outlet o).kept = (s.outlet o).kept) ∧
        t.terminal.reply = some (if given = kW then .ok "" [("GRID_IMPORT_LIMIT", .number given)]
          else .clamped [("GRID_IMPORT_LIMIT", .number given)])) ∧
      (∀ o, t.admitted o ≤ s.admitted o ∧
        (t.outlet o).session = (s.outlet o).session.map fun r => { r with admitted := t.admitted o }) ∧
      (∀ o, (s.outlet o).state.supplied = false → t.admitted o = s.admitted o) ∧
      (t.claims ≤ given ∨ ∀ o, (s.outlet o).state.supplied = true → t.claim o ≤ 1) ∧
      (∀ o q, (s.outlet o).state.supplied = true → t.admitted q < s.admitted q →
        (s.outlet q).sessionNumber < (s.outlet o).sessionNumber → t.claim o ≤ 1) ∧
      (∀ o, t.admitted o < s.admitted o → t.hasDecreased s o (t.admitted o) = true) ∧
      (given < s.claims → given ≤ t.claims ∧ ∃ cut : List OutletId,
        cut.Nodup ∧ (∀ o, o ∈ cut ↔ t.admitted o < s.admitted o) ∧
        cut.Pairwise (fun o q => (s.outlet q).sessionNumber ≤ (s.outlet o).sessionNumber) ∧
        t.terminal.reply = some
          (let pairs := ("GRID_IMPORT_LIMIT", Value.number given) ::
            cut.map fun o => (o.letter, .number (t.admitted o))
           if given = kW then .ok "" pairs else .clamped pairs)) ∧
      t.common = { s.common with gridLimit := given, terminal := t.terminal } ∧ t.follows s = true)

/-! ### Orders: modules, profiles, clock, tariffs -/

/-- MODULE SERVICE on a module that is not the last of a supplied group (R49, R64): the module goes out of
service, a RUNNING member by way of its drain; no session ends and no module outside the group is stopped.
MODULE RETURN (R65): OUT_OF_SERVICE and FAULTED go to OFF with a rest time of 30 s and the last fault code kept;
on a RELEASING member whose service flag is Set it Clears the flag. SIGNATURE on a module that is no member
(R65): signature and rating are replaced, the rating clamped to 500 to 4,000 kW, and the queue examined; no
outlet is changed but by a grant. That the reply carries both values is the model's choice (log entry 62), and
the names of its pairs are the model's (log entry 22, PRESUMED). -/
def Obligations.ModuleOrdersServeAndReturn : Prop :=
  (∀ s : State, s.ready = true → s.sound = true → ∀ m : Fin 8, s.isLastModule m = false →
    ∃ t, exec (.moduleService (m.val + 1)) s = .next t ∧ (s.module m).servicedAs (t.module m) = true ∧
      t.terminal.reply = some (.ok "" [("STATE", .name (t.module m).state.name)]) ∧
      (∀ k, k ≠ m → ((s.module k).group = none ∨ (s.module k).group ≠ (s.module m).group) →
        (s.module k).keptBy (t.module k) = true) ∧
      (∀ o, (s.module m).group ≠ some o → (t.outlet o).kept = (s.outlet o).kept) ∧
      (∀ o, (t.outlet o).session = (s.outlet o).session) ∧
      t.common = { s.common with terminal := t.terminal } ∧ t.follows s = true) ∧
  (∀ s : State, s.ready = true → s.sound = true → ∀ m : Fin 8,
    ((s.module m).state = .outOfService ∨ (s.module m).state = .faulted →
      ∃ t, exec (.moduleReturn (m.val + 1)) s = .next t ∧
        t = { s.answer (.ok "" []) with
          modules := s.modules.set m.val { s.module m with
            state := .off, rest := some (30 * Config.ticksPerSecond), service := false }
          status := t.status } ∧ t.follows s = true) ∧
    ((s.module m).state = .releasing → (s.module m).service = true →
      exec (.moduleReturn (m.val + 1)) s = .next { s.answer (.ok "" []) with
        modules := s.modules.set m.val { s.module m with service := false } })) ∧
  (∀ s : State, s.ready = true → s.sound = true → ∀ m : Fin 8, (s.module m).state.isMember = false →
  ∀ sig rating : Nat, sig ≤ 4294967295 →
    let given := if rating < 500 then 500 else min rating 4000
    ∃ t, exec (.signature (m.val + 1) sig rating) s = .next t ∧ (t.module m).signature = sig ∧
      (t.module m).rating = given ∧
      ({ s.module m with signature := sig, rating := given }).keptBy (t.module m) = true ∧
      (∀ k, k ≠ m → (s.module k).keptBy (t.module k) = true) ∧
      t.terminal.reply = some
        (let pairs := [("EXPECTED_SIGNATURE", Value.number sig), ("RATING", .number given)]
         if given = rating then .ok "" pairs else .clamped pairs) ∧
      (∀ o, (t.outlet o).kept = (s.outlet o).kept) ∧
      t.common = { s.common with terminal := t.terminal } ∧ t.follows s = true)

/-- PROFILE SET (R189): the field takes the value clamped to its range, the slip fields between their
neighbours; no other field, no other profile and no snapshot changes. The pair name PROFILE_NUMBER is the
model's spelling (log entry 22, PRESUMED). PROFILE n DEFAULT, for a profile number of 0 to 9, writes every
default and replies with every field; PROFILE n ? replies with every field as held (R190). -/
def Obligations.ProfileOrdersEditOneProfile : Prop :=
  (∀ s : State, s.ready = true → ∀ (n : Fin 10) (f : ProfileField) (x : Nat),
    let p := s.profile n
    let given := if x < (p.range f).1 then (p.range f).1 else min x (p.range f).2
    ∃ t, exec (.profileSet n.val (some f) x) s = .next t ∧
      ((p.range f).1 ≤ (p.range f).2 → (t.profile n).get f = given) ∧
      (∀ g, g ≠ f → (t.profile n).get g = p.get g) ∧ (∀ k, k ≠ n → t.profile k = s.profile k) ∧
      t = { s with profiles := t.profiles, terminal := t.terminal } ∧
      ((p.range f).1 ≤ (p.range f).2 → t.terminal.reply = some
        (let pairs := [("PROFILE_NUMBER", Value.number n.val), (f.keyword, .number given)]
         if given = x then .ok "" pairs else .clamped pairs))) ∧
  (∀ s : State, s.ready = true → ∀ n : Fin 10,
    (exec (.profileDefault n.val) s = .next
      { s.answer (.ok "" (("PROFILE_NUMBER", .number n.val) :: ProfileField.all.map fun f =>
          (f.keyword, .number (Profile.default.get f)))) with
        profiles := s.profiles.set n.val Profile.default }) ∧
    exec (.profileQuery n.val) s = .next
      (s.answer (.ok "" (("PROFILE_NUMBER", .number n.val) :: ProfileField.all.map fun f =>
          (f.keyword, .number ((s.profile n).get f))))))

/-- TIME with a reading that exists (R154): the clock takes it with its tenths at 0, every open interval is
closed with TIME_SET, in ascending order of session number, and replaced by one that starts at the new reading,
and a ready tariff table becomes active with TARIFF_SWITCHED (R167). Each closed interval is billed with the
table active before the switch (R163) and written or merged (R172, R173), and nothing else of its session
changes. The name of the reply pair is the model's (log entry 22, PRESUMED). -/
def Obligations.TimeSetsClock : Prop :=
  ∀ s : State, s.ready = true → s.accounts = true → s.tariffsSound = true → ∀ y m d h i j : Nat,
    2000 ≤ y → y ≤ 9999 → 1 ≤ m → m ≤ 12 → 1 ≤ d → d ≤ daysIn y m → h ≤ 23 → i ≤ 59 → j ≤ 59 →
    let c : Clock := { year := y, month := m, day := d, hour := h, minute := i, second := j, tenth := 0 }
    let closing := allOutlets.filter fun o => (s.outlet o).interval.isSome
    let switches := s.pendingTariff.any (·.ready)
    ∃ t, exec (.time y m d h i j) s = .next t ∧ t.clock = some c ∧
      t.terminal.reply = some (.ok "" [("READING", .reading c)]) ∧
      (switches = false → t.tariff = s.tariff ∧ t.pendingTariff = s.pendingTariff) ∧
      (∀ p, s.pendingTariff = some p → p.ready = true → t.tariff = p.table ∧ t.pendingTariff = none) ∧
      (t.status.get .part).count .tariffSwitched =
        (if switches then min 255 ((s.status.get .part).count .tariffSwitched + 1)
          else (s.status.get .part).count .tariffSwitched) ∧
      (∀ o, (s.outlet o).interval = none → t.outlet o = s.outlet o) ∧
      (∀ (o : OutletId) (r : Session) (k : Interval),
        (s.outlet o).session = some r → (s.outlet o).interval = some k →
        t.hasClosedInterval s closing o r k [.timeSet] = true ∧
        t.outlet o = { s.outlet o with
          session := (t.outlet o).session
          interval := some
            { start := some c, length := t.tariff.length, ticks := 0, importWh := Bands.zero, exportWh := 0
              flags := if s.grid.overSet then [.gridOver] else [] } }) ∧
      t.hasLogged s closing.length = true ∧
      t.modules = s.modules ∧ t.grants = s.grants ∧ t.budgetOver = s.budgetOver ∧
      { t.common with log := s.log } = { s.common with
        clock := some c, tariff := t.tariff, pendingTariff := t.pendingTariff, terminal := t.terminal } ∧
      t.follows s = true

/-- An accepted tariff edit changes the pending table alone, or a copy of the active one, and Clears the ready
mark; the reply of each edit carries the pending table (R165). The names of its pairs are the model's (log entry
22, PRESUMED, and log entry 85, DESIGN CHOICE), and so is the written form of a window's mark (log entry 78,
DESIGN CHOICE). -/
def Obligations.TariffEditsPendingTable : Prop :=
  ∀ s : State, s.ready = true →
    let base := match s.pendingTariff with
      | some p => p.table
      | none => s.tariff
    (∀ b price : Nat, ∀ w : WindowArg, b ≤ 3 → (w = .keep ∨ 1 ≤ b) →
      ∃ t, exec (.tariffBand b price w) s = .next t ∧
        (t.pendingTariff.any fun p =>
          !p.ready && p.table.prices == base.prices.set b (min 99999 price) &&
          p.table.demandPrice == base.demandPrice && p.table.length == base.length &&
          ([1, 2, 3].all fun k => p.table.window k ==
            if k = b then
              (match w with
                | .keep => base.window k
                | .minutes x y => { start := min 1439 x, stop := min 1439 y, enabled := true }
                | .off => { base.window k with enabled := false })
            else base.window k) &&
          t.terminal.reply == some
            (if 99999 < price || windowIsClamped w then .clamped p.table.pairs
             else .ok "" p.table.pairs)) = true ∧
        t = { s with pendingTariff := t.pendingTariff, terminal := t.terminal, status := t.status } ∧
        t.follows s = true) ∧
    (∀ price : Nat,
      ∃ t, exec (.tariffDemand price) s = .next t ∧
        t.pendingTariff = some { table := { base with demandPrice := min 99999 price }, ready := false } ∧
        (t.pendingTariff.any fun p => t.terminal.reply == some
          (if 99999 < price then .clamped p.table.pairs else .ok "" p.table.pairs)) = true ∧
        t = { s with pendingTariff := t.pendingTariff, terminal := t.terminal, status := t.status } ∧
        t.follows s = true) ∧
    (∀ n : Nat, n ∈ [5, 10, 15, 30, 60] →
      ∃ t, exec (.tariffInterval n) s = .next t ∧
        t.pendingTariff = some { table := { base with length := n }, ready := false } ∧
        (t.pendingTariff.any fun p => t.terminal.reply == some (.ok "" p.table.pairs)) = true ∧
        t = { s with pendingTariff := t.pendingTariff, terminal := t.terminal, status := t.status } ∧
        t.follows s = true)

/-- TARIFF SCHEDULE and TARIFF DISCARD (R166): the first Sets the ready mark of the pending table, the second
removes the table with its mark, and the next edit starts from a copy of the active table. With no pending table
the first is refused with 270 and the second replies OK NONE; with the mark already Set, scheduling changes
nothing. -/
def Obligations.TariffScheduleAndDiscard : Prop :=
  ∀ s : State, s.ready = true →
    (∀ p, s.pendingTariff = some p →
      (∃ t, exec .tariffSchedule s = .next t ∧
        t = { s.answer (.ok "" []) with
          pendingTariff := some { table := p.table, ready := true }, status := t.status } ∧
        t.follows s = true ∧ t.status.part.conditions.contains .tariffPending = true) ∧
      (p.ready = true → exec .tariffSchedule s = .next (s.answer (.ok "" []))) ∧
      (∃ t, exec .tariffDiscard s = .next t ∧
        t = { s.answer (.ok "" []) with pendingTariff := none, status := t.status } ∧
        t.follows s = true ∧ t.status.part.conditions.contains .tariffPending = false ∧
        ∀ price, ∃ u, exec (.tariffDemand price) t = .next u ∧ u.pendingTariff =
          some { table := { s.tariff with demandPrice := min 99999 price }, ready := false })) ∧
    (s.pendingTariff = none →
      exec .tariffSchedule s = .next (s.no 270) ∧ exec .tariffDiscard s = .next (s.okWord "NONE"))

/-! ### Orders: billing log, ship links, status unit -/

/-- LOG WINDOW, LOG READ and LOG THRESHOLD (R175, R176, R177): the window is the requested range within the log,
reading answers the record at the pointer and moves it on, and the threshold is clamped to 1 to 2,047. The names
of the reply pairs, ALMOST_FULL_THRESHOLD among them, are the model's (log entry 22, PRESUMED). -/
def Obligations.LogIsReadThroughWindow : Prop :=
  ∀ s : State, s.ready = true →
    (∀ lo hi, s.log.oldest = some lo → s.log.newest = some hi → ∀ a b : Nat,
      1 ≤ a → a ≤ 4294967295 → 1 ≤ b → b ≤ 4294967295 → max lo a ≤ min hi b →
      let pairs := [("FIRST", Value.number (max lo a)), ("LAST", .number (min hi b))]
      exec (.logWindow a b) s = .next
        { s.answer (if max lo a = a ∧ min hi b = b then .ok "" pairs else .clamped pairs) with
          log := { s.log with window := some { first := max lo a, last := min hi b, pointer := max lo a } } }) ∧
    (∀ w, s.log.window = some w →
      (w.last < w.pointer → exec .logRead s = .next (s.okWord "END")) ∧
      (w.pointer ≤ w.last → ∀ r, s.log.records.find? (·.sequence == w.pointer) = some r →
        exec .logRead s = .next
          { s.answer (.record r) with log := { s.log with window := some { w with pointer := w.pointer + 1 } } })) ∧
    (∀ n : Nat,
      let given := if n = 0 then 1 else min n 2047
      ∃ t, exec (.logThreshold n) s = .next t ∧
        t = { s with log := { s.log with threshold := given }, terminal := t.terminal, status := t.status } ∧
        t.terminal.reply = some (if given = n then .ok "" [("ALMOST_FULL_THRESHOLD", .number given)]
          else .clamped [("ALMOST_FULL_THRESHOLD", .number given)]) ∧
        t.follows s = true)

/-- LOG RELEASE of a sequence the log holds (R178, R23): the records up to it leave the log and their Wh join
the released totals; no meter total changes; the read window loses what lies below the oldest record left, and
goes with its last record; the held outlets are then examined in ascending order of session number, each placed
while the log and the queue have room (R174), and nothing else changes but the reply. That the reply's oldest
sequence is taken after the placements is the model's reading (log entry 33, DEDUCED), as is that a placed
record's merged figures are zero (log entry 46, DEDUCED). The names of the reply pairs are the model's (log
entry 22, PRESUMED). CLOSED RELEASE with a record waiting (R181, R23): the oldest record leaves the queue, the
reply names its session and those placed from HELD, and the held outlets are examined as at LOG RELEASE. The
names of the reply pairs are the model's (log entry 22, PRESUMED). -/
def Obligations.ReleasesMakeRoom : Prop :=
  (∀ s : State, s.ready = true → s.sound = true → s.accounts = true →
  ∀ lo hi, s.log.oldest = some lo → s.log.newest = some hi → ∀ n : Nat, 1 ≤ n → n ≤ 4294967295 → lo ≤ n → n ≤ hi →
    let gone := s.log.records.filter (·.sequence ≤ n)
    let left := s.log.records.filter (n < ·.sequence)
    let window := match left with
      | [] => none
      | r :: _ => s.log.window.bind fun w => if w.last < r.sequence then none
          else some { first := max w.first r.sequence, last := w.last, pointer := max w.pointer r.sequence }
    let shortened : BillingLog := { s.log with records := left, window := window }
    ∃ t, exec (.logRelease n) s = .next t ∧ t.hasExamined s shortened = true ∧
      (∀ o,
        (t.outlet o).meter = { (s.outlet o).meter with
          releasedImport := (s.outlet o).meter.releasedImport +
            ((gone.filter (·.outlet == o)).map (·.importWh.sum)).sum
          releasedExport := (s.outlet o).meter.releasedExport +
            ((gone.filter (·.outlet == o)).map (·.exportWh)).sum } ∧
        ((s.outlet o).held = none → { t.outlet o with meter := (s.outlet o).meter } = s.outlet o)) ∧
      t.terminal.reply = some (.ok "" [("RECORDS_REMOVED", .number gone.length),
        ("OLDEST_SEQUENCE", Value.ofNat? t.log.oldest),
        ("PLACED", .numbers ((s.heldOutlets.take (t.log.closed.length - s.log.closed.length)).map fun o =>
          ((s.outlet o).sessionNumber : Int)))]) ∧
      t.modules = s.modules ∧ t.grants = s.grants ∧
      { t.common with log := s.log } = { s.common with terminal := t.terminal } ∧ t.follows s = true) ∧
  (∀ s : State, s.ready = true → s.sound = true → s.accounts = true → ∀ k rest, s.log.closed = k :: rest →
    ∃ t, exec .closedRelease s = .next t ∧ t.hasExamined s { s.log with closed := rest } = true ∧
      t.terminal.reply = some (.ok "" [("SESSION_NUMBER", .number k.number),
        ("PLACED", .numbers ((s.heldOutlets.take (t.log.closed.length - rest.length)).map fun o =>
          ((s.outlet o).sessionNumber : Int)))]) ∧
      (∀ o, (t.outlet o).meter = (s.outlet o).meter) ∧
      (∀ o, (s.outlet o).held = none → t.outlet o = s.outlet o) ∧
      t.modules = s.modules ∧ t.grants = s.grants ∧
      { t.common with log := s.log } = { s.common with terminal := t.terminal } ∧ t.follows s = true)

/-- SHIPBACK in SHORE_SUPPLY (R142): a RETURN_DEMAND joins the transmit queue of a link that is UP, or is
dropped for want of room, or is kept pending while the link is DOWN; the reply says which. The link keeps the
form that every step keeps (ShipLink.bounded). LINKTEST, its result and LINK CLEAR (R128, R129): the test begins
in VACANT, CABLED and ANNOUNCED with the delimiter HUNTING and the transmitter stopped, and the reply waits for
the result. A result where no test runs changes nothing (log entry 40). The result is PASS when the 64
characters sent came back; NO_ECHO when only good characters, fewer than 64, did; and otherwise the first bad
character decides: FRAMING where it has a framing error, MISMATCH where it differs without one. NO_ECHO falls at
50 ms from the first start bit, and any other result no earlier than the stop bit of the character that decides
it, so the time to that instant passes; a row past 50 ms is NO_ECHO whatever came back. That the first start bit
falls at the acceptance, that the characters come back without delay, and what a row past the bound says are the
model's (log entry 89, DESIGN CHOICE). At the result the transmitter sends again where the link is UP and a
frame waits. A character that is both gives FRAMING (log entry 60, the model's choice). -/
def Obligations.ShipLinkOrdersAct : Prop :=
  (∀ (s : State) (o : OutletId), s.ready = true → s.bounded = true → (s.outlet o).state = .shoreSupply →
    ((s.outlet o).link.up = true → (s.outlet o).link.hasRoom = true →
      exec (.shipback (some o)) s = .next ((s.send o .returnDemand).okWord "QUEUED")) ∧
    ((s.outlet o).link.up = true → (s.outlet o).link.hasRoom = false →
      exec (.shipback (some o)) s = .next ((s.modifyLink o fun l => { l with counts :=
        { l.counts with transmitDrops := min 65535 (l.counts.transmitDrops + 1) } }).okWord "DROPPED")) ∧
    ((s.outlet o).link.up = false →
      exec (.shipback (some o)) s =
        .next ((s.modifyHandover o fun h => { h with returnPending := true }).okWord "PENDING"))) ∧
  (∀ s : State, s.ready = true → ∀ o : OutletId,
    ((s.outlet o).state.within .vacant .announced = true →
      ∃ t, exec (.linkTest (some o)) s = .next t ∧ (t.outlet o).link.testing = true ∧
        (t.outlet o).link.assembling = none ∧ (t.outlet o).link.gapTimer = none ∧
        (t.outlet o).link.sending = false ∧
        (t.outlet o).link.queue.length = (s.outlet o).link.queue.length ∧
        (t.outlet o).link = { (s.outlet o).link with
          testAge := some 0, assembling := none, gapTimer := none, sending := false
          queue := (t.outlet o).link.queue } ∧
        t.terminal = { s.terminal with reply := none, awaiting := some o } ∧
        t = { s.modifyLink o (fun _ => (t.outlet o).link) with terminal := t.terminal }) ∧
    ((s.outlet o).link.testing = false → ∀ returned : List Received, returned.length ≤ 64 →
      exec (.linkTestResult o returned) s = .next s) ∧
    (∀ age, (s.outlet o).link.testAge = some age → ∀ returned : List Received, returned.length ≤ 64 →
      ∃ n t, exec (.linkTestResult o returned) s = .next t ∧ (t.outlet o).link.testing = false ∧
        (t.outlet o).link.assembling = none ∧
        (returned = testFrame.map (fun b => { byte := b, framingError := false }) →
          n = 159875 - age ∧ (age ≤ 480000 → (t.outlet o).link.lastTest = some .pass)) ∧
        (∀ k < 64, returned = (testFrame.take k).map (fun b => { byte := b, framingError := false }) →
          n = 480000 - age ∧ (t.outlet o).link.lastTest = some .noEcho) ∧
        (∀ (k : Nat) (sent : Byte) (r : Received) (rest : List Received), testFrame[k]? = some sent →
          returned = (testFrame.take k).map (fun b => { byte := b, framingError := false }) ++ r :: rest →
          (r.framingError = true ∨ r.byte ≠ sent) → n = 2500 * k + 2375 - age ∧
          (age ≤ 480000 → (t.outlet o).link.lastTest =
            some (if r.framingError then TestResult.framing else TestResult.mismatch))) ∧
        (480000 < age → (t.outlet o).link.lastTest = some .noEcho) ∧
        (let u := s.elapse n
         (t.outlet o).link = { (u.outlet o).link with
            testAge := none, lastTest := (t.outlet o).link.lastTest, assembling := none, gapTimer := none
            sending := (t.outlet o).link.sending, queue := (t.outlet o).link.queue } ∧
          t = { u.modifyLink o (fun _ => (t.outlet o).link) with terminal := t.terminal }) ∧
        (t.outlet o).link.queue.length = (s.outlet o).link.queue.length ∧
        ((s.outlet o).link.up = true → (s.outlet o).link.queue ≠ [] → (t.outlet o).link.sending = true) ∧
        (s.terminal.awaiting = some o →
          t.terminal.awaiting = none ∧ ∀ v, (t.outlet o).link.lastTest = some v →
            t.terminal.reply = some (.ok v.reply [])) ∧
        (s.terminal.awaiting ≠ some o → t.terminal = s.terminal)) ∧
    (∃ t, exec (.linkClear (some o)) s = .next t ∧
      t = { (s.modifyLink o fun l => { l with counts := LinkCounts.zero, overrun := false, lastRefusal := none }).answer
        (.ok "" []) with status := t.status } ∧ t.follows s = true))

/-- FILTER, ENABLE and ATTN (R196): each replaces the filter or mask it names and nothing else; a name or a
group given twice counts once. The names of the reply pairs are the model's (log entry 22, PRESUMED), and of
those of FILTER, ENABLE and ATTN so says log entry 90 (DEDUCED). EVENTS?, ERR? and CLS (R195, R197): reading a
group Clears its latches and counts, reading the error queue removes its oldest entry, and CLS Clears every
latch and empties the queue. The transition of ERROR_QUEUED at the CLS itself is the model's choice (log entry
29), so the clause on latches leaves that name out. That ERR?'s TEXT is written without quotes is the model's
(log entry 67, DESIGN CHOICE). -/
def Obligations.StatusOrdersReplaceAndClear : Prop :=
  (∀ s : State, s.ready = true →
    (∀ (x : Item) (f : Filter), x.isCondition = true →
      ∃ t, exec (.filter (some x) f) s = .next t ∧ t.status.filterOf x = f ∧
        (∀ y, y ≠ x → y.isCondition = true → t.status.filterOf y = s.status.filterOf y) ∧
        t = { s.answer (.ok "" [("FILTER", .name f.name)]) with
          status := { s.status with filters := t.status.filters } }) ∧
    (∀ (g : Group) (names : List (Option Item)),
      (names.all fun x => x.any fun y => g.items.contains y) = true →
      ∃ t, exec (.enable (some g) names) s = .next t ∧
        (t.status.get g).enabled = g.items.filter (fun y => names.contains (some y)) ∧
        t = { s.answer (.ok "" [("ENABLE_MASK", Value.ofItems (t.status.get g).enabled)]) with
          status := s.status.set g { s.status.get g with enabled := (t.status.get g).enabled } }) ∧
    (∀ groups : List (Option Group), none ∉ groups →
      let mask := allGroups.filter fun g => groups.contains (some g)
      exec (.attn groups) s = .next { s.answer (.ok "" [("ATTN_MASK", Value.ofGroups mask)]) with
        status := { s.status with attention := mask } })) ∧
  (∀ s : State, s.ready = true →
    (∀ g : Group,
      exec (.eventsQuery (some g)) s = .next { s.answer (.ok "" (s.eventPairs g)) with
        status := s.status.set g { s.status.get g with counts := [] } }) ∧
    (s.status.errors = [] → exec .errQuery s = .next (s.ok [("CODE", .none)])) ∧
    (∀ e rest, s.status.errors = e :: rest →
      ∃ t, exec .errQuery s = .next t ∧ t.status.errors = rest ∧
        t.status.part.conditions.contains .errorQueued = !rest.isEmpty ∧
        t = { s.answer (.ok "" [("CODE", .number e.1), ("TEXT", .name e.2)]) with status := t.status } ∧
        { t.status.settings with errors := [] } = { s.status.settings with errors := [] }) ∧
    (∃ t, exec .cls s = .next t ∧ t.status.errors = [] ∧
      t.status.part.conditions.contains .errorQueued = false ∧
      (∀ g x, x ≠ .errorQueued → (t.status.get g).count x = 0) ∧
      t = { s.answer (.ok "" []) with status := t.status } ∧
      { t.status.settings with errors := [] } = { s.status.settings with errors := [] }))

/-! ### Interlocks and breakers -/

/-- An interlock that becomes made closes nothing: its state is recorded, and in VACANT a PLUG takes the outlet
to CABLED (R1, R29, R31). That a report of the level already held changes nothing is the model's choice (log
entry 11). -/
def Obligations.InterlockMadeClosesNothing : Prop :=
  ∀ s : State, s.ready = true → s.sound = true →
    (∀ (o : OutletId) (i : Interlock),
      ((s.outlet o).interlocks.get i = true →
        exec (.interlockChange (.ofOutlet o i) true) s = .next s) ∧
      ((s.outlet o).interlocks.get i = false →
        ∃ t, exec (.interlockChange (.ofOutlet o i) true) s = .next t ∧
          (t.outlet o).interlocks = (s.outlet o).interlocks.set i true ∧
          (t.outlet o).sb = (s.outlet o).sb ∧ (t.outlet o).pb = (s.outlet o).pb ∧
          ((s.outlet o).state = .vacant → i = .plug →
            (t.outlet o).state = .cabled ∧ t.hasRaised s o .stateChanged = true ∧
              (t.status.get (.outlet o)).lastState = some 1) ∧
          ((s.outlet o).state ≠ .vacant ∨ i ≠ .plug →
            t = { s.modify o (fun x => { x with interlocks := x.interlocks.set i true }) with
              status := t.status }) ∧
          t.leavesOthers s o = true ∧ t.follows s = true)) ∧
    (s.estopAllMade = false →
      ∃ t, exec (.interlockChange .estopAll true) s = .next t ∧
        t = { s with estopAllMade := true, status := t.status } ∧ t.follows s = true)

/-- The loss of an outlet's interlock in any state: the unit opens that outlet's breakers by itself, each by the
state of its channel, and no close command, close pulse or WINDOW is left (R30, R31, R42); no other outlet's
breaker is touched. The loss of ESTOP_ALL does so in all three channels; that its three deliveries are made in
one command, with no request granted between them, is the model's choice (log entry 79). The new pulse of a PB in STUCK, which
R30 does not name, is the model's choice (log entry 52), and that an idle PB that reports open is given no
pulse, at the trip too, is the model's reading (log entry 13, DEDUCED). A loss in ADMITTED to SEPARATING is a
trip with the whole of R15; in DE_ENERGISING and TRIPPED it is a further trip (R16); in the other states only a
PLUG loss moves the outlet, to VACANT from CABLED and ANNOUNCED (R1, R3, R29). A PLUG loss takes the ship link
DOWN (R29). That STATE_CHANGED is raised once at a PLUG loss in SYNCHRONISING and TRANSFER_IN too, the outlet
controller taking the loss before the ship link does, is the model's reading (log entry 15, DEDUCED). -/
def Obligations.InterlockLossOpensAndTrips : Prop :=
  (∀ s : State, s.ready = true → s.sound = true →
    (∀ (o : OutletId) (i : Interlock), (s.outlet o).interlocks.get i = true →
      ∃ t, exec (.interlockChange (.ofOutlet o i) false) s = .next t ∧
        (t.outlet o).interlocks = (s.outlet o).interlocks.set i false ∧
        (s.outlet o).openedOnLoss (t.outlet o) = true ∧
        t.sbCommand o = false ∧ t.pbClose o = false ∧ t.window o = false ∧
        t.leavesOthers s o = true ∧ t.follows s = true) ∧
    (s.estopAllMade = true →
      ∃ t, exec (.interlockChange .estopAll false) s = .next t ∧ t.estopAllMade = false ∧
        (∀ o, (t.outlet o).interlocks = (s.outlet o).interlocks ∧
          (s.outlet o).openedOnLoss (t.outlet o) = true ∧
          t.sbCommand o = false ∧ t.pbClose o = false ∧ t.window o = false) ∧
        t.common = { s.common with estopAllMade := false } ∧ t.follows s = true)) ∧
  (∀ s : State, s.ready = true → s.sound = true → s.accounts = true →
    (∀ (o : OutletId) (i : Interlock), (s.outlet o).interlocks.get i = true →
      let st := (s.outlet o).state
      let cause : TripCause := if i = .estop then .estop else .interlock
      ∃ t, exec (.interlockChange (.ofOutlet o i) false) s = .next t ∧
        (st.within .admitted .separating = true → t.hasTripped s o cause = true ∧
          t.hasRaised s o .stateChanged = true) ∧
        (st = .deEnergising ∨ st = .tripped → (t.outlet o).state = st ∧ t.hasNoted s o cause = true) ∧
        (st = .held ∨ (st.within .vacant .announced = true ∧ i ≠ .plug) → (t.outlet o).state = st ∧
          (t.outlet o).session = none ∧ (t.outlet o).announcement = (s.outlet o).announcement) ∧
        (st.within .vacant .announced = true → i = .plug →
          (t.outlet o).state = .vacant ∧ ((st = .cabled ∨ st = .announced) →
            (t.outlet o).announcement = (if st = .announced then none else (s.outlet o).announcement))) ∧
        (i = .plug → (t.outlet o).link.up = false ∧ ((s.outlet o).link.up = true →
          (t.outlet o).link.lastDown = some .plug ∧ (t.outlet o).link.fifo = [] ∧
            (t.outlet o).link.queue = []))) ∧
    (s.estopAllMade = true →
      ∃ t, exec (.interlockChange .estopAll false) s = .next t ∧
        ∀ o,
          ((s.outlet o).state.within .admitted .separating = true →
            t.hasTripped s o .estopAll = true) ∧
          ((s.outlet o).state = .deEnergising ∨ (s.outlet o).state = .tripped →
            (t.outlet o).state = (s.outlet o).state ∧ t.hasNoted s o .estopAll = true) ∧
          (((s.outlet o).state.within .vacant .announced = true ∨ (s.outlet o).state = .held) →
            (t.outlet o).state = (s.outlet o).state)))

/-- SB_FEEDBACK_CLOSES (R12, R34, R36): in CLOSING the close is complete, and an outlet in phase CLOSING enters
RAMP with its STANDBY members run; in OPEN the breaker that closed without command is opened again. That a row
of the level already held changes nothing is the model's choice (log entry 11). -/
def Obligations.ShoreBreakerCloses : Prop :=
  ∀ s : State, s.ready = true → s.sound = true → ∀ o : OutletId,
    let x := s.outlet o
    (x.sb.feedback = true → exec (.sbFeedbackCloses o) s = .next s) ∧
    (x.sb.channel = .opened → x.sb.feedback = false →
      ∃ t, exec (.sbFeedbackCloses o) s = .next t ∧
        t = { s.modify o (fun x => { x with sb := { x.sb with
          feedback := true, channel := .opening, openTimer := some (200 * Config.ticksPerMs) } }) with
            status := t.status } ∧ t.follows s = true) ∧
    (x.sb.channel = .closing → ¬(x.state = .energising ∧ x.phase = some .closing) →
      ∃ t, exec (.sbFeedbackCloses o) s = .next t ∧
        t = { s.modify o (fun x => { x with sb := { x.sb with
          feedback := true, channel := .closed, closeTimer := none } }) with status := t.status } ∧
        t.follows s = true) ∧
    (x.sb.channel = .closing → x.state = .energising → x.phase = some .closing →
      ∃ t, exec (.sbFeedbackCloses o) s = .next t ∧
        (t.outlet o).sb = { x.sb with feedback := true, channel := .closed, closeTimer := none } ∧
        (t.outlet o).state = .energising ∧ (t.outlet o).phase = some .ramp ∧
        (t.outlet o).rampComplete = false ∧ (t.outlet o).reference.pending = some .softStart ∧
        (t.outlet o).energiseTimer =
          x.session.map (fun r => (r.snapshot.softStart + 5) * Config.ticksPerSecond) ∧
        (∀ m, (s.module m).group = some o → (s.module m).state = .standby →
          (t.module m).state = .running ∧ (t.module m).command = some .run) ∧
        (t.outlet o).pb = x.pb ∧ (t.outlet o).session = x.session ∧ (t.outlet o).apart = x.apart ∧
        t.leavesOthers s o = true ∧ t.follows s = true)

/-- SB_FEEDBACK_OPENS (R12, R21, R35, R36): in CLOSED the breaker has opened without command, the PB is tripped
and a session state trips with SB_OPENED; in OPENING and STUCK the opening is complete, SB_STUCK is lowered, an
outlet in DE_ENERGISING closes its session, and one in phase CLOSING whose close request was answered "SB not
open" repeats it, which the lock refuses (R31, R33). That a row of the level already held changes nothing is the
model's choice (log entry 11). A session that closes is billed for its FINAL interval and priced, its outlet's
accumulators are zero, and it is placed with its FINAL record or held (R22, R168, R174). What a FINAL interval
that never opened carries is the model's reading (log entry 30, DEDUCED), as is that a placed record's merged
figures are zero (log entry 46, DEDUCED). The timers of the shore breaker (R34, R35): a close not confirmed in
time removes the command, an opening not confirmed leaves the breaker STUCK with SB_STUCK Set, and both trip a
session state with SB_FAIL. That the PB is asked to trip at that trip, in ADMITTED too, is the model's reading
of R15 and R39 (log entry 13, DEDUCED). The time at which the row acts is the model's (log entry 2), and a timer
that does not run does not expire (log entry 40, the model's reading). -/
def Obligations.ShoreBreakerOpens : Prop :=
  (∀ s : State, s.ready = true → s.sound = true → s.accounts = true → ∀ o : OutletId,
    let x := s.outlet o
    (x.sb.feedback = false → exec (.sbFeedbackOpens o) s = .next s) ∧
    (x.sb.channel = .closed →
      ∃ t, exec (.sbFeedbackOpens o) s = .next t ∧
        (t.outlet o).sb = { x.sb with feedback := false, channel := .opened } ∧
        (t.outlet o).pb.channel = .tripPulse ∧
        (x.state.within .admitted .separating = true → t.hasTripped s o .sbOpened = true) ∧
        (x.state = .tripped → (t.outlet o).state = .tripped ∧ t.hasNoted s o .sbOpened = true) ∧
        t.follows s = true) ∧
    ((x.sb.channel = .opening ∨ x.sb.channel = .stuck) → x.state ≠ .deEnergising →
      ¬(x.state = .energising ∧ x.phase = some .closing) →
      ∃ t, exec (.sbFeedbackOpens o) s = .next t ∧
        t = { s.modify o (fun x => { x with sb := { x.sb with
          feedback := false, channel := .opened, openTimer := none, stuckSet := false } }) with
            status := t.status } ∧ t.follows s = true) ∧
    ((x.sb.channel = .opening ∨ x.sb.channel = .stuck) → x.state = .energising → x.phase = some .closing →
      ∃ t, exec (.sbFeedbackOpens o) s = .next t ∧
        t = { s.modify o (fun x => { x with
          closeWanted := false
          sb := if x.closeWanted = true ∧ s.blocking o = none then
              { x.sb with feedback := false, channel := .closing, openTimer := none, stuckSet := false
                          closeTimer := some (500 * Config.ticksPerMs) }
            else { x.sb with feedback := false, channel := .opened, openTimer := none, stuckSet := false } }) with
              status := t.status } ∧ t.follows s = true) ∧
    (∀ r, x.session = some r → (x.sb.channel = .opening ∨ x.sb.channel = .stuck) → x.state = .deEnergising →
      ∃ t, exec (.sbFeedbackOpens o) s = .next t ∧ (t.outlet o).sb.feedback = false ∧
        (t.outlet o).sb.channel = .opened ∧ (t.outlet o).sb.stuckSet = false ∧
        t.hasClosed s o r (x.endCause.getD .ended) = true ∧ t.group o = [] ∧ t.follows s = true)) ∧
  (∀ s : State, s.ready = true → s.sound = true → s.accounts = true → ∀ o : OutletId,
    let x := s.outlet o
    (x.sb.closeTimer = none → exec (.sbCloseTimerExpiry o) s = .next s) ∧
    (x.sb.openTimer = none → exec (.sbOpenTimerExpiry o) s = .next s) ∧
    (∀ n, x.sb.closeTimer = some n →
      ∃ t, exec (.sbCloseTimerExpiry o) s = .next t ∧
        (t.outlet o).sb = { x.sb with channel := .opened, closeTimer := none } ∧
        (x.state.within .admitted .separating = true → t.hasTripped (s.elapse n) o .sbFail = true ∧
          (t.outlet o).pb.channel = .tripPulse) ∧
        t.leavesOthers (s.elapse n) o = true ∧ t.follows s = true) ∧
    (∀ n, x.sb.openTimer = some n →
      ∃ t, exec (.sbOpenTimerExpiry o) s = .next t ∧
        (x.state ≠ .deEnergising →
          (t.outlet o).sb = { x.sb with channel := .stuck, openTimer := none, stuckSet := true } ∧
          (t.status.get (.outlet o)).conditions.contains .sbStuck = true ∧
          t.leavesOthers (s.elapse n) o = true) ∧
        (x.state.within .admitted .separating = true → t.hasTripped (s.elapse n) o .sbFail = true ∧
          (t.outlet o).pb.channel = .tripPulse) ∧
        (∀ r, x.session = some r → x.state = .deEnergising →
          t.hasClosed s o { r with tripCount := min 65535 (r.tripCount + 1), lastTrip := some .sbFail }
            (x.endCause.getD .ended) = true) ∧
        t.follows s = true))

/-- PB_FEEDBACK_CLOSES while a close pulse runs for a check in CLOSING (R38, R106, R135): the pulse ends, the
check is left with outcome TRANSFER, and the outlet is in TRANSFER_IN with its parallel timer started and the
reference about to follow in PARALLEL with a RISING setpoint. Outside CLOSING the pulse only ends. That a row of
the level already held changes nothing is the model's choice (log entry 11). A closure that no close pulse
accounts for (R41, R109, R112): in SYNCHRONISING, during the trip pulse after a close pulse, it is a late
closure and leads to SEPARATING; otherwise a session state up to SYNCHRONISING trips with UNSYNC_CLOSE, and a
state without a session asks the PB to open. In DE_ENERGISING and TRIPPED it is a further trip, whose breaker
requests are made as at the first (log entry 43, the model's reading). -/
def Obligations.ParallelBreakerCloses : Prop :=
  (∀ s : State, s.ready = true → s.sound = true → ∀ o : OutletId,
    let x := s.outlet o
    (x.pb.feedback = true → exec (.pbFeedbackCloses o) s = .next s) ∧
    (x.pb.channel = .closePulse → x.check.state = .closing → ∀ r, x.session = some r →
      ∃ t, exec (.pbFeedbackCloses o) s = .next t ∧
        t = { s.modify o (fun x => { x with
          state := .transferIn, phase := none
          pb := { x.pb with feedback := true, channel := .idle, closeTimer := none, tripTimer := none
                            afterClose := false }
          check := { x.check with state := .inactive, attempts := 0, syncTimer := none, feedbackTimer := none
                                  notedExpiry := false, notedExit := none, windowAsked := false
                                  outcome := some .transfer }
          handover := { x.handover with
            parallelTimer := some (r.snapshot.parTime * Config.ticksPerSecond), overloadTimer := none
            aborting := false, transferDone := false, returnAccepted := false, returnPending := false }
          reference := { x.reference with pending := some .parallel, rising := true
                                          setpoint := (t.outlet o).reference.setpoint } }) with
            status := t.status } ∧
        (x.power.validity = .invalid → (t.outlet o).reference.setpoint = 0) ∧
        (x.power.validity ≠ .invalid → 0 ≤ x.power.kW → x.power.kW ≤ x.limit →
          (t.outlet o).reference.setpoint = x.power.kW.toNat) ∧
        (t.outlet o).reference.setpoint ≤ x.limit ∧
        t.hasRaised s o .pbClosed = true ∧ t.hasRaised s o .stateChanged = true ∧ t.follows s = true) ∧
    (x.pb.channel = .closePulse → x.check.state ≠ .closing →
      ∃ t, exec (.pbFeedbackCloses o) s = .next t ∧
        t = { s.modify o (fun x => { x with pb := { x.pb with
          feedback := true, channel := .idle, closeTimer := none, tripTimer := none, afterClose := false } }) with
            status := t.status } ∧ t.follows s = true)) ∧
  (∀ s : State, s.ready = true → s.sound = true → s.accounts = true → ∀ o : OutletId,
    let x := s.outlet o
    let late := x.state = .synchronising ∧ x.check.state = .recovering ∧ x.pb.channel = .tripPulse ∧
      x.pb.afterClose = true
    x.pb.feedback = false → (x.pb.channel = .idle ∨ x.pb.channel = .tripPulse) →
    ∃ t, exec (.pbFeedbackCloses o) s = .next t ∧ (t.outlet o).pb.feedback = true ∧
      (late → (t.outlet o).state = .separating ∧ (t.outlet o).pb.channel = .tripPulse ∧
        (t.outlet o).check.state = .inactive ∧ (t.outlet o).check.outcome = some .lateClose ∧
        (t.outlet o).handover.lastSeparation = some .lateClose ∧ (t.outlet o).handover.overloadTimer = none ∧
        (t.outlet o).session = x.session ∧ (t.outlet o).apart = x.apart ∧
        t.hasRaised s o .lateClose = true ∧ t.leavesOthers s o = true) ∧
      (x.state.within .admitted .synchronising = true → ¬late →
        t.hasTripped s o .unsyncClose = true ∧ t.sbCommand o = false ∧
        (t.outlet o).pb.channel = .tripPulse ∧ t.leavesOthers s o = true) ∧
      (x.state = .deEnergising ∨ x.state = .tripped →
        (t.outlet o).state = x.state ∧ t.hasNoted s o .unsyncClose = true ∧
        t.sbCommand o = false ∧ (t.outlet o).pb.channel = .tripPulse) ∧
      ((x.state.within .vacant .announced = true ∨ x.state = .held) →
        (t.outlet o).pb.channel = .tripPulse ∧ (t.outlet o).state = x.state) ∧
      t.follows s = true)

/-- PB_FEEDBACK_OPENS (R39, R40, R108, R145, R146): the end of a trip pulse, or of STUCK, ends RECOVERING and
completes SEPARATING; a PB that opens without command in a transfer state returns the outlet to CABLE_LIVE. That
a row of the level already held changes nothing is the model's choice (log entry 11). The timers of the
paralleling breaker (R38, R39, R40, R107): a close pulse that has made no contact becomes a trip pulse, and a
check in CLOSING counts a failed attempt; a trip pulse that has not opened the breaker leaves it STUCK with
PB_STUCK Set, opens the SB and trips a session state with PB_FAIL. That the third failed attempt gives
SYNC_FAILED though an expiry is noted is the model's choice (log entry 55). The time at which the row acts is
the model's (log entry 2), and a timer that does not run does not expire (log entry 40, the model's reading). -/
def Obligations.ParallelBreakerOpens : Prop :=
  (∀ s : State, s.ready = true → s.sound = true → ∀ o : OutletId,
    let x := s.outlet o
    let opened : ParallelBreaker := { x.pb with
      feedback := false, stuckSet := false, channel := .idle, closeTimer := none, tripTimer := none
      afterClose := false }
    (x.pb.feedback = false → exec (.pbFeedbackOpens o) s = .next s) ∧
    (x.pb.feedback = true → (x.pb.channel = .tripPulse ∨ x.pb.channel = .stuck) →
      x.check.state ≠ .recovering → x.state ≠ .separating →
      ∃ t, exec (.pbFeedbackOpens o) s = .next t ∧
        t = { s.modify o (fun x => { x with pb := opened }) with status := t.status } ∧ t.follows s = true) ∧
    (x.pb.feedback = true → (x.pb.channel = .tripPulse ∨ x.pb.channel = .stuck) → x.state = .separating →
      ∃ t, exec (.pbFeedbackOpens o) s = .next t ∧
        t = { s.modify o (fun x => { x with
          pb := opened, state := .cableLive, phase := none
          handover := { x.handover with overloadTimer := none }
          reference := { x.reference with pending := some .island, setpoint := 0, trim := 0 } }) with
            status := t.status } ∧
        t.hasRaised s o .separated = true ∧ t.hasRaised s o .stateChanged = true ∧ t.follows s = true) ∧
    (x.pb.feedback = true → (x.pb.channel = .tripPulse ∨ x.pb.channel = .stuck) →
      x.check.state = .recovering →
      ∃ t, exec (.pbFeedbackOpens o) s = .next t ∧ (t.outlet o).pb = opened ∧
        (x.check.notedExit = none → t = { s.modify o (fun x => { x with
          pb := opened, check := { x.check with state := .evaluating } }) with status := t.status }) ∧
        (∀ out, x.check.notedExit = some out → (t.outlet o).state = .cableLive ∧
          (t.outlet o).check.state = .inactive ∧ (t.outlet o).check.outcome = some out ∧
          (t.outlet o).check.attempts = 0 ∧ (t.outlet o).check.syncTimer = none ∧
          (t.outlet o).reference.pending = some .island ∧ t.hasRaised s o .stateChanged = true) ∧
        t.leavesOthers s o = true ∧ t.follows s = true) ∧
    (x.pb.feedback = true → x.pb.channel = .idle → x.state.isTransfer = true →
      ∃ t, exec (.pbFeedbackOpens o) s = .next t ∧
        t = { s.modify o (fun x => { x with
          pb := { x.pb with feedback := false, stuckSet := false }, state := .cableLive, phase := none
          handover := { x.handover with
            parallelTimer := none, overloadTimer := none, aborting := false, transferDone := false
            returnAccepted := false, returnPending := false, lastSeparation := some .pbOpened }
          reference := { x.reference with pending := some .island, setpoint := 0, trim := 0 } }) with
            status := t.status } ∧
        t.hasRaised s o .pbOpened = true ∧ t.follows s = true)) ∧
  (∀ s : State, s.ready = true → s.sound = true → s.accounts = true → ∀ o : OutletId,
    let x := s.outlet o
    (x.pb.closeTimer = none → exec (.pbCloseTimerExpiry o) s = .next s) ∧
    (x.pb.tripTimer = none → exec (.pbTripTimerExpiry o) s = .next s) ∧
    (∀ n, x.pb.closeTimer = some n →
      ∃ t, exec (.pbCloseTimerExpiry o) s = .next t ∧
        (t.outlet o).pb = { x.pb with channel := .tripPulse, closeTimer := none
                                      tripTimer := some (200 * Config.ticksPerMs), afterClose := true } ∧
        (x.check.state ≠ .closing → t = (s.elapse n).modify o fun x => { x with pb := (t.outlet o).pb }) ∧
        (x.check.state = .closing → (t.outlet o).check.state = .recovering ∧
          (t.outlet o).check.windowAsked = false ∧ (t.outlet o).check.feedbackTimer = none ∧
          (x.check.notedExit = none → 3 ≤ x.check.attempts →
            (t.outlet o).check.notedExit = some .syncFailed) ∧
          (x.check.notedExit = none → x.check.attempts < 3 → x.check.notedExpiry = true →
            (t.outlet o).check.notedExit = some .syncTimeout) ∧
          (x.check.attempts < 3 → x.check.notedExpiry = false →
            (t.outlet o).check.notedExit = x.check.notedExit) ∧
          t = { (s.elapse n).modify o (fun x => { x with
            pb := (t.outlet o).pb, check := (t.outlet o).check }) with status := t.status } ∧
          t.hasRaised s o .closeFailed = true) ∧
        t.follows s = true) ∧
    (∀ n, x.pb.tripTimer = some n →
      (x.pb.feedback = false →
        exec (.pbTripTimerExpiry o) s = .next ((s.elapse n).modify o fun x => { x with pb := { x.pb with
          channel := .idle, closeTimer := none, tripTimer := none, afterClose := false } })) ∧
      (x.pb.feedback = true →
        ∃ t, exec (.pbTripTimerExpiry o) s = .next t ∧
          (t.outlet o).pb = { x.pb with channel := .stuck, closeTimer := none, tripTimer := none
                                        afterClose := false, stuckSet := true } ∧
          (t.status.get (.outlet o)).conditions.contains .pbStuck = true ∧ t.sbCommand o = false ∧
          (x.state.within .admitted .separating = true → t.hasTripped (s.elapse n) o .pbFail = true) ∧
          t.leavesOthers (s.elapse n) o = true ∧ t.follows s = true)))

/-- CLOSE_FEEDBACK_TIMER_EXPIRY and SYNC_TIMER_EXPIRY (R107, R110): the first unwinds the attempt; the second
leaves SYNCHRONISING at once while the check evaluates, and is noted while a pulse or its unwinding is in
progress. That the mark of a noted expiry is not Set in RECOVERING is the model's choice (log entry 56). The
time at which the row acts is the model's (log entry 2), and a timer that does not run does not expire (log
entry 40, the model's reading). The timers of the outlet controller and the load handover (R13, R136, R137,
R148): an energise timer trips with ENERGISE_FAIL; a parallel timer separates the outlet; an overload timer
separates it in the parallel states and trips it in SHORE_SUPPLY. That PARALLEL is stored as the pending mode at
the entry to SEPARATING is the model's (log entry 63, DESIGN CHOICE). The time at which the row acts is the
model's (log entry 2), and a timer that does not run does not expire (log entry 40, the model's reading). -/
def Obligations.OutletTimersAct : Prop :=
  (∀ s : State, s.ready = true → s.sound = true → ∀ o : OutletId,
    let x := s.outlet o
    (x.check.feedbackTimer = none → exec (.closeFeedbackTimerExpiry o) s = .next s) ∧
    (x.check.syncTimer = none → exec (.syncTimerExpiry o) s = .next s) ∧
    (∀ n, x.check.feedbackTimer = some n →
      ∃ t, exec (.closeFeedbackTimerExpiry o) s = .next t ∧ (t.outlet o).pb.channel = .tripPulse ∧
        (t.outlet o).check.state = .recovering ∧ (t.outlet o).check.feedbackTimer = none ∧
        t = { (s.elapse n).modify o (fun x => { x with
          pb := (t.outlet o).pb, check := (t.outlet o).check }) with status := t.status } ∧
        t.hasRaised s o .closeFailed = true ∧ t.follows s = true) ∧
    (∀ n, x.check.syncTimer = some n →
      (x.check.state = .evaluating →
        ∃ t, exec (.syncTimerExpiry o) s = .next t ∧ (t.outlet o).state = .cableLive ∧
          (t.outlet o).check.state = .inactive ∧ (t.outlet o).check.outcome = some .syncTimeout ∧
          (t.outlet o).check.attempts = 0 ∧ (t.outlet o).check.syncTimer = none ∧
          (t.outlet o).check.windowAsked = false ∧ (t.outlet o).reference.pending = some .island ∧
          (t.outlet o).pb = ((s.elapse n).outlet o).pb ∧ (t.outlet o).sb = ((s.elapse n).outlet o).sb ∧
          t.hasRaised s o .syncTimeout = true ∧ t.hasRaised s o .stateChanged = true ∧
          t.leavesOthers (s.elapse n) o = true ∧ t.follows s = true) ∧
      (x.check.state = .closing →
        exec (.syncTimerExpiry o) s = .next ((s.elapse n).modifyCheck o fun c =>
          { c with syncTimer := none, notedExpiry := true })) ∧
      (x.check.state = .recovering →
        exec (.syncTimerExpiry o) s = .next ((s.elapse n).modifyCheck o fun c =>
          { c with syncTimer := none, notedExit := some (c.notedExit.getD .syncTimeout) })))) ∧
  (∀ s : State, s.ready = true → s.sound = true → s.accounts = true → ∀ o : OutletId,
    let x := s.outlet o
    (x.energiseTimer = none → exec (.energiseTimerExpiry o) s = .next s) ∧
    (x.handover.parallelTimer = none → exec (.parallelTimerExpiry o) s = .next s) ∧
    (x.handover.overloadTimer = none → exec (.overloadTimerExpiry o) s = .next s) ∧
    (∀ n, x.energiseTimer = some n → x.state = .energising →
      ∃ t, exec (.energiseTimerExpiry o) s = .next t ∧
        t.hasTripped (s.elapse n) o .energiseFail = true ∧ t.sbCommand o = false ∧
        (t.outlet o).pb.channel = .tripPulse ∧ t.leavesOthers (s.elapse n) o = true ∧ t.follows s = true) ∧
    (∀ n, x.handover.parallelTimer = some n → (x.state = .transferIn ∨ x.state = .transferOut) →
      ∃ t, exec (.parallelTimerExpiry o) s = .next t ∧
        t = { (s.elapse n).modify o (fun x => { x with
          state := .separating, phase := none, pb := (t.outlet o).pb
          handover := { x.handover with parallelTimer := none, overloadTimer := none, aborting := false
                                        lastSeparation := some .parallelTimeout }
          reference := { x.reference with pending := some .parallel, rising := false } }) with
            status := t.status } ∧
        (t.outlet o).pb.channel = .tripPulse ∧ (t.outlet o).pb.tripTimer = some (200 * Config.ticksPerMs) ∧
        t.hasRaised s o (if x.state = .transferOut then .returnIncomplete else .transferIncomplete) = true ∧
        t.hasRaised s o .stateChanged = true ∧ t.follows s = true) ∧
    (∀ n, x.handover.overloadTimer = some n → (x.state = .transferIn ∨ x.state = .transferOut) →
      ∃ t, exec (.overloadTimerExpiry o) s = .next t ∧ (t.outlet o).state = .separating ∧
        (t.outlet o).pb.channel = .tripPulse ∧ (t.outlet o).handover.overloadTimer = none ∧
        (t.outlet o).handover.parallelTimer = none ∧ (t.outlet o).handover.lastSeparation = some .overload ∧
        (t.outlet o).session = x.session ∧ t.hasRaised s o .overloadSeparation = true ∧
        t.leavesOthers (s.elapse n) o = true ∧ t.follows s = true) ∧
    (∀ n, x.handover.overloadTimer = some n → x.state = .shoreSupply →
      ∃ t, exec (.overloadTimerExpiry o) s = .next t ∧
        t.hasTripped (s.elapse n) o .overload = true ∧ t.sbCommand o = false ∧
        (t.outlet o).pb.channel = .tripPulse ∧ t.leavesOthers (s.elapse n) o = true ∧ t.follows s = true))

/-! ### The module pool -/

/-- MODULE_ANSWER and MODULE_CHARGED (R45, R46): an answer makes the module ANSWERING for the next 100 ms;
CHARGED in PRECHARGING leads to SELF_TEST with TEST due and its timer of 2 s. Nothing else changes but what the
grant queue makes of a module that has become free. That a report counts as an answer, and outside its state is
only an answer, is the model's reading (log entry 27). MODULE_RESULT (R47, R48): a pass with no other signature
expected enters STANDBY, and RUNNING at once where the outlet's group runs; a fail or another signature faults
the module; outside SELF_TEST it is only an answer (log entry 27, the model's reading). -/
def Obligations.ModuleReportsMoveLifecycle : Prop :=
  (∀ s : State, s.ready = true → s.sound = true → ∀ m : Fin 8,
    let k : Module := { s.module m with answering := true, silence := some (100 * Config.ticksPerMs) }
    (∃ t, exec (.moduleAnswer m) s = .next t ∧ k.keptBy (t.module m) = true ∧
      (∀ j, j ≠ m → (s.module j).keptBy (t.module j) = true) ∧
      (∀ o, (t.outlet o).kept = (s.outlet o).kept) ∧
      ((s.module m).answering = true ∨ (s.module m).state ≠ .off →
        t = { s with modules := s.modules.set m.val k }) ∧
      t.common = s.common ∧ t.follows s = true) ∧
    ((s.module m).state = .precharging →
      exec (.moduleCharged m) s = .next { s with
        modules := s.modules.set m.val { k with
          state := .selfTest, precharge := none, selfTest := some (2 * Config.ticksPerSecond)
          command := some .test } }) ∧
    ((s.module m).state ≠ .precharging → exec (.moduleCharged m) s = exec (.moduleAnswer m) s)) ∧
  (∀ s : State, s.ready = true → s.sound = true → s.accounts = true → ∀ (m : Fin 8) (sig : BitVec 32),
    let k := s.module m
    (k.state ≠ .selfTest → ∀ pass, exec (.moduleResult m pass sig) s = exec (.moduleAnswer m) s) ∧
    (∀ o, k.group = some o → k.state = .selfTest →
      (∃ t, exec (.moduleResult m false sig) s = .next t ∧ t.hasFaulted s m o .selfTestFail = true ∧
        t.follows s = true) ∧
      (k.signature ≠ 0 → k.signature ≠ sig.toNat →
        ∃ t, exec (.moduleResult m true sig) s = .next t ∧ t.hasFaulted s m o .signatureMismatch = true ∧
          t.follows s = true) ∧
      (k.signature = 0 ∨ k.signature = sig.toNat →
        ∃ t, exec (.moduleResult m true sig) s = .next t ∧ (t.module m).group = some o ∧
          (t.module m).selfTest = none ∧
          (t.module m).state = (if (s.outlet o).state.within .cableLive .separating = true ∨
              ((s.outlet o).state = .energising ∧ (s.outlet o).phase = some .ramp)
            then .running else .standby) ∧
          (t.outlet o).state = (s.outlet o).state ∧ (t.outlet o).session = (s.outlet o).session ∧
          (t.outlet o).pb = (s.outlet o).pb ∧
          ((s.outlet o).phase ≠ some .prepare → (t.outlet o).sb = (s.outlet o).sb) ∧
          ((s.outlet o).state = .energising → (s.outlet o).phase = some .prepare →
            ((s.group o).all fun j => j == m || !(s.module j).initial ||
              ((s.module j).state != .precharging && (s.module j).state != .selfTest)) = true →
            (t.outlet o).phase = some .closing ∧
              (s.blocking o = none → (s.outlet o).sb.channel = .opened → t.sbCommand o = true)) ∧
          t.leavesOthers s o = true ∧ t.follows s = true)))

/-- What faults a member (R45, R46, R47, R50): its report, its silence, and the precharge and self-test timers.
A member leaves its group FAULTED with the code; its outlet runs on where a member is left to run, a shortfall
waiting as a request, and trips with NO_MODULES where none is (R53, R15). A module outside every group is
FAULTED too, but for OUT_OF_SERVICE, which records the code alone. That a fault report counts as an answer is
the model's reading (log entry 27). The time at which the row acts is the model's (log entry 2), and a timer
that does not run does not expire (log entry 40, the model's reading). -/
def Obligations.FaultsRemoveMembers : Prop :=
  ∀ s : State, s.ready = true → s.sound = true → s.accounts = true → ∀ m : Fin 8,
    (∀ o, (s.module m).group = some o →
      (∀ code : Byte, code ≠ 0#8 →
        ∃ t, exec (.moduleFault m code) s = .next t ∧ t.hasFaulted s m o (.reported code.toNat) = true ∧
          t.follows s = true) ∧
      (∀ n, (s.module m).silence = some n →
        ∃ t, exec (.moduleSilent m) s = .next t ∧ (t.module m).answering = false ∧
          t.hasFaulted (s.elapse n) m o .linkLost = true ∧ t.follows s = true) ∧
      (∀ n, (s.module m).precharge = some n →
        ∃ t, exec (.prechargeTimerExpiry m) s = .next t ∧
          t.hasFaulted (s.elapse n) m o .prechargeTimeout = true ∧ t.follows s = true) ∧
      (∀ n, (s.module m).selfTest = some n →
        ∃ t, exec (.selfTestTimerExpiry m) s = .next t ∧
          t.hasFaulted (s.elapse n) m o .selfTestTimeout = true ∧ t.follows s = true)) ∧
    ((s.module m).group = none →
      (∀ code : Byte, code ≠ 0#8 →
        ∃ t, exec (.moduleFault m code) s = .next t ∧
          t = { s with
            modules := s.modules.set m.val { s.module m with
              answering := true, silence := some (100 * Config.ticksPerMs)
              state := if (s.module m).state = .outOfService then .outOfService else .faulted
              rest := if (s.module m).state = .outOfService then (s.module m).rest else none
              lastFault := some (.reported code.toNat) }
            status := t.status } ∧ t.follows s = true) ∧
      (∀ n, (s.module m).silence = some n →
        exec (.moduleSilent m) s = .next ((s.elapse n).modifyModule m fun k =>
          { k with answering := false, silence := none }))) ∧
    ((s.module m).silence = none → exec (.moduleSilent m) s = .next s) ∧
    ((s.module m).precharge = none → exec (.prechargeTimerExpiry m) s = .next s) ∧
    ((s.module m).selfTest = none → exec (.selfTestTimerExpiry m) s = .next s)

/-- The ends of a drain, of a rest and of a capacity wait (R44, R49, R57, R10, R82): a drained member leaves its
group for OFF with a rest of 30 s, or for OUT_OF_SERVICE, and the RUNNING members take its share; a rested
module may be granted; an expired top-up is dropped with TOPUP_EXPIRED, and an expired initial request ends the
session with NO_CAPACITY, at once where the SB reports open or is STUCK, and once it opens otherwise (R21). The
time at which the row acts is the model's (log entry 2), and a timer that does not run does not expire (log
entry 40, the model's reading). A session that closes is billed for its FINAL interval and priced, its outlet's
accumulators are zero, and it is placed with its FINAL record or held (R22, R168, R174). What a FINAL interval
that never opened carries is the model's reading (log entry 30, DEDUCED), as is that a placed record's merged
figures are zero (log entry 46, DEDUCED). -/
def Obligations.PoolTimersRun : Prop :=
  ∀ s : State, s.ready = true → s.sound = true → s.accounts = true →
    (∀ m : Fin 8,
      ((s.module m).drain = none → exec (.drainTimerExpiry m) s = .next s) ∧
      ((s.module m).rest = none → exec (.restTimeExpiry m) s = .next s) ∧
      (∀ n, (s.module m).drain = some n → ∀ o, (s.module m).group = some o →
        (s.module m).state = .releasing →
        ∃ t, exec (.drainTimerExpiry m) s = .next t ∧ (t.module m).group = none ∧
          (t.module m).share = 0 ∧ (t.module m).drain = none ∧ (t.module m).command = some .stop ∧
          (t.module m).state = (if (s.module m).service then .outOfService else .off) ∧
          (t.module m).rest = (if (s.module m).service then none else some (30 * Config.ticksPerSecond)) ∧
          (∀ j, j ≠ m → { t.module j with share := 0 } = { (s.elapse n).module j with share := 0 }) ∧
          (∀ j, j ≠ m → (s.module j).group ≠ some o → t.module j = (s.elapse n).module j) ∧
          ((s.outlet o).reference.mode ≠ .stopped → (t.members o [.running]) ≠ [] →
            ((t.members o [.releasing]).map fun j => (t.module j).share).sum ≤ 1000 →
            ((t.members o [.running, .releasing]).map fun j => (t.module j).share).sum = 1000) ∧
          t = { s.elapse n with modules := t.modules, status := t.status } ∧ t.follows s = true) ∧
      (∀ n, (s.module m).rest = some n →
        ∃ t, exec (.restTimeExpiry m) s = .next t ∧
          ({ (s.elapse n).module m with rest := none }).keptBy (t.module m) = true ∧
          (∀ j, j ≠ m → ((s.elapse n).module j).keptBy (t.module j) = true) ∧
          (∀ o, (t.outlet o).kept = ((s.elapse n).outlet o).kept) ∧
          t.common = (s.elapse n).common ∧ t.follows s = true)) ∧
    ∀ o : OutletId,
      (s.request o = none → exec (.grantWaitExpiry o) s = .next s) ∧
      ∀ q, s.request o = some q →
        (q.kind = .topUp →
          ∃ t, exec (.grantWaitExpiry o) s = .next t ∧ t.request o = none ∧
            t.hasRaised s o .topupExpired = true ∧ (t.outlet o).state = (s.outlet o).state ∧
            (t.outlet o).limit = (s.outlet o).limit ∧ t.group o = s.group o ∧
            t.leavesOthers (s.elapse q.wait) o = true ∧ t.follows s = true) ∧
        (q.kind = .initial → (s.outlet o).sb.feedback = false → ∀ r, (s.outlet o).session = some r →
          ∃ t, exec (.grantWaitExpiry o) s = .next t ∧ t.request o = none ∧
            t.hasClosed s o r .noCapacity = true ∧
            (∀ p, p ≠ o → (t.outlet p).kept = ((s.elapse q.wait).outlet p).kept) ∧
            (t.outlet o).sb = ((s.elapse q.wait).outlet o).sb ∧ t.follows s = true) ∧
        (q.kind = .initial → (s.outlet o).sb.feedback = true → ∀ r, (s.outlet o).session = some r →
          ∃ t, exec (.grantWaitExpiry o) s = .next t ∧ t.request o = none ∧
            ((s.outlet o).sb.channel = .stuck → t.hasClosed s o r .noCapacity = true) ∧
            ((s.outlet o).sb.channel ≠ .stuck → (t.outlet o).state = .deEnergising ∧
              (t.outlet o).endCause = some .noCapacity ∧ (t.outlet o).session = some r) ∧
            (∀ p, p ≠ o → (t.outlet p).kept = ((s.elapse q.wait).outlet p).kept) ∧
            (t.outlet o).sb = ((s.elapse q.wait).outlet o).sb ∧ t.follows s = true)

/-! ### Periodic events and measurement -/

/-- REFERENCE_UPDATE (R68): the accumulators of the generators that do not stand in STOPPED advance by their
word, modulo 2^24, and nothing else changes but the time, which passes to the instant the update falls due (log
entry 2, the model's choice). GRID_OVER_TIMER_EXPIRY (R96, R162): GRID_OVER is Set, the timer stops, and every
open interval is marked. The time at which the row acts is the model's (log entry 2), and a timer that does not
run does not expire (log entry 40, the model's reading). -/
def Obligations.PeriodicTimersAdvance : Prop :=
  (∀ s : State, s.ready = true →
    let u := s.elapse s.due.reference
    ∃ t, exec .referenceUpdate s = .next t ∧
      t = { u with due := { u.due with reference := 1000 }, outlets := t.outlets } ∧
      ∀ o, t.outlet o = { u.outlet o with reference := { (u.outlet o).reference with
        accumulator := if (u.outlet o).reference.mode = .stopped then (u.outlet o).reference.accumulator
          else (u.outlet o).reference.accumulator + BitVec.ofNat 24 (u.outlet o).reference.word } }) ∧
  (∀ s : State, s.ready = true →
    (s.grid.overTimer = none → exec .gridOverTimerExpiry s = .next s) ∧
    ∀ n, s.grid.overTimer = some n →
      ∃ t, exec .gridOverTimerExpiry s = .next t ∧
        t.grid = { (s.elapse n).grid with overTimer := none, overSet := true } ∧
        t.status.part.conditions.contains .gridOver = true ∧
        (∀ o, ((s.outlet o).interval = none → t.outlet o = (s.elapse n).outlet o) ∧
          ∀ i, (s.outlet o).interval = some i → t.outlet o = { (s.elapse n).outlet o with
            interval := some { i with flags := addFlags i.flags [.gridOver] } }) ∧
        t = { s.elapse n with outlets := t.outlets, grid := t.grid, status := t.status } ∧ t.follows s = true)

/-- CONTROL_STEP (R67, R69, R70, R71, R78, R79, R82): a generator in STOPPED with nothing pending stands; in
every other one the pending mode takes effect, the set values move by at most one slew step, the word follows,
and in PARALLEL the setpoint moves by at most one ramp step and never above the limit. No outlet state changes.
The instant of the step is the one at which it falls due (log entry 2, the model's choice). What each mode aims
at in a control step (R72, R73, R74, R75, R76): SOFT_START the nominal frequency and the ramp value of its
count; ISLAND the nominal values; TRACK the ship bus with the slip target and the offset of the snapshot,
clamped, or where the SHIP record is INVALID its last targets, and at the step that applies a pending TRACK the
nominal ones, a TRACK selected again while in force too (log entry 84, DESIGN CHOICE); PARALLEL the cable's
frequency with the trim, clamped, or its last target where the CABLE record is INVALID, and the nominal voltage,
the trim having moved by the clamped step of the power error where the power record is VALID. A set value within
one slew step of its target takes it, and one farther off moves a full step towards it (R71); in PARALLEL the
setpoint does so towards the ramp target, the smaller of limit and ship bus load when RISING and 0 when FALLING,
and is then clamped to the limit (R78). The voltage target in SOFT_START is the model's reading (log entry 21,
DEDUCED). Every module is addressed once at a control step (section 3.2): its message carries the command due,
which is then no longer due, and for a RUNNING or RELEASING member the reference of its outlet and its share. -/
def Obligations.ControlStepMovesReference : Prop :=
  (∀ s : State, s.ready = true →
    let u := s.elapse s.due.control
    ∃ t, exec .controlStep s = .next t ∧
      t = { u with
        due := { u.due with control := 96000 }, outlets := t.outlets, modules := t.modules } ∧
      ∀ o,
        let r := (u.outlet o).reference
        let r' := (t.outlet o).reference
        t.outlet o = { u.outlet o with reference := r', rampComplete := (t.outlet o).rampComplete } ∧
        ((u.outlet o).session = none ∨ (r.mode = .stopped ∧ r.pending = none) → t.outlet o = u.outlet o) ∧
        (∀ k, (u.outlet o).session = some k → ¬(r.mode = .stopped ∧ r.pending = none) →
          r'.pending = none ∧ r'.mode = r.pending.getD r.mode ∧ r'.word = wordOf r'.setFreq ∧
          (r.pending ≠ some .softStart → r'.accumulator = r.accumulator ∧
            distance r'.setFreq r.setFreq ≤ max 1 (k.snapshot.fSlew / 100) ∧
            (distance r'.freqTarget r.setFreq ≤ max 1 (k.snapshot.fSlew / 100) →
              r'.setFreq = r'.freqTarget) ∧
            (r'.mode ≠ .softStart →
              distance r'.setVolt r.setVolt ≤ max 1 (k.snapshot.vSlew / 100))) ∧
          (r.pending = some .softStart → r'.setFreq = k.snapshot.nomFreq ∧ r'.accumulator = 0 ∧
            r'.softSteps = min (k.snapshot.softStart * 100) 1) ∧
          (r'.mode = .softStart → r'.setVolt =
            natHalfUp (k.snapshot.nomVolt * r'.softSteps) (k.snapshot.softStart * 100)) ∧
          (r'.mode ≠ .parallel → r'.setpoint = r.setpoint ∧ r'.trim = r.trim) ∧
          (r'.mode = .parallel → r'.setpoint ≤ (u.outlet o).limit ∧
            (r.setpoint ≤ (u.outlet o).limit →
              distance r'.setpoint r.setpoint ≤ max 1 (k.snapshot.ramp / 100)) ∧
            ((u.outlet o).power.validity ≠ .valid → r'.trim = r.trim) ∧
            ((u.outlet o).power.validity = .valid → -500 ≤ r'.trim ∧ r'.trim ≤ 500)))) ∧
  (∀ s : State, s.ready = true →
    let u := s.elapse s.due.control
    ∃ t, exec .controlStep s = .next t ∧ ∀ (o : OutletId) (k : Session), (u.outlet o).session = some k →
      let x := u.outlet o
      let p := k.snapshot
      let r := x.reference
      let r' := (t.outlet o).reference
      let nearNominal (f : Int) : Nat := (max ((p.nomFreq : Int) - 2000) (min (p.nomFreq + 2000) f)).toNat
      let tenth := (p.nomVolt + 5) / 10
      let moved (rate target n : Nat) : Nat :=
        if distance n target ≤ max 1 (rate / 100) then target
        else if n < target then n + max 1 (rate / 100) else n - max 1 (rate / 100)
      let rampTarget := if r.rising = false then 0 else match x.handover.shipStatus with
        | none => x.limit
        | some h => min x.limit h.busLoad
      ¬(r.mode = .stopped ∧ r.pending = none) →
      (r.pending ≠ some .softStart → r'.setFreq = moved p.fSlew r'.freqTarget r.setFreq) ∧
      (r'.mode ≠ .softStart → r'.setVolt = moved p.vSlew r'.voltTarget r.setVolt) ∧
      (r'.mode = .parallel → r'.setpoint = min x.limit (moved p.ramp rampTarget r.setpoint)) ∧
      (r'.mode = .softStart → r'.freqTarget = p.nomFreq ∧
        r'.softSteps = min (p.softStart * 100) ((if r.pending = some .softStart then 0 else r.softSteps) + 1) ∧
        r'.voltTarget = natHalfUp (p.nomVolt * r'.softSteps) (p.softStart * 100)) ∧
      (r'.mode = .island → r'.freqTarget = p.nomFreq ∧ r'.voltTarget = p.nomVolt) ∧
      (r'.mode = .track → x.ship.record.validity ≠ .invalid →
        r'.freqTarget = nearNominal (x.ship.record.frequency + p.slipTarget) ∧
        r'.voltTarget = max (p.nomVolt - tenth) (min (p.nomVolt + tenth)
          ((x.ship.record.rms * (1000 + p.vOffset) + 500) / 1000))) ∧
      (r'.mode = .track → x.ship.record.validity = .invalid →
        r'.freqTarget = (if r.pending = some .track then p.nomFreq else r.freqTarget) ∧
        r'.voltTarget = (if r.pending = some .track then p.nomVolt else r.voltTarget)) ∧
      (r'.mode = .parallel →
        r'.freqTarget = (if x.cable.record.validity = .invalid then r.freqTarget
          else nearNominal (x.cable.record.frequency + r'.trim)) ∧
        r'.voltTarget = p.nomVolt ∧
        (x.power.validity = .valid → r'.trim = max (-500) (min 500 (r.trim + max (-50) (min 50
          (divHalfAway (((r'.setpoint : Int) - divHalfAway x.power.p 1000) * p.trimGain) 1000))))))) ∧
  (∀ s : State, s.ready = true →
    let u := s.elapse s.due.control
    ∃ t, exec .controlStep s = .next t ∧ ∀ m : Fin 8,
      (t.module m).command = none ∧
      (t.module m).message = some
        { command := (s.module m).command
          reference := if (s.module m).state = .running ∨ (s.module m).state = .releasing then
              (s.module m).group.map fun o => ((t.outlet o).reference.accumulator,
                (t.outlet o).reference.word, (t.outlet o).reference.setVolt)
            else none
          share := (t.module m).share } ∧
      { t.module m with command := none, message := none, share := 0, drainCount := 0 } =
        { u.module m with command := none, message := none, share := 0, drainCount := 0 } ∧
      ((s.module m).state = .releasing → ∀ o, (s.module m).group = some o →
        (t.outlet o).reference.mode ≠ .stopped → (s.outlet o).session.isSome = true →
        (t.module m).drainCount = min 200 ((s.module m).drainCount + 1) ∧
        (t.module m).share =
          natHalfUp ((s.module m).releaseShare * (200 - (t.module m).drainCount)) 200))

/-- SAMPLE_SET (R84, R85): every channel takes its sample at the timestamp at which the set falls due. Where no
channel accepts a crossing, nothing else changes; no sample changes a session's figures, the receive side of a
link or the log. The instant of the set is the one at which it falls due (log entry 2, the model's choice), and
the order of the deliveries of one set is the model's reading (log entry 20). Crossing detection (R85, R86): a
sample below the arming level arms the channel; a sample at or above 0 after one below it is a candidate, judged
at the next sample; the candidate is accepted where that sample is at or above 0 and the channel is armed, and
dropped otherwise. An accepted crossing is timed by interpolation between the samples of the candidate, disarms
the channel, restarts the loss timer at 100 ms, and opens a cycle where no last crossing was held and closes one
where it was, valid by its frequency and its RMS (R87, R88). The samples of a cycle (R87): those from the sample
s_b of the crossing that opened it up to and including the sample s_a of the crossing that closes it, whose s_b
is the last sample taken before the crossing is accepted. The RMS is the square root of the mean of the squares,
rounded half-up. The power of a cycle (R93, R94): P1 and P2 are the means of u_ab times i_a and of the negative
of u_bc times i_c, P their sum and Q 1.732 times P2 less P1, each rounded half-away-from-zero; a cycle with a
current sample at the clipping limit, or an invalid CABLE cycle, keeps P and Q and moves the power record's own
validity by R89's table; a crossing that only opens a cycle leaves the record as it is. -/
def Obligations.SamplesFeedChannels : Prop :=
  (∀ s : State, s.ready = true → s.sound = true → ∀ k : SampleSet,
    let u := s.elapse s.due.sample
    ∃ t, exec (.sampleSet k) s = .next t ∧
      t.timestamp = s.timestamp + BitVec.ofNat 32 s.due.sample ∧ t.due.sample = 1000 ∧
      (∀ o,
        let cable := (u.outlet o).cable.take (u.outlet o).nominalVoltage t.timestamp (cableSample (samplesOf k o))
        let ship := (u.outlet o).ship.take (u.outlet o).nominalVoltage t.timestamp (shipSample (samplesOf k o))
        (t.outlet o).cable = cable.1 ∧ (t.outlet o).ship = ship.1 ∧
        (t.outlet o).power = (u.outlet o).power.pass cable.2 ∧
        (t.outlet o).meter = (s.outlet o).meter ∧ (t.outlet o).interval = (s.outlet o).interval ∧
        (t.outlet o).held = (s.outlet o).held ∧ (t.outlet o).interlocks = (s.outlet o).interlocks ∧
        (t.outlet o).link.fifo = (s.outlet o).link.fifo ∧
        (cable.2 = none → ship.2 = none →
          (t.outlet o).state = (s.outlet o).state ∧ (t.outlet o).check = (u.outlet o).check ∧
          (t.outlet o).handover = (u.outlet o).handover ∧ (t.outlet o).pb = (u.outlet o).pb)) ∧
      t.grid.channel = (u.grid.channel.take 1000 t.timestamp (gridSample k)).1 ∧
      ((∀ o, ((u.outlet o).cable.take (u.outlet o).nominalVoltage t.timestamp
            (cableSample (samplesOf k o))).2 = none ∧
          ((u.outlet o).ship.take (u.outlet o).nominalVoltage t.timestamp
            (shipSample (samplesOf k o))).2 = none) →
        (u.grid.channel.take 1000 t.timestamp (gridSample k)).2 = none →
        t = { u with
          due := t.due, outlets := t.outlets, grid := { u.grid with channel := t.grid.channel } } ∧
        ∀ o, t.outlet o = { u.outlet o with
          cable := (t.outlet o).cable, ship := (t.outlet o).ship }) ∧
      t.log = s.log ∧ t.clock = s.clock ∧ t.tariff = s.tariff ∧ t.terminal = s.terminal ∧ t.follows s = true) ∧
  (∀ (c : Channel) (nominal : Nat) (now : Timestamp) (x : ChannelSample),
    let r := c.take nominal now x
    let level : Nat := (nominal * 71 + 500) / 1000
    let armed := c.armed = true ∨ x.wave < -(level : Int)
    r.1.previous = some x.wave ∧
    (r.2 = none → (r.1.armed = true ↔ armed) ∧ r.1.lastCrossing = c.lastCrossing ∧ r.1.record = c.record ∧
      r.1.lossTimer = c.lossTimer) ∧
    (c.candidate = none → r.2 = none ∧
      ∀ p, c.previous = some p → r.1.candidate =
        if p < 0 ∧ 0 ≤ x.wave then some { before := p, beforeTime := now - 1000, after := x } else none) ∧
    (c.candidate = none → c.previous = none → r.1.candidate = none) ∧
    (∀ k, c.candidate = some k →
      r.1.candidate = none ∧ (x.wave < 0 ∨ ¬armed → r.2 = none) ∧
      (0 ≤ x.wave → armed → k.before < 0 → 0 ≤ k.after.wave →
        let a := k.before.natAbs
        let d := (k.after.wave - k.before).toNat
        let time := k.beforeTime + BitVec.ofNat 32 ((2000 * a + d) / (2 * d))
        r.1.armed = false ∧ r.1.lastCrossing = some time ∧ r.1.record.crossing = some time ∧
        r.1.lossTimer = some (100 * Config.ticksPerMs) ∧
        (c.lastCrossing = none →
          r.2 = some .opened ∧ r.1.record = { c.record with crossing := some time }) ∧
        ∀ last, c.lastCrossing = some last → 0 < (time - last).toNat →
          let period := (time - last).toNat
          let frequency := (19200000000 + period) / (2 * period)
          let rms := rootMeanSquare c.sums.squares c.sums.count
          let valid : Bool := 40000 ≤ frequency && frequency ≤ 70000 && (nominal * 20 + 50) / 100 ≤ rms
          r.2 = some (.closed valid c.sums) ∧
            (valid = true → r.1.record = { frequency := frequency, period := period, rms := rms
                                           crossing := some time, valueTime := some time, validity := .valid })))) ∧
  ((∀ (c : Channel) (nominal : Nat) (now : Timestamp) (k : Candidate) (x : ChannelSample) (p : Passage),
    c.candidate = some k → (c.take nominal now x).2 = some p →
    ∀ later : List (Timestamp × ChannelSample),
      let r := (c.take nominal now x).1.takes nominal later
      r.2 = true → ∀ (at' : Timestamp) (y : ChannelSample) (valid : Bool) (sums : CycleSums),
        (r.1.take nominal at' y).2 = some (.closed valid sums) →
        let cycle := (k.after :: x :: later.map (·.2)).dropLast
        sums.count = cycle.length ∧ sums.squares = (cycle.map fun z => z.wave.natAbs * z.wave.natAbs).sum ∧
          sums.product1 = (cycle.map (·.product1)).sum ∧ sums.product2 = (cycle.map (·.product2)).sum ∧
          sums.power = (cycle.map (·.power)).sum ∧ sums.clipped = cycle.any (·.clipped)) ∧
  ∀ squares count : Nat, 0 < count →
    let r := rootMeanSquare squares count
    (0 < r → (2 * r - 1) * (2 * r - 1) * count ≤ 4 * squares) ∧ 4 * squares < (2 * r + 1) * (2 * r + 1) * count) ∧
  ((∀ x : OutletSamples,
    (cableSample x).wave = x.uab.toInt ∧ (cableSample x).product1 = x.uab.toInt * x.ia.toInt ∧
      (cableSample x).product2 = -(x.ubc.toInt * x.ic.toInt) ∧ (shipSample x).wave = x.ship.toInt ∧
      ((cableSample x).clipped = true ↔
        x.ia.toInt = -32768 ∨ x.ia.toInt = 32767 ∨ x.ic.toInt = -32768 ∨ x.ic.toInt = 32767)) ∧
  ∀ (p : PowerRecord) (sums : CycleSums) (valid : Bool),
    let q := p.pass (some (.closed valid sums))
    p.pass none = p ∧ p.pass (some .opened) = p ∧
    (valid = true → sums.clipped = false → 0 < sums.count →
      let n : Int := sums.count
      let active := sums.product1 + sums.product2
      let reactive := 1732 * (sums.product2 - sums.product1)
      q.validity = .valid ∧
      (0 ≤ active → 2 * active - n < 2 * n * q.p ∧ 2 * n * q.p ≤ 2 * active + n) ∧
      (active < 0 → 2 * active - n ≤ 2 * n * q.p ∧ 2 * n * q.p < 2 * active + n) ∧
      (0 ≤ reactive → 2 * reactive - 1000 * n < 2000 * n * q.q ∧ 2000 * n * q.q ≤ 2 * reactive + 1000 * n) ∧
      (reactive < 0 → 2 * reactive - 1000 * n ≤ 2000 * n * q.q ∧ 2000 * n * q.q < 2 * reactive + 1000 * n)) ∧
    (valid = false ∨ sums.clipped = true → q.p = p.p ∧ q.q = p.q ∧
      (p.validity = .valid → q.validity = .held 1) ∧ (p.validity = .held 1 → q.validity = .held 2) ∧
      (p.validity = .held 2 → q.validity = .held 3) ∧
      (p.validity = .held 3 ∨ p.validity = .invalid → q.validity = .invalid)))

/-- LOSS_TIMER_EXPIRY (R89, R90, R94, R95): the channel counts an invalid cycle, forgets its last crossing and
its candidate, and restarts its timer at 100 ms; the figures of its record are kept. An expiry taken before the
sample set of its instant leaves the candidate to that set, whose crossing is accepted, finds no last accepted
crossing and only opens a cycle, with s_b and the present sample as its first samples; that R90's two sentences
on the candidate part in this way is the model's reading (log entry 65, DEDUCED). The time at which the row acts
is the model's (log entry 2), and a timer that does not run does not expire (log entry 40, the model's reading).
What a loss expiry does at the readers of its record. CABLE (R63, R145, R147): SEPARATING completes
where the PB channel is IDLE and the PB reports open, and no other state is left; the overload timer stands, the
record then being HELD or INVALID; and marked members are released where the power held is within what the rest
of the group can carry, the limit falling where that leaves less than it was, with a CAPACITY frame to the ship
(R52). That outside ENERGISING to SEPARATING nothing is released at a loss is the model's reading (log entry 54,
DEDUCED). SHIP (R99, R108): a check in EVALUATING or CLOSING takes the result RECORDS and asks WINDOW
de-asserted, its figures as they were; RECOVERING ends once the PB channel is IDLE and the PB reports open, with
the noted exit or in EVALUATING. That it leaves the last result and the last figures as they were in RECOVERING
is the model's choice (log entry 57). -/
def Obligations.LossTimersAct : Prop :=
  (∀ s : State, s.ready = true → s.sound = true →
    (∀ (ch : ChannelId) (n : Nat), s.lossTimer ch = some n →
      ∃ t, exec (.lossTimerExpiry ch) s = .next t ∧
        t.lossTimer ch = some (100 * Config.ticksPerMs) ∧
        (∀ o, ch = .cable o →
          (t.outlet o).cable = { (s.outlet o).cable with
            candidate := if s.due.sample ≤ n then (s.outlet o).cable.candidate else none
            lastCrossing := none, lossTimer := some (100 * Config.ticksPerMs)
            sums := CycleSums.zero
            record := { (s.outlet o).cable.record with
              crossing := none, validity := (s.outlet o).cable.record.validity.onInvalid } } ∧
          (t.outlet o).power = { (s.outlet o).power with validity := (s.outlet o).power.validity.onInvalid } ∧
          (t.outlet o).ship = ((s.elapse n).outlet o).ship) ∧
        (∀ o, ch = .ship o →
          (t.outlet o).ship = { (s.outlet o).ship with
            candidate := if s.due.sample ≤ n then (s.outlet o).ship.candidate else none
            lastCrossing := none, lossTimer := some (100 * Config.ticksPerMs)
            sums := CycleSums.zero
            record := { (s.outlet o).ship.record with
              crossing := none, validity := (s.outlet o).ship.record.validity.onInvalid } } ∧
          (t.outlet o).cable = ((s.elapse n).outlet o).cable ∧ (t.outlet o).power = (s.outlet o).power) ∧
        (ch = .grid →
          t = { s.elapse n with grid := t.grid, status := t.status } ∧
          t.grid.channel = { s.grid.channel with
            candidate := if s.due.sample ≤ n then s.grid.channel.candidate else none
            lastCrossing := none, lossTimer := some (100 * Config.ticksPerMs)
            sums := CycleSums.zero
            record := { s.grid.channel.record with
              crossing := none, validity := s.grid.channel.record.validity.onInvalid } } ∧
          t.grid.importPower = s.grid.importPower ∧
          (s.grid.channel.record.validity = .held 3 → t.grid.overTimer = none ∧ t.grid.overSet = false)) ∧
        t.log = s.log ∧ t.terminal = s.terminal ∧ t.follows s = true) ∧
    ∀ ch, s.lossTimer ch = none → exec (.lossTimerExpiry ch) s = .next s) ∧
  (∀ (c : Channel) (k : Candidate), c.candidate = some k → c.armed = true → k.before < 0 → 0 ≤ k.after.wave →
    ∀ (nominal : Nat) (now : Timestamp) (x : ChannelSample), 0 ≤ x.wave →
      let first := (c.lose true).take nominal now x
      let last := (c.lose false).take nominal now x
      let a := k.before.natAbs
      let d := (k.after.wave - k.before).toNat
      let time := k.beforeTime + BitVec.ofNat 32 ((2000 * a + d) / (2 * d))
      (first.2 = some .opened ∧ first.1.lastCrossing = some time ∧
        first.1.lossTimer = some (100 * Config.ticksPerMs) ∧
        first.1.record = { c.record with crossing := some time, validity := c.record.validity.onInvalid } ∧
        first.1.sums.count = 2 ∧
        first.1.sums.squares = k.after.wave.natAbs * k.after.wave.natAbs + x.wave.natAbs * x.wave.natAbs) ∧
      (0 ≤ c.previous.getD 0 → last.2 = none ∧ last.1.candidate = none ∧ last.1.lastCrossing = none ∧
        last.1.record = { c.record with crossing := none, validity := c.record.validity.onInvalid })) ∧
  (∀ s : State, s.ready = true → s.sound = true → s.accounts = true → ∀ (o : OutletId) (n : Nat),
    let u := s.elapse n
    let x := u.outlet o
    let unwound := x.pb.channel = .idle ∧ x.pb.feedback = false
    (s.lossTimer (.cable o) = some n →
      let power := { x.power with validity := x.power.validity.onInvalid }
      let marked := (s.members o [.running]).filter fun m => (s.module m).releasePending
      let spare : Int := (s.groupCapacity o : Int) - s.ratings marked
      let released := power.validity ≠ .invalid ∧ power.p ≤ spare * 900
      ∃ t, exec (.lossTimerExpiry (.cable o)) s = .next t ∧
        (if x.state = .separating ∧ unwound then
          (t.outlet o).state = .cableLive ∧ (t.outlet o).reference.pending = some .island ∧
            (t.outlet o).reference.setpoint = 0 ∧ (t.outlet o).reference.trim = 0 ∧
            t.hasRaised s o .separated = true ∧ t.hasRaised s o .stateChanged = true
        else if (t.outlet o).limit = x.limit then
          t.outlet o = { x with cable := (t.outlet o).cable, power := power }
        else
          t.modules ≠ u.modules ∧ (t.outlet o).limit ≤ min (t.admitted o) (t.groupCapacity o) ∧
            t.outlet o = { x with
              cable := (t.outlet o).cable, power := power, limit := (t.outlet o).limit
              reference := x.reference.clampTo (t.outlet o).limit
              link := ((u.send o (.capacity (t.outlet o).limit)).outlet o).link }) ∧
        (t.outlet o).power = power ∧ (t.outlet o).pb = x.pb ∧ (t.outlet o).check = x.check ∧
        (t.outlet o).handover.overloadTimer = x.handover.overloadTimer ∧
        (x.state.supplied = true → released → ∀ m ∈ marked,
          (t.module m).state = .releasing ∧ (t.module m).releasePending = false ∧ (t.module m).group = some o ∧
            (t.module m).drain = some (2 * Config.ticksPerSecond) ∧ (t.module m).drainCount = 0 ∧
            (t.module m).releaseShare = (s.module m).share) ∧
        (x.state.supplied = false ∨ ¬released ∨ marked = [] → t.modules = u.modules) ∧
        (∀ q, q ≠ o → t.outlet q = u.outlet q) ∧
        (∀ m, (s.module m).group ≠ some o → t.module m = u.module m) ∧
        t.grants = u.grants ∧ t.common = u.common ∧ t.follows s = true) ∧
    (s.lossTimer (.ship o) = some n →
      ∃ t, exec (.lossTimerExpiry (.ship o)) s = .next t ∧
        (x.check.state = .inactive → (t.outlet o).check = x.check) ∧
        (x.check.state = .evaluating ∨ x.check.state = .closing →
          (t.outlet o).check = { x.check with result := some .records, windowAsked := false }) ∧
        (x.check.state = .recovering → ¬unwound → (t.outlet o).check = x.check) ∧
        (x.check.state = .recovering → unwound → x.check.notedExit = none →
          (t.outlet o).check = { x.check with state := .evaluating }) ∧
        (x.check.state ≠ .recovering ∨ ¬unwound ∨ x.check.notedExit = none →
          t.outlet o = { x with ship := (t.outlet o).ship, check := (t.outlet o).check }) ∧
        (x.check.state = .recovering → unwound → ∀ out, x.check.notedExit = some out →
          (t.outlet o).state = .cableLive ∧ (t.outlet o).check.state = .inactive ∧
          (t.outlet o).check.outcome = some out ∧ (t.outlet o).check.attempts = 0 ∧
          (t.outlet o).check.syncTimer = none ∧ (t.outlet o).check.result = x.check.result ∧
          (t.outlet o).check.figures = x.check.figures ∧ (t.outlet o).reference.pending = some .island ∧
          t.hasRaised s o .stateChanged = true ∧ (∀ e, out.event = some e → t.hasRaised s o e = true)) ∧
        (t.outlet o).pb = x.pb ∧ t.modules = u.modules ∧ (∀ q, q ≠ o → t.outlet q = u.outlet q) ∧
        t.grants = u.grants ∧ t.common = u.common ∧ t.follows s = true))

/-- The delivery of an outlet's CABLE record, at a sample set in which that channel alone accepts a crossing
(R91): in RAMP the cable is verified at a VALID record within the tolerances, and the outlet goes to CABLE_LIVE
(R13); SEPARATING completes once the PB channel is IDLE and the PB reports open (R145). With the power record of
a closed cycle the overload monitor compares (R147), the drained test separates (R144), and marked members are
released where the rest of the group can carry the power (R63). The instant of the set and the order of its
deliveries are the model's (log entries 2 and 20). The delivery of an outlet's SHIP record, at a sample set in
which that channel alone accepts a crossing (R91, R99): a check in EVALUATING or CLOSING evaluates at a crossing
that closed a cycle, and takes the result RECORDS at one that opened one; RECOVERING ends once the PB channel is
IDLE and the PB reports open, with the noted exit or with an evaluation (R108). That a delivery in RECOVERING
which is not evaluated leaves the last result and the last figures as they were is the model's choice (log entry
57). The delivery of the grid import record, at a sample set in which the GRID channel alone accepts a crossing
(R91, R95, R96): a record that is not INVALID with an import above the limit in force starts the grid-over timer
of 60 s where it is stopped; any other stops it and Clears GRID_OVER. The check at a crossing that only opened a
cycle is the model's reading (log entry 20). -/
def Obligations.DeliveriesAct : Prop :=
  (∀ s : State, s.ready = true → s.sound = true → s.accounts = true → ∀ (k : SampleSet) (o : OutletId) (r : Session),
    (s.outlet o).session = some r →
    let u := s.elapse s.due.sample
    let cable (q : OutletId) :=
      (u.outlet q).cable.take (u.outlet q).nominalVoltage u.timestamp (cableSample (samplesOf k q))
    let ship (q : OutletId) :=
      (u.outlet q).ship.take (u.outlet q).nominalVoltage u.timestamp (shipSample (samplesOf k q))
    (∀ q, (q ≠ o → (cable q).2 = none) ∧ (ship q).2 = none) →
    (u.grid.channel.take 1000 u.timestamp (gridSample k)).2 = none → ∀ p : Passage, (cable o).2 = some p →
    let x := u.outlet o
    let record := (cable o).1.record
    let power := x.power.pass (some p)
    let closed : Bool := match p with
      | .opened => false
      | .closed _ _ => true
    let verified := x.rampComplete = true ∧ record.validity = .valid ∧
      distance record.rms r.snapshot.nomVolt ≤ natHalfUp (r.snapshot.nomVolt * r.snapshot.vTol) 1000 ∧
      distance record.frequency r.snapshot.nomFreq ≤ 100
    let drained := (x.state = .transferOut ∨ (x.state = .transferIn ∧ x.handover.aborting = true)) ∧
      x.reference.setpoint = 0 ∧ closed = true ∧ power.validity = .valid ∧
      power.p ≤ (r.snapshot.release * x.limit : Nat)
    let marked := (s.members o [.running]).filter fun m => (s.module m).releasePending
    let spare : Int := (s.groupCapacity o : Int) - s.ratings marked
    ∃ t, exec (.sampleSet k) s = .next t ∧ (t.outlet o).cable = (cable o).1 ∧ (t.outlet o).power = power ∧
      (x.state = .energising → x.phase = some .ramp →
        (verified → (t.outlet o).state = .cableLive ∧ (t.outlet o).energiseTimer = none ∧
          (t.outlet o).reference.pending = some .island ∧ t.hasRaised s o .stateChanged = true) ∧
        (¬verified → (t.outlet o).state = .energising ∧ (t.outlet o).phase = some .ramp ∧
          (t.outlet o).energiseTimer = x.energiseTimer ∧
          { (t.outlet o).reference with setpoint := 0 } = { x.reference with setpoint := 0 })) ∧
      (x.state = .separating →
        if x.pb.channel = .idle ∧ x.pb.feedback = false then
          (t.outlet o).state = .cableLive ∧ (t.outlet o).reference.pending = some .island ∧
            (t.outlet o).reference.setpoint = 0 ∧ (t.outlet o).reference.trim = 0 ∧ t.hasRaised s o .separated = true
        else (t.outlet o).state = .separating) ∧
      (x.state.isTransfer = true →
        (drained → (t.outlet o).state = .separating ∧ (t.outlet o).pb.channel = .tripPulse ∧
          (t.outlet o).handover.parallelTimer = none ∧ (t.outlet o).handover.overloadTimer = none ∧
          (t.outlet o).handover.aborting = false ∧ (t.outlet o).handover.lastSeparation =
            some (if x.state = .transferOut then .drained else .aborted)) ∧
        (¬drained → (t.outlet o).state = x.state ∧ (t.outlet o).pb = x.pb ∧
          (t.outlet o).handover.overloadTimer =
            (if closed = false ∨ power.validity ≠ .valid then x.handover.overloadTimer
             else if ((x.limit * r.snapshot.ovLevel : Nat) : Int) < power.p then
              some (x.handover.overloadTimer.getD (r.snapshot.ovTime * Config.ticksPerSecond))
             else none))) ∧
      (x.state.supplied = true → marked ≠ [] →
        (closed = true ∧ power.validity ≠ .invalid ∧ power.p ≤ spare * 900 → ∀ m ∈ marked,
          (t.module m).state = .releasing ∧ (t.module m).releasePending = false ∧ (t.module m).group = some o ∧
            (t.module m).drain = some (2 * Config.ticksPerSecond) ∧ (t.module m).drainCount = 0 ∧
            (t.module m).releaseShare = (s.module m).share) ∧
        (¬(closed = true ∧ power.validity ≠ .invalid ∧ power.p ≤ spare * 900) → ∀ m ∈ marked,
          t.module m = u.module m)) ∧
      (t.outlet o).session = some r ∧
      (∀ q, q ≠ o → (t.outlet q).kept =
        { u.outlet q with cable := (cable q).1, ship := (ship q).1 : Outlet }.kept) ∧
      (∀ m, (s.module m).group ≠ some o → (u.module m).keptBy (t.module m) = true) ∧
      t.common = { u.common with due := t.due, grid := t.grid } ∧ t.follows s = true) ∧
  (∀ s : State, s.ready = true → s.sound = true → ∀ (k : SampleSet) (o : OutletId),
    let u := s.elapse s.due.sample
    let cable (q : OutletId) :=
      (u.outlet q).cable.take (u.outlet q).nominalVoltage u.timestamp (cableSample (samplesOf k q))
    let ship (q : OutletId) :=
      (u.outlet q).ship.take (u.outlet q).nominalVoltage u.timestamp (shipSample (samplesOf k q))
    (∀ q, (q ≠ o → (ship q).2 = none) ∧ (cable q).2 = none) →
    (u.grid.channel.take 1000 u.timestamp (gridSample k)).2 = none → ∀ p : Passage, (ship o).2 = some p →
    let x := u.outlet o
    let taken := u.modify o fun x => { x with cable := (cable o).1, ship := (ship o).1 }
    let resumed := taken.modifyCheck o fun c => { c with state := .evaluating }
    let unwound := x.pb.channel = .idle ∧ x.pb.feedback = false
    ∃ t, exec (.sampleSet k) s = .next t ∧ (t.outlet o).ship = (ship o).1 ∧
      (x.check.state = .inactive → (t.outlet o).check = x.check) ∧
      (x.check.state = .evaluating ∨ x.check.state = .closing →
        (p = .opened → (t.outlet o).check = { x.check with result := some .records, windowAsked := false } ∧
          (t.outlet o).pb = x.pb) ∧
        (p ≠ .opened → (t.outlet o).check = ((taken.evaluate o).outlet o).check ∧
          (t.outlet o).pb = ((taken.evaluate o).outlet o).pb)) ∧
      (x.check.state = .recovering → ¬unwound → (t.outlet o).check = x.check ∧ (t.outlet o).state = x.state) ∧
      (x.check.state = .recovering → unwound →
        (∀ out, x.check.notedExit = some out → (t.outlet o).state = .cableLive ∧
          (t.outlet o).check.state = .inactive ∧ (t.outlet o).check.outcome = some out ∧
          (t.outlet o).check.attempts = 0 ∧ (t.outlet o).check.syncTimer = none ∧
          (t.outlet o).reference.pending = some .island ∧ t.hasRaised s o .stateChanged = true ∧
          (∀ e, out.event = some e → t.hasRaised s o e = true)) ∧
        (x.check.notedExit = none → (t.outlet o).state = x.state ∧
          (p = .opened → (t.outlet o).check = { x.check with state := .evaluating }) ∧
          (p ≠ .opened → (t.outlet o).check = ((resumed.evaluate o).outlet o).check ∧
            (t.outlet o).pb = ((resumed.evaluate o).outlet o).pb))) ∧
      t.modules = u.modules ∧
      (∀ q, q ≠ o → t.outlet q = { u.outlet q with cable := (cable q).1, ship := (ship q).1 }) ∧
      t.common = { u.common with due := t.due, grid := t.grid } ∧ t.follows s = true) ∧
  (∀ s : State, s.ready = true → s.sound = true → ∀ k : SampleSet,
    let u := s.elapse s.due.sample
    let grid := u.grid.channel.take 1000 u.timestamp (gridSample k)
    (∀ q, ((u.outlet q).cable.take (u.outlet q).nominalVoltage u.timestamp (cableSample (samplesOf k q))).2 = none ∧
      ((u.outlet q).ship.take (u.outlet q).nominalVoltage u.timestamp (shipSample (samplesOf k q))).2 = none) →
    ∀ p : Passage, grid.2 = some p →
    ∃ t, exec (.sampleSet k) s = .next t ∧ t.grid.channel = grid.1 ∧
      (p = .opened → t.grid.importPower = s.grid.importPower) ∧
      (∀ sums, p = .closed true sums → t.grid.importPower = divHalfAway sums.power sums.count) ∧
      (∀ sums, p = .closed false sums → t.grid.importPower = s.grid.importPower) ∧
      (if grid.1.record.validity ≠ .invalid ∧ (s.gridLimit : Int) < t.grid.importPower then
        t.grid.overTimer = some (u.grid.overTimer.getD (60 * Config.ticksPerSecond)) ∧
          t.grid.overSet = s.grid.overSet
      else t.grid.overTimer = none ∧ t.grid.overSet = false ∧
        t.status.part.conditions.contains .gridOver = false) ∧
      t = { u with due := t.due, outlets := t.outlets, grid := t.grid, status := t.status } ∧
      (∀ q, t.outlet q = { u.outlet q with cable := (t.outlet q).cable, ship := (t.outlet q).ship }) ∧
      t.follows s = true)

/-- METERING_TICK (R153, R155): the clock moves on by a tenth of a second, with its carries. An outlet with an
open interval and its SB closed takes the power of its record in deci-joules, or the held power for up to ten
ticks, or none (R156), and whole Wh join its totals, its session and its interval, import under the band of the
reading before the advance (R157, R159). The interval counts the tick and takes HELD_VALUES or GAP, and no other
flag; of the session nothing else changes. At a boundary, or at the full count of an unset interval, the
interval is closed (R161): its session is billed with the table active before any switch (R163), a record is
written where the log has room and the interval is merged otherwise, in ascending order of session number (R172,
R173). At a boundary a ready table then becomes active with TARIFF_SWITCHED (R167), and a new interval opens, as
for every session that has none (R160). The instant of the tick is the one at which it falls due (log entry 2,
the model's choice), and the totals and an interval's Wh are added without end (log entry 44, the model's
reading). -/
def Obligations.MeteringTickCountsEnergy : Prop :=
  ∀ s : State, s.ready = true → s.accounts = true → s.tariffsSound = true →
    let u := s.elapse s.due.metering
    let band := s.tariff.bandAt s.clock
    ∃ t, exec .meteringTick s = .next t ∧ t.due.metering = 960000 ∧
      t.clock.isSome = s.clock.isSome ∧
      (∀ c d, s.clock = some c → t.clock = some d → c.isReading = true →
        let time (c : Clock) : Nat := ((c.hour * 60 + c.minute) * 60 + c.second) * 10 + c.tenth
        let date (c : Clock) : Nat × Nat × Nat := (c.year, c.month, c.day)
        d.isReading = true ∧ time d = (time c + 1) % 864000 ∧
          date d = if time c < 863999 then date c
            else if c.day < daysIn c.year c.month then (c.year, c.month, c.day + 1)
            else if c.month < 12 then (c.year, c.month + 1, 1)
            else (if c.year < 9999 then c.year + 1 else 2000, 1, 1)) ∧
      let boundary := t.clock.any fun c =>
        c.tenth == 0 && c.second == 0 && (c.hour * 60 + c.minute) % s.tariff.length == 0
      let completes (i : Interval) : Bool := boundary ||
        (t.clock.isNone && i.flags.contains .timeUnset && i.length * 600 ≤ i.ticks + 1)
      let closing := allOutlets.filter fun o => (s.outlet o).interval.any completes
      let switches := boundary && s.pendingTariff.any (·.ready)
      let fresh : Interval :=
        { start := t.clock.map fun c => { c with tenth := 0 }
          length := t.tariff.length, ticks := 0, importWh := Bands.zero, exportWh := 0
          flags := (if t.clock = none then [.timeUnset] else []) ++ (if s.grid.overSet then [.gridOver] else []) }
      (∀ o,
        let x := s.outlet o
        let metered := x.session.isSome && x.interval.isSome && x.sb.feedback
        let m := x.meter
        let held := m.heldPower.isSome && decide (m.holdCount < 10)
        let p := if x.power.validity = .valid then x.power.p else if held then m.heldPower.getD 0 else 0
        let imported := if metered ∧ 0 < p then (m.importAcc + p.toNat) / 36000 else 0
        let exported := if metered ∧ p < 0 then (m.exportAcc + (-p).toNat) / 36000 else 0
        (metered = false → (t.outlet o).meter = { m with heldPower := none, holdCount := 0 }) ∧
        (metered = true →
          (t.outlet o).meter = { m with
            importAcc := if 0 < p then (m.importAcc + p.toNat) % 36000 else m.importAcc
            importTotal := m.importTotal + imported
            exportAcc := if p < 0 then (m.exportAcc + (-p).toNat) % 36000 else m.exportAcc
            exportTotal := m.exportTotal + exported
            heldPower := if x.power.validity = .valid then some x.power.p else m.heldPower
            holdCount := if x.power.validity = .valid then 0
              else if held then m.holdCount + 1 else m.holdCount }) ∧
        (x.session = none → (t.outlet o).session = none ∧ (t.outlet o).interval = none) ∧
        (∀ r, x.session = some r → x.interval = none →
          (t.outlet o).session = some r ∧ (t.outlet o).interval = some fresh) ∧
        (∀ r i, x.session = some r → x.interval = some i →
          let r' : Session := if metered ∧ p ≠ 0 then { r with
              importWh := if 0 < p then r.importWh.set band (min 4294967295 (r.importWh.get band + imported))
                else r.importWh
              exportWh := if p < 0 then min 4294967295 (r.exportWh + exported) else r.exportWh }
            else r
          let i' : Interval := { i with
            ticks := i.ticks + 1
            importWh := i.importWh.set band (i.importWh.get band + imported)
            exportWh := i.exportWh + exported
            flags := if metered then IntervalFlag.all.filter fun f => i.flags.contains f ||
                (x.power.validity != .valid && f == (if held then .heldValues else .gap))
              else i.flags }
          if completes i then
            t.hasClosedInterval s closing o r' i' [] = true ∧ (t.outlet o).interval = some fresh
          else (t.outlet o).session = some r' ∧ (t.outlet o).interval = some i') ∧
        { t.outlet o with meter := x.meter, interval := none, session := none } =
          { u.outlet o with interval := none, session := none }) ∧
      t.hasLogged s closing.length = true ∧
      (switches = false → t.tariff = s.tariff ∧ t.pendingTariff = s.pendingTariff) ∧
      (∀ q, s.pendingTariff = some q → switches = true → t.tariff = q.table ∧ t.pendingTariff = none) ∧
      (t.status.get .part).count .tariffSwitched =
        (if switches then min 255 ((s.status.get .part).count .tariffSwitched + 1)
          else (s.status.get .part).count .tariffSwitched) ∧
      t = { u with clock := t.clock, due := t.due, outlets := t.outlets, tariff := t.tariff,
                   pendingTariff := t.pendingTariff, log := t.log, status := t.status } ∧
      t.follows s = true

/-! ### The ship link and the ship's frames -/

/-- SHIP_CHARACTER (R116, R117): a framing error drops the frame; HUNTING takes A5h alone as a start byte; the
length byte must lie in 1 to 60; each byte restarts the gap timer of two character times; and the byte that
completes a frame hands it to the check. That the completing character is FRAME_COMPLETE itself is the model's
reading (log entry 9). While a LINKTEST runs the receiver is disconnected (log entry 35). The receiver is at
work in start-up as in the running part (R130). FRAME_COMPLETE (R118, R119, R121, R122, R123): a frame whose
check differs is counted and discarded; a valid frame restarts the watchdog, takes a DOWN link UP while PLUG is
made, and joins the receive FIFO, replaces its newest frame with OVERRUN Set when eight are stored, or is
refused for its type or its length. That the delimiter hunts afterwards, whatever it was, is the model's reading
(log entry 9). In start-up, PLUG not yet sampled made, a valid frame is counted as received and discarded (R119,
R130). -/
def Obligations.FramesAssembledAndChecked : Prop :=
  (∀ s : State, (s.ready = true ∨ s.phase = .startingUp) → ∀ (o : OutletId) (ch : Received),
    let l := (s.outlet o).link
    let with' (l' : ShipLink) : State := s.modifyLink o fun _ => l'
    (l.testing = true → exec (.shipCharacter o ch) s = .next s) ∧
    (l.testing = false → ch.framingError = true →
      exec (.shipCharacter o ch) s = .next (with' (l.hunting { l.counts with
        framingErrors := min 65535 (l.counts.framingErrors + 1) }))) ∧
    (l.testing = false → ch.framingError = false → l.assembling = none →
      exec (.shipCharacter o ch) s = .next (with'
        (if ch.byte = 0xA5#8 then { l with assembling := some [], gapTimer := some 5000 }
         else { l with counts := { l.counts with strayBytes := min 65535 (l.counts.strayBytes + 1) } }))) ∧
    (l.testing = false → ch.framingError = false → l.assembling = some [] →
      exec (.shipCharacter o ch) s = .next (with'
        (if 1 ≤ ch.byte.toNat ∧ ch.byte.toNat ≤ 60 then
          { l with assembling := some [ch.byte], gapTimer := some 5000 }
         else l.hunting { l.counts with lengthErrors := min 65535 (l.counts.lengthErrors + 1) }))) ∧
    (l.testing = false → ch.framingError = false → ∀ n rest, l.assembling = some (n :: rest) →
      (rest.length + 1 ≠ n.toNat + 2 →
        exec (.shipCharacter o ch) s =
          .next (with' { l with assembling := some (n :: (rest ++ [ch.byte])), gapTimer := some 5000 })) ∧
      (rest.length + 1 = n.toNat + 2 → 1 ≤ n.toNat → n.toNat ≤ 60 →
        exec (.shipCharacter o ch) s = exec (.frameComplete o (gathered n (rest ++ [ch.byte]))) s))) ∧
  ((∀ s : State, s.phase = .startingUp → s.atRest = true → ∀ (o : OutletId) (f : RawFrame), f.wellFormed = true →
    exec (.frameComplete o f) s = .next (s.modifyLink o fun l => l.hunting
      (if crc16 (f.length :: f.type :: f.payload) = f.crc then
        { l.counts with framesReceived := min 65535 (l.counts.framesReceived + 1) }
      else { l.counts with crcErrors := min 65535 (l.counts.crcErrors + 1) }))) ∧
  ∀ s : State, s.ready = true → s.bounded = true → ∀ (o : OutletId) (f : RawFrame),
    f.wellFormed = true → (s.outlet o).link.testing = false →
    let x := s.outlet o
    let agrees := crc16 (f.length :: f.type :: f.payload) = f.crc
    let received := min 65535 (x.link.counts.framesReceived + 1)
    (¬agrees → exec (.frameComplete o f) s = .next (s.modifyLink o fun l =>
      l.hunting { l.counts with crcErrors := min 65535 (l.counts.crcErrors + 1) })) ∧
    (agrees → x.interlocks.plug = false → exec (.frameComplete o f) s = .next (s.modifyLink o fun l =>
      l.hunting { l.counts with framesReceived := received })) ∧
    (agrees → x.interlocks.plug = true →
      ∃ t, exec (.frameComplete o f) s = .next t ∧
        let y := t.outlet o
        let known : Bool := 1 ≤ f.type.toNat && f.type.toNat ≤ 8
        let fits : Bool := (shipLength f.type.toNat).any (· == f.length.toNat)
        y.link.up = true ∧ y.link.assembling = none ∧ y.link.counts.framesReceived = received ∧
          y.link.watchdog = some (match x.session with
            | some r => r.snapshot.linkTimeout * Config.ticksPerSecond
            | none => 3 * Config.ticksPerSecond) ∧
          (x.link.up = false → y.link.statusTimer = some (1 * Config.ticksPerSecond)) ∧
          (t.status.get (.outlet o)).conditions.contains .linkUp = true ∧
          (known = true → fits = true → x.link.fifo.length < 8 →
            y.link.fifo = x.link.fifo ++ [{ type := f.type, payload := f.payload }] ∧
              y.link.overrun = x.link.overrun) ∧
          (known = true → fits = true → 8 ≤ x.link.fifo.length →
            y.link.fifo = x.link.fifo.dropLast ++ [{ type := f.type, payload := f.payload }] ∧
              y.link.overrun = true ∧
              y.link.counts.overruns = min 65535 (x.link.counts.overruns + 1)) ∧
          (known = false ∨ fits = false → y.link.fifo = x.link.fifo ∧
            y.link.lastRefusal = some (if known then .badLength else .unknownType) ∧
            y.link.counts.formatRefusals = min 65535 (x.link.counts.formatRefusals + 1)) ∧
          y.state = x.state ∧ y.session = x.session ∧ y.sb = x.sb ∧ y.pb = x.pb ∧
          t = { s with outlets := s.outlets.set o y, status := t.status } ∧ t.follows s = true))

/-- Appending an event frame (R125): discarded while the link is DOWN; at the tail of a queue of fewer than
four; in place of a waiting SHORE_STATUS in a full queue; and otherwise dropped and counted. The clauses are
those of a link whose transmitter is at work, and of an idle one, which starts the frame at once (R127).
FRAME_GAP_TIMEOUT, SHORE_FRAME_SENT and STATUS_TIMER_EXPIRY (R117, R126, R127): a silence drops the frame being
assembled; a frame sent leaves the queue and the next one starts; the status timer restarts and appends a
SHORE_STATUS, which stands for a waiting one, is skipped while another is sent or the queue is full, and starts
at once on an idle transmitter with the fields of the moment. The time at which the row acts is the model's (log
entry 2), and a timer that does not run does not expire (log entry 40, the model's reading). In start-up the
silence acts alike, and counts for no other timer (log entry 6). -/
def Obligations.TransmitterRuns : Prop :=
  (∀ (s : State) (o : OutletId) (f : ShoreFrame), f.isStatus = false →
    let l := (s.outlet o).link
    (l.up = false → s.send o f = s) ∧
    (l.up = true → l.sending = true → l.queue.length < 4 →
      s.send o f = s.modifyLink o fun l => { l with queue := l.queue ++ [f] }) ∧
    (l.up = true → l.sending = true → ∀ h rest, l.queue = h :: rest → rest.length = 3 →
      (rest.any (·.isStatus) = true →
        s.send o f = s.modifyLink o fun l =>
          { l with queue := h :: (rest.filter fun g => !g.isStatus) ++ [f] }) ∧
      (rest.any (·.isStatus) = false →
        s.send o f = s.modifyLink o fun l => { l with counts := { l.counts with
          transmitDrops := min 65535 (l.counts.transmitDrops + 1) } })) ∧
    (l.up = true → l.sending = false → l.testing = false → l.queue = [] →
      s.send o f = s.modifyLink o fun l => { l with queue := [f], sending := true })) ∧
  ((∀ s : State, s.phase = .startingUp → ∀ o : OutletId,
    ((s.outlet o).link.gapTimer = none → exec (.frameGapTimeout o) s = .next s) ∧
    ((s.outlet o).link.gapTimer.isSome = true → exec (.frameGapTimeout o) s = .next (s.modifyLink o fun l =>
      l.hunting { l.counts with gaps := min 65535 (l.counts.gaps + 1) }))) ∧
  ∀ s : State, s.ready = true → ∀ o : OutletId,
    let l := (s.outlet o).link
    (l.gapTimer = none → exec (.frameGapTimeout o) s = .next s) ∧
    (∀ n, l.gapTimer = some n → exec (.frameGapTimeout o) s = .next ((s.elapse n).modifyLink o fun l =>
      l.hunting { l.counts with gaps := min 65535 (l.counts.gaps + 1) })) ∧
    (l.sending = false → exec (.shoreFrameSent o) s = .next s) ∧
    (l.sending = true → l.up = true → l.testing = false → ∀ h rest, l.queue = h :: rest →
      ∃ t, exec (.shoreFrameSent o) s = .next t ∧
        (t.outlet o).link.counts.framesSent = min 65535 (l.counts.framesSent + 1) ∧
        (t.outlet o).link.sending = !rest.isEmpty ∧
        (∀ g more, rest = g :: more → (t.outlet o).link.queue =
          (if g.isStatus then .shoreStatus (some (s.statusFields o)) else g) :: more) ∧
        (rest = [] → (t.outlet o).link.queue = []) ∧
        t = s.modifyLink o fun l => { l with
          queue := (t.outlet o).link.queue, sending := (t.outlet o).link.sending
          counts := (t.outlet o).link.counts }) ∧
    (l.statusTimer = none → exec (.statusTimerExpiry o) s = .next s) ∧
    (∀ n, l.statusTimer = some n →
      ∃ t, exec (.statusTimerExpiry o) s = .next t ∧
        (t.outlet o).link.statusTimer = some (1 * Config.ticksPerSecond) ∧
        (l.waiting.any (·.isStatus) = true → (t.outlet o).link.queue = l.queue ∧
          (t.outlet o).link.counts = l.counts) ∧
        (l.waiting.any (·.isStatus) = false → (l.queue.any (·.isStatus) = true ∨ 4 ≤ l.queue.length) →
          (t.outlet o).link.queue = l.queue ∧
            (t.outlet o).link.counts.statusSkips = min 65535 (l.counts.statusSkips + 1)) ∧
        (l.up = true → l.testing = false → l.sending = false → l.queue = [] →
          (t.outlet o).link.queue = [.shoreStatus (some ((s.elapse n).statusFields o))] ∧
            (t.outlet o).link.sending = true) ∧
        (l.sending = true → l.queue.any (·.isStatus) = false → l.queue.length < 4 →
          (t.outlet o).link.queue = l.queue ++ [.shoreStatus none]) ∧
        t = (s.elapse n).modifyLink o fun l => { l with
          statusTimer := some (1 * Config.ticksPerSecond), queue := (t.outlet o).link.queue
          sending := (t.outlet o).link.sending, counts := (t.outlet o).link.counts }))

/-- LINE_BREAK and WATCHDOG_EXPIRY (R123, R124): each is counted and takes a link that is UP DOWN with its
cause; a break on a link that is DOWN, as every link is in start-up (R130), only drops the frame being
assembled. That a break during a LINKTEST does nothing is the model's reading (log entry 35). The time at which
the row acts is the model's (log entry 2), and a timer that does not run does not expire (log entry 40, the
model's reading). -/
def Obligations.LinkGoesDown : Prop :=
  (∀ s : State, s.phase = .startingUp → s.atRest = true → ∀ o : OutletId,
    exec (.lineBreak o) s = .next (s.modifyLink o fun l =>
      l.hunting { l.counts with breaks := min 65535 (l.counts.breaks + 1) })) ∧
  ∀ s : State, s.ready = true → s.sound = true → ∀ o : OutletId,
    let l := (s.outlet o).link
    (l.testing = true → exec (.lineBreak o) s = .next s) ∧
    (l.testing = false → l.up = false → exec (.lineBreak o) s = .next (s.modifyLink o fun l =>
      l.hunting { l.counts with breaks := min 65535 (l.counts.breaks + 1) })) ∧
    (l.testing = false → l.up = true →
      ∃ t, exec (.lineBreak o) s = .next t ∧ t.hasLostLink s o .lineBreak = true ∧
        (t.outlet o).link.assembling = none ∧
        (t.outlet o).link.counts.breaks = min 65535 (l.counts.breaks + 1)) ∧
    (l.watchdog = none → exec (.watchdogExpiry o) s = .next s) ∧
    (∀ n, l.watchdog = some n → l.up = true →
      ∃ t, exec (.watchdogExpiry o) s = .next t ∧ t.hasLostLink (s.elapse n) o .watchdog = true ∧
        (t.outlet o).link.counts.watchdogExpiries = min 65535 (l.counts.watchdogExpiries + 1))

/-- A frame taken in VACANT is discarded without reply; a frame whose outlet state does not accept it is
answered with REFUSE, its type and WRONG_STATE, and changes nothing else; and a service of a type that is not
the oldest frame's does not happen (R1, R26, R121, R138; log entry 10 for the last clause, the model's choice).
-/
def Obligations.UnacceptedFramesRefused : Prop :=
  ∀ s : State, s.ready = true → ∀ (o : OutletId) (f : ShipFrame) (rest : List ShipFrame),
    (s.outlet o).link.fifo = f :: rest →
    let x := s.outlet o
    let u := s.served o
    let rows : List (Instr × Nat × Bool) :=
      [(.hello o, 1, x.state != .held), (.status o, 2, true),
       (.parallelRequest o, 3, x.state == .cableLive),
       (.generatorsOff o, 4, x.state == .transferIn && !x.handover.aborting),
       (.returnRequest o, 5, x.state == .shoreSupply), (.generatorsOn o, 6, x.state == .shoreSupply),
       (.abort o, 7, x.state == .synchronising || x.state == .transferIn || x.state == .transferOut),
       (.bye o, 8, x.state == .announced || x.state.within .admitted .cableLive)]
    ∀ row ∈ rows,
      (f.type.toNat ≠ row.2.1 → exec row.1 s = .next s) ∧
      (f.type.toNat = row.2.1 → x.state = .vacant → exec row.1 s = .next u) ∧
      (f.type.toNat = row.2.1 → x.state ≠ .vacant → row.2.2 = false →
        exec row.1 s = .next (u.sendRefuse o f.type .wrongState))

/-- HELLO (R2, R9, R26): in CABLED and ANNOUNCED a valid announcement is held and leads to ANNOUNCED, and a
broken one is refused with NOT_READY; in a session it is answered with WELCOME. STATUS (R131): the handover
record takes the fields of the payload, generators above 15 taken as 15, with age 0; nothing else changes but
the FIFO. -/
def Obligations.AnnouncementAndStatusTaken : Prop :=
  (∀ s : State, s.ready = true → s.sound = true →
  ∀ (o : OutletId) (f : ShipFrame) (rest : List ShipFrame),
    (s.outlet o).link.fifo = f :: rest → f.type = 1#8 →
    let x := s.outlet o
    let u := s.served o
    (∀ h, decodeHello f.payload = some h → (x.state = .cabled ∨ x.state = .announced) →
      (h.isValid = true →
        ∃ t, exec (.hello o) s = .next t ∧ (t.outlet o).state = .announced ∧
          (t.outlet o).announcement = some h ∧ (t.outlet o).link = (u.outlet o).link ∧
          (x.state = .announced → t = u.modify o fun x => { x with announcement := some h }) ∧
          (x.state = .cabled → t.hasRaised s o .stateChanged = true) ∧
          t.leavesOthers s o = true ∧ t.follows s = true) ∧
      (h.isValid = false → exec (.hello o) s = .next (u.sendRefuse o 1#8 .notReady))) ∧
    (decodeHello f.payload = none → (x.state = .cabled ∨ x.state = .announced) →
      exec (.hello o) s = .next (u.sendRefuse o 1#8 .notReady)) ∧
    (x.state.inSession = true → ∀ r, x.session = some r →
      exec (.hello o) s = .next (u.send o (.welcome r.number r.profileNumber x.limit)))) ∧
  (∀ s : State, s.ready = true → ∀ (o : OutletId) (rest : List ShipFrame) (g l1 l0 n1 n0 flags : Byte),
    (s.outlet o).link.fifo = { type := 2#8, payload := [g, l1, l0, n1, n0, flags] } :: rest →
    (s.outlet o).state ≠ .vacant →
    let recorded : ShipStatus :=
      { generators := min 15 g.toNat, busLoad := l1.toNat * 256 + l0.toNat,
        generatorLoad := n1.toNat * 256 + n0.toNat, ready := flags.getLsbD 0, droop := flags.getLsbD 1,
        panelClosed := flags.getLsbD 2, age := 0 }
    exec (.status o) s =
      .next ((s.served o).modifyHandover o fun h => { h with shipStatus := some recorded }))

/-- PARALLEL_REQUEST in CABLE_LIVE (R98, R133): a ship that is ready and in droop takes the outlet to
SYNCHRONISING with the check evaluating, its counts cleared and its sync timer started; another is refused with
NOT_READY. ABORT in SYNCHRONISING (R111, R134): an evaluating check is left at once for CABLE_LIVE with outcome
ABORTED; a check in CLOSING unwinds the pulse first, and one in RECOVERING notes the exit, unless one is noted
already. -/
def Obligations.SynchronisingEntersAndAborts : Prop :=
  (∀ s : State, s.ready = true → ∀ (o : OutletId) (f : ShipFrame) (rest : List ShipFrame),
    (s.outlet o).link.fifo = f :: rest → f.type = 3#8 → (s.outlet o).state = .cableLive →
    let x := s.outlet o
    let u := s.served o
    let ready := x.handover.shipStatus.any fun h => h.ready && h.droop
    (ready = false → exec (.parallelRequest o) s = .next (u.sendRefuse o 3#8 .notReady)) ∧
    (ready = true → ∀ r, x.session = some r →
      ∃ t, exec (.parallelRequest o) s = .next t ∧
        t = { u.modify o (fun x => { x with
          state := .synchronising, phase := none
          check := { state := .evaluating, attempts := 0
                     syncTimer := some (r.snapshot.syncTimeout * Config.ticksPerSecond)
                     feedbackTimer := none, notedExpiry := false, notedExit := none, refusedRequests := 0
                     figures := none, result := none, outcome := x.check.outcome, windowAsked := false }
          handover := { x.handover with overloadTimer := none }
          reference := { x.reference with pending := some .track, setpoint := 0, trim := 0 } }) with
            status := t.status } ∧
        t.hasRaised s o .stateChanged = true ∧ t.follows s = true)) ∧
  (∀ s : State, s.ready = true → ∀ (o : OutletId) (f : ShipFrame) (rest : List ShipFrame),
    (s.outlet o).link.fifo = f :: rest → f.type = 7#8 → (s.outlet o).state = .synchronising →
    let x := s.outlet o
    let u := s.served o
    (x.check.state = .evaluating →
      ∃ t, exec (.abort o) s = .next t ∧ (t.outlet o).state = .cableLive ∧
        (t.outlet o).check.state = .inactive ∧ (t.outlet o).check.outcome = some .aborted ∧
        (t.outlet o).check.syncTimer = none ∧ (t.outlet o).handover.lastSeparation = some .aborted ∧
        (t.outlet o).reference.pending = some .island ∧ (t.outlet o).pb = x.pb ∧ (t.outlet o).sb = x.sb ∧
        (t.outlet o).link = (u.outlet o).link ∧ (t.outlet o).session = x.session ∧
        t.hasRaised s o .syncAborted = true ∧ t.hasRaised s o .stateChanged = true ∧
        t.leavesOthers s o = true ∧ t.follows s = true) ∧
    (x.check.state = .closing →
      ∃ t, exec (.abort o) s = .next t ∧ (t.outlet o).pb.channel = .tripPulse ∧
        t = u.modify o fun x => { x with
          pb := (t.outlet o).pb
          check := { x.check with
            state := .recovering, feedbackTimer := none, windowAsked := false
            notedExit := some (x.check.notedExit.getD .aborted) } }) ∧
    (x.check.state = .recovering →
      exec (.abort o) s = .next (u.modifyCheck o fun c =>
        { c with notedExit := some (c.notedExit.getD .aborted) })))

/-- The transfer frames (R77, R138, R139, R141, R143): GENERATORS_OFF completes a transfer that is not aborting,
RETURN_REQUEST is accepted in SHORE_SUPPLY, GENERATORS_ON begins the return with the setpoint at the measured
power, clamped to 0 up to the limit, or at the limit where the power record is INVALID, and ABORT in TRANSFER_IN
turns the ramp down and Sets the aborting mark, once. -/
def Obligations.TransferFramesAct : Prop :=
  ∀ s : State, s.ready = true → ∀ (o : OutletId) (f : ShipFrame) (rest : List ShipFrame),
    (s.outlet o).link.fifo = f :: rest →
    let x := s.outlet o
    let u := s.served o
    (f.type = 4#8 → x.state = .transferIn → x.handover.aborting = false →
      ∃ t, exec (.generatorsOff o) s = .next t ∧
        t = { u.modify o (fun x => { x with
          state := .shoreSupply, phase := none
          handover := { x.handover with parallelTimer := none, transferDone := true }
          reference := { x.reference with pending := some .island, setpoint := 0, trim := 0 } }) with
            status := t.status } ∧
        t.hasRaised s o .transferComplete = true ∧ t.hasRaised s o .stateChanged = true ∧
        t.follows s = true) ∧
    (f.type = 5#8 → x.state = .shoreSupply →
      ∃ t, exec (.returnRequest o) s = .next t ∧
        t = { u.modifyHandover o (fun h => { h with returnAccepted := true, returnPending := false }) with
          status := t.status } ∧
        t.hasRaised s o .returnRequested = true ∧ t.follows s = true) ∧
    (f.type = 6#8 → x.state = .shoreSupply → ∀ r, x.session = some r →
      ∃ t, exec (.generatorsOn o) s = .next t ∧
        t = { u.modify o (fun x => { x with
          state := .transferOut, phase := none
          handover := { x.handover with
            parallelTimer := some (r.snapshot.parTime * Config.ticksPerSecond), transferDone := false
            returnAccepted := false, returnPending := false }
          reference := { x.reference with pending := some .parallel, rising := false
                                          setpoint := (t.outlet o).reference.setpoint } }) with
            status := t.status } ∧
        (x.power.validity = .invalid → (t.outlet o).reference.setpoint = x.limit) ∧
        (x.power.validity ≠ .invalid → (t.outlet o).reference.setpoint =
          (max 0 (min (x.limit : Int) (divHalfAway x.power.p 1000))).toNat) ∧
        (t.outlet o).reference.setpoint ≤ x.limit ∧
        t.hasRaised s o .returnStarted = true ∧ t.hasRaised s o .stateChanged = true ∧ t.follows s = true) ∧
    (f.type = 7#8 → x.state = .transferIn → x.handover.aborting = false →
      ∃ t, exec (.abort o) s = .next t ∧
        t = { u.modify o (fun x => { x with
          handover := { x.handover with aborting := true }
          reference := { x.reference with rising := false } }) with status := t.status } ∧
        t.hasRaised s o .transferAborted = true ∧ t.follows s = true) ∧
    (f.type = 7#8 → (x.state = .transferIn ∧ x.handover.aborting = true ∨ x.state = .transferOut) →
      exec (.abort o) s = .next u)

/-- BYE (R3, R20, R21): in ANNOUNCED the announcement is discarded and the outlet returns to CABLED; in
ADMITTED, ENERGISING and CABLE_LIVE it acts as END with end cause BYE. A session that closes is billed for its
FINAL interval and priced, its outlet's accumulators are zero, and it is placed with its FINAL record or held
(R22, R168, R174). What a FINAL interval that never opened carries is the model's reading (log entry 30,
DEDUCED), as is that a placed record's merged figures are zero (log entry 46, DEDUCED). -/
def Obligations.ByeEndsSession : Prop :=
  ∀ s : State, s.ready = true → s.sound = true → s.accounts = true →
  ∀ (o : OutletId) (f : ShipFrame) (rest : List ShipFrame),
    (s.outlet o).link.fifo = f :: rest → f.type = 8#8 →
    let x := s.outlet o
    (x.state = .announced →
      ∃ t, exec (.bye o) s = .next t ∧ (t.outlet o).state = .cabled ∧ (t.outlet o).announcement = none ∧
        (t.outlet o).link = ((s.served o).outlet o).link ∧ t.hasRaised s o .stateChanged = true ∧
        t.leavesOthers s o = true ∧ t.follows s = true) ∧
    (∀ r, x.session = some r → x.state.within .admitted .cableLive = true →
      ∃ t, exec (.bye o) s = .next t ∧ t.request o = none ∧ (t.outlet o).energiseTimer = none ∧
        (x.state ≠ .admitted → t.sbCommand o = false) ∧
        (x.state = .energising → t.group o = []) ∧
        (if (t.outlet o).sb.feedback = true ∧ (t.outlet o).sb.channel ≠ .stuck then
          (t.outlet o).state = .deEnergising ∧ (t.outlet o).session = some r ∧
            (t.outlet o).endCause = some .bye ∧ t.log = s.log
        else t.hasClosed s o r .bye = true) ∧
        (∀ q, q ≠ o → (t.outlet q).kept = (s.outlet q).kept) ∧ t.follows s = true)

/-! ### Laws of one operation -/

/-- A record at the close of a cycle (R89): a valid cycle replaces the figures and makes the record VALID; an
invalid one keeps them and moves the validity by the table, to INVALID at the fourth in a row. A channel does so
at every accepted crossing that closes a cycle, and a loss of the waveform counts an invalid cycle. -/
def Obligations.CyclesMoveValidity : Prop :=
  ∀ (r : CycleRecord) (nominal : Nat) (opened closed : Timestamp) (sums : CycleSums),
    let period := (closed - opened).toNat
    let rms := rootMeanSquare sums.squares sums.count
    let after := (r.close nominal opened closed sums).1
    (isValidCycle nominal (frequencyOf period) rms = true →
      after = { frequency := frequencyOf period, period := period, rms := rms, crossing := some closed,
                valueTime := some closed, validity := .valid }) ∧
    (isValidCycle nominal (frequencyOf period) rms = false →
      after.frequency = r.frequency ∧ after.period = r.period ∧ after.rms = r.rms ∧
        after.valueTime = r.valueTime ∧
        (r.validity = .valid → after.validity = .held 1) ∧ (r.validity = .held 1 → after.validity = .held 2) ∧
        (r.validity = .held 2 → after.validity = .held 3) ∧ (r.validity = .held 3 → after.validity = .invalid) ∧
        (r.validity = .invalid → after.validity = .invalid)) ∧
    ∀ (c : Channel) (k : Candidate) (x : ChannelSample), c.record = r →
      (c.lastCrossing = some opened → k.time = closed → c.sums = sums →
        (c.accept nominal k x).1.record = after) ∧
      ∀ toCome : Bool,
        (c.lose toCome).record = { r with crossing := none, validity := r.validity.onInvalid } ∧
        (isValidCycle nominal (frequencyOf period) rms = false →
          after.validity = (c.lose toCome).record.validity)

/-- The figures of an evaluation (R100, R101): the slip is the difference of the frequencies; the angle lies
within one turn and is congruent to the tick difference as an angle; and the predicted angle is congruent to
angle plus advance, within one turn where the advance is at most one turn. The model takes the single addition
or subtraction of R101 as it is written (log entry 49). -/
def Obligations.AnglesLieWithinATurn : Prop :=
  ∀ (p : Profile) (ship cable : CycleRecord) (ts tc : Timestamp),
    let f := figuresOf p ship cable ts tc
    let late := 1 ≤ (tc - ts).toNat ∧ (tc - ts).toNat ≤ 2147483647
    let ticks := if late then (ts - tc + BitVec.ofNat 32 cable.period).toNat else (ts - tc).toNat
    f.time = ts ∧ f.slip = (cable.frequency : Int) - ship.frequency ∧
      -18000 ≤ f.theta ∧ f.theta ≤ 17999 ∧
      (f.theta - (2 * (ticks * cable.frequency * 3) + 800000) / 1600000) % 36000 = 0 ∧
      (f.phi - (f.theta + f.alpha)) % 36000 = 0 ∧
      (-36000 ≤ f.alpha → f.alpha ≤ 36000 → -18000 ≤ f.phi ∧ f.phi ≤ 17999) ∧
      (f.slip = 0 → f.alpha = 0 ∧ f.delta = 0 ∧ f.phi = f.theta) ∧
      2000 * f.alpha - 1000 ≤ 72 * (f.slip * p.closeTime) ∧ 72 * (f.slip * p.closeTime) ≤ 2000 * f.alpha + 1000

/-- The shares of a group (R81): in STOPPED every share of the group is 0; otherwise the RUNNING members take
what the RELEASING members do not carry, in equal parts of which the first have one more, and the shares of the
group come to 1,000; no other module is touched. -/
def Obligations.SharesComeToThousand : Prop :=
  ∀ (s : State) (o : OutletId),
    let t := s.computeShares o
    let running := s.members o [.running]
    let releasing := s.members o [.releasing]
    let carried := (releasing.map fun m => (s.module m).share).sum
    t = { s with modules := t.modules } ∧
    (∀ m, { t.module m with share := 0 } = { s.module m with share := 0 }) ∧
    (∀ m, (s.module m).group ≠ some o → t.module m = s.module m) ∧
    ((s.outlet o).reference.mode = .stopped → ∀ m, (s.module m).group = some o → (t.module m).share = 0) ∧
    ((s.outlet o).reference.mode ≠ .stopped →
      (∀ m, (s.module m).group = some o → (s.module m).state ≠ .running → t.module m = s.module m) ∧
      (∀ m, m ∈ running →
        (t.module m).share = (1000 - carried) / running.length +
          (if (running.filter (· < m)).length < (1000 - carried) % running.length then 1 else 0)) ∧
      (running ≠ [] → carried ≤ 1000 →
        (running.map fun m => (t.module m).share).sum + (releasing.map fun m => (t.module m).share).sum = 1000))

/-- An evaluation (R99, R103, R104, R105): without two VALID records the figures are absent, WINDOW is asked
de-asserted and the result is RECORDS, whatever the link and the SB are (log entry 18, the model's reading);
with them WINDOW is asked exactly where the predicted angle lies in the window, and the six conditions decide;
where all hold and the unit accepts, the pulse of the closing time plus 100 ms starts, the check is CLOSING and
the attempt is counted; in every other case the breaker is not touched. -/
def Obligations.EvaluationRequestsPulse : Prop :=
  ∀ (s : State) (o : OutletId) (r : Session), (s.outlet o).session = some r →
    let x := s.outlet o
    let y := (s.evaluate o).outlet o
    (s.evaluate o).modules = s.modules ∧ (∀ q, q ≠ o → (s.evaluate o).outlet q = s.outlet q) ∧
    ((x.cable.record.validity ≠ .valid ∨ x.ship.record.validity ≠ .valid) →
      y.check.result = some .records ∧ y.check.windowAsked = false ∧ y.check.figures = none ∧ y.pb = x.pb ∧ y.check.state = x.check.state) ∧
    (x.cable.record.validity = .valid → x.ship.record.validity = .valid → ∀ ts tc,
      x.ship.record.crossing = some ts → x.cable.record.crossing = some tc →
      let p := r.snapshot
      let f := figuresOf p x.ship.record x.cable.record ts tc
      let conditions := x.link.up = true ∧ x.sb.feedback = true ∧ (p.slipMin : Int) ≤ f.slip ∧
        f.slip ≤ p.slipMax ∧ f.delta ≤ p.cWindow ∧ f.dV.natAbs ≤ p.vMatch ∧
        -(p.cWindow : Int) ≤ f.phi ∧ f.phi ≤ 0 ∧ 0 < f.phi + f.delta
      y.check.figures = some f ∧
      (y.check.windowAsked = true ↔ -(p.cWindow : Int) ≤ f.phi ∧ f.phi ≤ 0) ∧
      (conditions → x.check.state = .evaluating → s.pbRefusal o = none →
        y.check.result = some .close ∧ y.check.state = .closing ∧ y.check.attempts = x.check.attempts + 1 ∧
          y.check.feedbackTimer = some ((p.closeTime + 100) * Config.ticksPerMs) ∧
          y.pb = { x.pb with
            channel := .closePulse, closeTimer := some ((p.closeTime + 100) * Config.ticksPerMs) } ∧
          y.session = some { r with closeAttempts := min 65535 (r.closeAttempts + 1) }) ∧
      (conditions → x.check.state = .evaluating → ∀ why, s.pbRefusal o = some why →
        y.check.result = some (.refused why) ∧ y.check.state = .evaluating ∧
          y.check.refusedRequests = min 65535 (x.check.refusedRequests + 1) ∧ y.pb = x.pb ∧ y.session = x.session) ∧
      (¬conditions → y.check.result ≠ some .close ∧ y.pb = x.pb ∧ y.session = x.session ∧
        y.check.state = x.check.state) ∧
      (x.check.state ≠ .evaluating → y.pb = x.pb ∧ y.session = x.session ∧ y.check.state = x.check.state))

/-! ### Laws of the whole part -/

/-- The law of closing (R30, R31, R37, R104): whatever the command, a close pulse appears only at a sample set,
at an outlet in SYNCHRONISING whose figures meet the close conditions, with the SB closed and no interlock lost;
and an SB close command appears only at an outlet that enters phase CLOSING with no interlock lost. -/
def Obligations.BreakersCloseOnlyByRule : Prop :=
  ∀ (c : Instr) (s t : State), s.ready = true → s.sound = true → exec c s = .next t → ∀ o : OutletId,
    ((s.outlet o).pb.channel ≠ .closePulse → (t.outlet o).pb.channel = .closePulse →
      (∃ k, c = .sampleSet k) ∧ (s.outlet o).state = .synchronising ∧ (t.outlet o).state = .synchronising ∧
        (t.outlet o).check.state = .closing ∧ (t.blocking o) = none ∧ (t.outlet o).sb.channel = .closed ∧
        (t.outlet o).pb.feedback = false ∧ (t.outlet o).link.up = true ∧
        ((t.outlet o).session.any fun r => (t.outlet o).check.figures.any fun f =>
          (r.snapshot.slipMin : Int) ≤ f.slip && f.slip ≤ r.snapshot.slipMax &&
            f.delta ≤ r.snapshot.cWindow && f.dV.natAbs ≤ r.snapshot.vMatch &&
            -(r.snapshot.cWindow : Int) ≤ f.phi && f.phi ≤ 0 && 0 < f.phi + f.delta) = true) ∧
    ((s.outlet o).sb.channel ≠ .closing → (t.outlet o).sb.channel = .closing →
      (t.outlet o).state = .energising ∧ (t.outlet o).phase = some .closing ∧ t.blocking o = none)

/-- Framing loses nothing (R117, R118, R120): a body of 1 to 60 bytes sent as R120 frames it, byte by byte, to a
delimiter that hunts, leaves the part as the complete frame with that length, type, payload and check does, and
the check agrees. That FRAME_COMPLETE stands for the characters is the model's reading (log entry 9). -/
def Obligations.FramesArriveAsSent : Prop :=
  ∀ (s : State) (o : OutletId) (type : Byte) (payload : List Byte), s.ready = true →
    (s.outlet o).link.testing = false → (s.outlet o).link.assembling = none → payload.length ≤ 59 →
    let length := BitVec.ofNat 8 (payload.length + 1)
    let f : RawFrame :=
      { length := length, type := type, payload := payload, crc := crc16 (length :: type :: payload) }
    f.wellFormed = true ∧ exec (.frameComplete o f) s = .next (s.receive o (frameBytes (type :: payload)))

/-- Every step of a part whose protective rules hold, with its accounts in order, keeps an outlet's breakers as
the tables of sections 2.3 and 2.4 have them: no close command and no close pulse while an interlock is lost,
and no close pulse unless the SB is closed (R30, R31, R37, R104). Every step keeps the protective rules
together: breakers, the check, the transfer states, groups and requests (chapters 2, 3, 6 and 8), where the
accounts are in order (an open session in the session states, a held record in HELD alone) and each lifecycle
timer of a module runs only in the state it bounds (R46, R47, R49), which every step keeps too. -/
def Obligations.StepKeepsProtection : Prop :=
  (∀ s t : State, s.sound = true → s.accounts = true → step s = .next t → ∀ o, t.breakersSound o = true) ∧
  (∀ s t : State, s.sound = true → s.accounts = true → s.timersSound = true → step s = .next t →
    t.sound = true ∧ t.timersSound = true)

/-- Every step keeps the accounts of a part whose protective rules hold: the law of R158 at every outlet, the
log in its form (R171), and the records of the outlets. That the totals are added without end is the model's
reading (log entry 44). -/
def Obligations.StepKeepsAccounts : Prop :=
  ∀ s t : State, s.sound = true → s.accounts = true → step s = .next t → t.accounts = true

/-- Every step of a part whose protective rules hold keeps the law of R69, the profile ranges of R189 and the
setpoint within the limit (R79). -/
def Obligations.StepKeepsReferences : Prop :=
  ∀ s t : State, s.sound = true → s.referencesSound = true → step s = .next t → t.referencesSound = true

/-- Every step leaves nothing waiting: a part that runs, with its protective rules and its accounts in order,
has settled after it (R11, R21, R52, R55, R56), and every condition stands at the status unit at the level its
owner states (R193). That each of these follows every event is the model's reading (log entry 47). -/
def Obligations.StepLeavesPartSettled : Prop :=
  ∀ s t : State, s.sound = true → s.accounts = true → (s.atRest && (s.phase != .running || s.settled)) = true → step s = .next t →
    (t.atRest && (t.phase != .running || t.settled)) = true

/-- Every step keeps the billing log in its form (R171, R180), every queue and count within its capacity (R121,
R125, R128, R183, R184, R193, R197), the clock on a reading that exists (R153), and the tariff tables and the
lengths of the open intervals within their ranges (R160, R164). -/
def Obligations.StepKeepsForms : Prop :=
  ∀ s t : State, step s = .next t →
    (s.log.wellFormed = true → t.log.wellFormed = true) ∧ (s.bounded = true → t.bounded = true) ∧
      (s.clock.all (·.isReading) = true → t.clock.all (·.isReading) = true) ∧
      (s.tariffsSound = true → t.tariffsSound = true)
end

