-- ==== Sys2Proof/Laws/State.lean ====
section
/-! SUPPORT. One lemma for each field of State and each update: what a read of the field gives after it. -/

namespace Sys2Proof.Machine

/-! ### modify -/

@[simp] theorem State.modify_phase (s : State) (o : OutletId) (f : Outlet → Outlet) :
    (s.modify o f).phase = s.phase := rfl
@[simp] theorem State.modify_rstLow (s : State) (o : OutletId) (f : Outlet → Outlet) :
    (s.modify o f).rstLow = s.rstLow := rfl
@[simp] theorem State.modify_restart (s : State) (o : OutletId) (f : Outlet → Outlet) :
    (s.modify o f).restart = s.restart := rfl
@[simp] theorem State.modify_timestamp (s : State) (o : OutletId) (f : Outlet → Outlet) :
    (s.modify o f).timestamp = s.timestamp := rfl
@[simp] theorem State.modify_due (s : State) (o : OutletId) (f : Outlet → Outlet) :
    (s.modify o f).due = s.due := rfl
@[simp] theorem State.modify_estopAllMade (s : State) (o : OutletId) (f : Outlet → Outlet) :
    (s.modify o f).estopAllMade = s.estopAllMade := rfl
@[simp] theorem State.modify_modules (s : State) (o : OutletId) (f : Outlet → Outlet) :
    (s.modify o f).modules = s.modules := rfl
@[simp] theorem State.modify_grants (s : State) (o : OutletId) (f : Outlet → Outlet) :
    (s.modify o f).grants = s.grants := rfl
@[simp] theorem State.modify_gridLimit (s : State) (o : OutletId) (f : Outlet → Outlet) :
    (s.modify o f).gridLimit = s.gridLimit := rfl
@[simp] theorem State.modify_budgetOver (s : State) (o : OutletId) (f : Outlet → Outlet) :
    (s.modify o f).budgetOver = s.budgetOver := rfl
@[simp] theorem State.modify_grid (s : State) (o : OutletId) (f : Outlet → Outlet) :
    (s.modify o f).grid = s.grid := rfl
@[simp] theorem State.modify_clock (s : State) (o : OutletId) (f : Outlet → Outlet) :
    (s.modify o f).clock = s.clock := rfl
@[simp] theorem State.modify_tariff (s : State) (o : OutletId) (f : Outlet → Outlet) :
    (s.modify o f).tariff = s.tariff := rfl
@[simp] theorem State.modify_pendingTariff (s : State) (o : OutletId) (f : Outlet → Outlet) :
    (s.modify o f).pendingTariff = s.pendingTariff := rfl
@[simp] theorem State.modify_log (s : State) (o : OutletId) (f : Outlet → Outlet) :
    (s.modify o f).log = s.log := rfl
@[simp] theorem State.modify_sessionCounter (s : State) (o : OutletId) (f : Outlet → Outlet) :
    (s.modify o f).sessionCounter = s.sessionCounter := rfl
@[simp] theorem State.modify_profiles (s : State) (o : OutletId) (f : Outlet → Outlet) :
    (s.modify o f).profiles = s.profiles := rfl
@[simp] theorem State.modify_terminal (s : State) (o : OutletId) (f : Outlet → Outlet) :
    (s.modify o f).terminal = s.terminal := rfl
@[simp] theorem State.modify_status (s : State) (o : OutletId) (f : Outlet → Outlet) :
    (s.modify o f).status = s.status := rfl
@[simp] theorem State.modify_pending (s : State) (o : OutletId) (f : Outlet → Outlet) :
    (s.modify o f).pending = s.pending := rfl

/-! ### modifyModule -/

@[simp] theorem State.modifyModule_phase (s : State) (m : Fin 8) (f : Module → Module) :
    (s.modifyModule m f).phase = s.phase := rfl
@[simp] theorem State.modifyModule_rstLow (s : State) (m : Fin 8) (f : Module → Module) :
    (s.modifyModule m f).rstLow = s.rstLow := rfl
@[simp] theorem State.modifyModule_restart (s : State) (m : Fin 8) (f : Module → Module) :
    (s.modifyModule m f).restart = s.restart := rfl
@[simp] theorem State.modifyModule_timestamp (s : State) (m : Fin 8) (f : Module → Module) :
    (s.modifyModule m f).timestamp = s.timestamp := rfl
@[simp] theorem State.modifyModule_due (s : State) (m : Fin 8) (f : Module → Module) :
    (s.modifyModule m f).due = s.due := rfl
@[simp] theorem State.modifyModule_estopAllMade (s : State) (m : Fin 8) (f : Module → Module) :
    (s.modifyModule m f).estopAllMade = s.estopAllMade := rfl
@[simp] theorem State.modifyModule_outlets (s : State) (m : Fin 8) (f : Module → Module) :
    (s.modifyModule m f).outlets = s.outlets := rfl
@[simp] theorem State.modifyModule_grants (s : State) (m : Fin 8) (f : Module → Module) :
    (s.modifyModule m f).grants = s.grants := rfl
@[simp] theorem State.modifyModule_gridLimit (s : State) (m : Fin 8) (f : Module → Module) :
    (s.modifyModule m f).gridLimit = s.gridLimit := rfl
@[simp] theorem State.modifyModule_budgetOver (s : State) (m : Fin 8) (f : Module → Module) :
    (s.modifyModule m f).budgetOver = s.budgetOver := rfl
@[simp] theorem State.modifyModule_grid (s : State) (m : Fin 8) (f : Module → Module) :
    (s.modifyModule m f).grid = s.grid := rfl
@[simp] theorem State.modifyModule_clock (s : State) (m : Fin 8) (f : Module → Module) :
    (s.modifyModule m f).clock = s.clock := rfl
@[simp] theorem State.modifyModule_tariff (s : State) (m : Fin 8) (f : Module → Module) :
    (s.modifyModule m f).tariff = s.tariff := rfl
@[simp] theorem State.modifyModule_pendingTariff (s : State) (m : Fin 8) (f : Module → Module) :
    (s.modifyModule m f).pendingTariff = s.pendingTariff := rfl
@[simp] theorem State.modifyModule_log (s : State) (m : Fin 8) (f : Module → Module) :
    (s.modifyModule m f).log = s.log := rfl
@[simp] theorem State.modifyModule_sessionCounter (s : State) (m : Fin 8) (f : Module → Module) :
    (s.modifyModule m f).sessionCounter = s.sessionCounter := rfl
@[simp] theorem State.modifyModule_profiles (s : State) (m : Fin 8) (f : Module → Module) :
    (s.modifyModule m f).profiles = s.profiles := rfl
@[simp] theorem State.modifyModule_terminal (s : State) (m : Fin 8) (f : Module → Module) :
    (s.modifyModule m f).terminal = s.terminal := rfl
@[simp] theorem State.modifyModule_status (s : State) (m : Fin 8) (f : Module → Module) :
    (s.modifyModule m f).status = s.status := rfl
@[simp] theorem State.modifyModule_pending (s : State) (m : Fin 8) (f : Module → Module) :
    (s.modifyModule m f).pending = s.pending := rfl

/-! ### modifyRef -/

@[simp] theorem State.modifyRef_phase (s : State) (o : OutletId) (f : Reference → Reference) :
    (s.modifyRef o f).phase = s.phase := rfl
@[simp] theorem State.modifyRef_rstLow (s : State) (o : OutletId) (f : Reference → Reference) :
    (s.modifyRef o f).rstLow = s.rstLow := rfl
@[simp] theorem State.modifyRef_restart (s : State) (o : OutletId) (f : Reference → Reference) :
    (s.modifyRef o f).restart = s.restart := rfl
@[simp] theorem State.modifyRef_timestamp (s : State) (o : OutletId) (f : Reference → Reference) :
    (s.modifyRef o f).timestamp = s.timestamp := rfl
@[simp] theorem State.modifyRef_due (s : State) (o : OutletId) (f : Reference → Reference) :
    (s.modifyRef o f).due = s.due := rfl
@[simp] theorem State.modifyRef_estopAllMade (s : State) (o : OutletId) (f : Reference → Reference) :
    (s.modifyRef o f).estopAllMade = s.estopAllMade := rfl
@[simp] theorem State.modifyRef_modules (s : State) (o : OutletId) (f : Reference → Reference) :
    (s.modifyRef o f).modules = s.modules := rfl
@[simp] theorem State.modifyRef_grants (s : State) (o : OutletId) (f : Reference → Reference) :
    (s.modifyRef o f).grants = s.grants := rfl
@[simp] theorem State.modifyRef_gridLimit (s : State) (o : OutletId) (f : Reference → Reference) :
    (s.modifyRef o f).gridLimit = s.gridLimit := rfl
@[simp] theorem State.modifyRef_budgetOver (s : State) (o : OutletId) (f : Reference → Reference) :
    (s.modifyRef o f).budgetOver = s.budgetOver := rfl
@[simp] theorem State.modifyRef_grid (s : State) (o : OutletId) (f : Reference → Reference) :
    (s.modifyRef o f).grid = s.grid := rfl
@[simp] theorem State.modifyRef_clock (s : State) (o : OutletId) (f : Reference → Reference) :
    (s.modifyRef o f).clock = s.clock := rfl
@[simp] theorem State.modifyRef_tariff (s : State) (o : OutletId) (f : Reference → Reference) :
    (s.modifyRef o f).tariff = s.tariff := rfl
@[simp] theorem State.modifyRef_pendingTariff (s : State) (o : OutletId) (f : Reference → Reference) :
    (s.modifyRef o f).pendingTariff = s.pendingTariff := rfl
@[simp] theorem State.modifyRef_log (s : State) (o : OutletId) (f : Reference → Reference) :
    (s.modifyRef o f).log = s.log := rfl
@[simp] theorem State.modifyRef_sessionCounter (s : State) (o : OutletId) (f : Reference → Reference) :
    (s.modifyRef o f).sessionCounter = s.sessionCounter := rfl
@[simp] theorem State.modifyRef_profiles (s : State) (o : OutletId) (f : Reference → Reference) :
    (s.modifyRef o f).profiles = s.profiles := rfl
@[simp] theorem State.modifyRef_terminal (s : State) (o : OutletId) (f : Reference → Reference) :
    (s.modifyRef o f).terminal = s.terminal := rfl
@[simp] theorem State.modifyRef_status (s : State) (o : OutletId) (f : Reference → Reference) :
    (s.modifyRef o f).status = s.status := rfl
@[simp] theorem State.modifyRef_pending (s : State) (o : OutletId) (f : Reference → Reference) :
    (s.modifyRef o f).pending = s.pending := rfl

/-! ### modifyCheck -/

@[simp] theorem State.modifyCheck_phase (s : State) (o : OutletId) (f : SyncCheck → SyncCheck) :
    (s.modifyCheck o f).phase = s.phase := rfl
@[simp] theorem State.modifyCheck_rstLow (s : State) (o : OutletId) (f : SyncCheck → SyncCheck) :
    (s.modifyCheck o f).rstLow = s.rstLow := rfl
@[simp] theorem State.modifyCheck_restart (s : State) (o : OutletId) (f : SyncCheck → SyncCheck) :
    (s.modifyCheck o f).restart = s.restart := rfl
@[simp] theorem State.modifyCheck_timestamp (s : State) (o : OutletId) (f : SyncCheck → SyncCheck) :
    (s.modifyCheck o f).timestamp = s.timestamp := rfl
@[simp] theorem State.modifyCheck_due (s : State) (o : OutletId) (f : SyncCheck → SyncCheck) :
    (s.modifyCheck o f).due = s.due := rfl
@[simp] theorem State.modifyCheck_estopAllMade (s : State) (o : OutletId) (f : SyncCheck → SyncCheck) :
    (s.modifyCheck o f).estopAllMade = s.estopAllMade := rfl
@[simp] theorem State.modifyCheck_modules (s : State) (o : OutletId) (f : SyncCheck → SyncCheck) :
    (s.modifyCheck o f).modules = s.modules := rfl
@[simp] theorem State.modifyCheck_grants (s : State) (o : OutletId) (f : SyncCheck → SyncCheck) :
    (s.modifyCheck o f).grants = s.grants := rfl
@[simp] theorem State.modifyCheck_gridLimit (s : State) (o : OutletId) (f : SyncCheck → SyncCheck) :
    (s.modifyCheck o f).gridLimit = s.gridLimit := rfl
@[simp] theorem State.modifyCheck_budgetOver (s : State) (o : OutletId) (f : SyncCheck → SyncCheck) :
    (s.modifyCheck o f).budgetOver = s.budgetOver := rfl
@[simp] theorem State.modifyCheck_grid (s : State) (o : OutletId) (f : SyncCheck → SyncCheck) :
    (s.modifyCheck o f).grid = s.grid := rfl
@[simp] theorem State.modifyCheck_clock (s : State) (o : OutletId) (f : SyncCheck → SyncCheck) :
    (s.modifyCheck o f).clock = s.clock := rfl
@[simp] theorem State.modifyCheck_tariff (s : State) (o : OutletId) (f : SyncCheck → SyncCheck) :
    (s.modifyCheck o f).tariff = s.tariff := rfl
@[simp] theorem State.modifyCheck_pendingTariff (s : State) (o : OutletId) (f : SyncCheck → SyncCheck) :
    (s.modifyCheck o f).pendingTariff = s.pendingTariff := rfl
@[simp] theorem State.modifyCheck_log (s : State) (o : OutletId) (f : SyncCheck → SyncCheck) :
    (s.modifyCheck o f).log = s.log := rfl
@[simp] theorem State.modifyCheck_sessionCounter (s : State) (o : OutletId) (f : SyncCheck → SyncCheck) :
    (s.modifyCheck o f).sessionCounter = s.sessionCounter := rfl
@[simp] theorem State.modifyCheck_profiles (s : State) (o : OutletId) (f : SyncCheck → SyncCheck) :
    (s.modifyCheck o f).profiles = s.profiles := rfl
@[simp] theorem State.modifyCheck_terminal (s : State) (o : OutletId) (f : SyncCheck → SyncCheck) :
    (s.modifyCheck o f).terminal = s.terminal := rfl
@[simp] theorem State.modifyCheck_status (s : State) (o : OutletId) (f : SyncCheck → SyncCheck) :
    (s.modifyCheck o f).status = s.status := rfl
@[simp] theorem State.modifyCheck_pending (s : State) (o : OutletId) (f : SyncCheck → SyncCheck) :
    (s.modifyCheck o f).pending = s.pending := rfl

/-! ### modifyLink -/

@[simp] theorem State.modifyLink_phase (s : State) (o : OutletId) (f : ShipLink → ShipLink) :
    (s.modifyLink o f).phase = s.phase := rfl
@[simp] theorem State.modifyLink_rstLow (s : State) (o : OutletId) (f : ShipLink → ShipLink) :
    (s.modifyLink o f).rstLow = s.rstLow := rfl
@[simp] theorem State.modifyLink_restart (s : State) (o : OutletId) (f : ShipLink → ShipLink) :
    (s.modifyLink o f).restart = s.restart := rfl
@[simp] theorem State.modifyLink_timestamp (s : State) (o : OutletId) (f : ShipLink → ShipLink) :
    (s.modifyLink o f).timestamp = s.timestamp := rfl
@[simp] theorem State.modifyLink_due (s : State) (o : OutletId) (f : ShipLink → ShipLink) :
    (s.modifyLink o f).due = s.due := rfl
@[simp] theorem State.modifyLink_estopAllMade (s : State) (o : OutletId) (f : ShipLink → ShipLink) :
    (s.modifyLink o f).estopAllMade = s.estopAllMade := rfl
@[simp] theorem State.modifyLink_modules (s : State) (o : OutletId) (f : ShipLink → ShipLink) :
    (s.modifyLink o f).modules = s.modules := rfl
@[simp] theorem State.modifyLink_grants (s : State) (o : OutletId) (f : ShipLink → ShipLink) :
    (s.modifyLink o f).grants = s.grants := rfl
@[simp] theorem State.modifyLink_gridLimit (s : State) (o : OutletId) (f : ShipLink → ShipLink) :
    (s.modifyLink o f).gridLimit = s.gridLimit := rfl
@[simp] theorem State.modifyLink_budgetOver (s : State) (o : OutletId) (f : ShipLink → ShipLink) :
    (s.modifyLink o f).budgetOver = s.budgetOver := rfl
@[simp] theorem State.modifyLink_grid (s : State) (o : OutletId) (f : ShipLink → ShipLink) :
    (s.modifyLink o f).grid = s.grid := rfl
@[simp] theorem State.modifyLink_clock (s : State) (o : OutletId) (f : ShipLink → ShipLink) :
    (s.modifyLink o f).clock = s.clock := rfl
@[simp] theorem State.modifyLink_tariff (s : State) (o : OutletId) (f : ShipLink → ShipLink) :
    (s.modifyLink o f).tariff = s.tariff := rfl
@[simp] theorem State.modifyLink_pendingTariff (s : State) (o : OutletId) (f : ShipLink → ShipLink) :
    (s.modifyLink o f).pendingTariff = s.pendingTariff := rfl
@[simp] theorem State.modifyLink_log (s : State) (o : OutletId) (f : ShipLink → ShipLink) :
    (s.modifyLink o f).log = s.log := rfl
@[simp] theorem State.modifyLink_sessionCounter (s : State) (o : OutletId) (f : ShipLink → ShipLink) :
    (s.modifyLink o f).sessionCounter = s.sessionCounter := rfl
@[simp] theorem State.modifyLink_profiles (s : State) (o : OutletId) (f : ShipLink → ShipLink) :
    (s.modifyLink o f).profiles = s.profiles := rfl
@[simp] theorem State.modifyLink_terminal (s : State) (o : OutletId) (f : ShipLink → ShipLink) :
    (s.modifyLink o f).terminal = s.terminal := rfl
@[simp] theorem State.modifyLink_status (s : State) (o : OutletId) (f : ShipLink → ShipLink) :
    (s.modifyLink o f).status = s.status := rfl
@[simp] theorem State.modifyLink_pending (s : State) (o : OutletId) (f : ShipLink → ShipLink) :
    (s.modifyLink o f).pending = s.pending := rfl

/-! ### modifyHandover -/

@[simp] theorem State.modifyHandover_phase (s : State) (o : OutletId) (f : Handover → Handover) :
    (s.modifyHandover o f).phase = s.phase := rfl
@[simp] theorem State.modifyHandover_rstLow (s : State) (o : OutletId) (f : Handover → Handover) :
    (s.modifyHandover o f).rstLow = s.rstLow := rfl
@[simp] theorem State.modifyHandover_restart (s : State) (o : OutletId) (f : Handover → Handover) :
    (s.modifyHandover o f).restart = s.restart := rfl
@[simp] theorem State.modifyHandover_timestamp (s : State) (o : OutletId) (f : Handover → Handover) :
    (s.modifyHandover o f).timestamp = s.timestamp := rfl
@[simp] theorem State.modifyHandover_due (s : State) (o : OutletId) (f : Handover → Handover) :
    (s.modifyHandover o f).due = s.due := rfl
@[simp] theorem State.modifyHandover_estopAllMade (s : State) (o : OutletId) (f : Handover → Handover) :
    (s.modifyHandover o f).estopAllMade = s.estopAllMade := rfl
@[simp] theorem State.modifyHandover_modules (s : State) (o : OutletId) (f : Handover → Handover) :
    (s.modifyHandover o f).modules = s.modules := rfl
@[simp] theorem State.modifyHandover_grants (s : State) (o : OutletId) (f : Handover → Handover) :
    (s.modifyHandover o f).grants = s.grants := rfl
@[simp] theorem State.modifyHandover_gridLimit (s : State) (o : OutletId) (f : Handover → Handover) :
    (s.modifyHandover o f).gridLimit = s.gridLimit := rfl
@[simp] theorem State.modifyHandover_budgetOver (s : State) (o : OutletId) (f : Handover → Handover) :
    (s.modifyHandover o f).budgetOver = s.budgetOver := rfl
@[simp] theorem State.modifyHandover_grid (s : State) (o : OutletId) (f : Handover → Handover) :
    (s.modifyHandover o f).grid = s.grid := rfl
@[simp] theorem State.modifyHandover_clock (s : State) (o : OutletId) (f : Handover → Handover) :
    (s.modifyHandover o f).clock = s.clock := rfl
@[simp] theorem State.modifyHandover_tariff (s : State) (o : OutletId) (f : Handover → Handover) :
    (s.modifyHandover o f).tariff = s.tariff := rfl
@[simp] theorem State.modifyHandover_pendingTariff (s : State) (o : OutletId) (f : Handover → Handover) :
    (s.modifyHandover o f).pendingTariff = s.pendingTariff := rfl
@[simp] theorem State.modifyHandover_log (s : State) (o : OutletId) (f : Handover → Handover) :
    (s.modifyHandover o f).log = s.log := rfl
@[simp] theorem State.modifyHandover_sessionCounter (s : State) (o : OutletId) (f : Handover → Handover) :
    (s.modifyHandover o f).sessionCounter = s.sessionCounter := rfl
@[simp] theorem State.modifyHandover_profiles (s : State) (o : OutletId) (f : Handover → Handover) :
    (s.modifyHandover o f).profiles = s.profiles := rfl
@[simp] theorem State.modifyHandover_terminal (s : State) (o : OutletId) (f : Handover → Handover) :
    (s.modifyHandover o f).terminal = s.terminal := rfl
@[simp] theorem State.modifyHandover_status (s : State) (o : OutletId) (f : Handover → Handover) :
    (s.modifyHandover o f).status = s.status := rfl
@[simp] theorem State.modifyHandover_pending (s : State) (o : OutletId) (f : Handover → Handover) :
    (s.modifyHandover o f).pending = s.pending := rfl

/-! ### modifySession -/

@[simp] theorem State.modifySession_phase (s : State) (o : OutletId) (f : Session → Session) :
    (s.modifySession o f).phase = s.phase := rfl
@[simp] theorem State.modifySession_rstLow (s : State) (o : OutletId) (f : Session → Session) :
    (s.modifySession o f).rstLow = s.rstLow := rfl
@[simp] theorem State.modifySession_restart (s : State) (o : OutletId) (f : Session → Session) :
    (s.modifySession o f).restart = s.restart := rfl
@[simp] theorem State.modifySession_timestamp (s : State) (o : OutletId) (f : Session → Session) :
    (s.modifySession o f).timestamp = s.timestamp := rfl
@[simp] theorem State.modifySession_due (s : State) (o : OutletId) (f : Session → Session) :
    (s.modifySession o f).due = s.due := rfl
@[simp] theorem State.modifySession_estopAllMade (s : State) (o : OutletId) (f : Session → Session) :
    (s.modifySession o f).estopAllMade = s.estopAllMade := rfl
@[simp] theorem State.modifySession_modules (s : State) (o : OutletId) (f : Session → Session) :
    (s.modifySession o f).modules = s.modules := rfl
@[simp] theorem State.modifySession_grants (s : State) (o : OutletId) (f : Session → Session) :
    (s.modifySession o f).grants = s.grants := rfl
@[simp] theorem State.modifySession_gridLimit (s : State) (o : OutletId) (f : Session → Session) :
    (s.modifySession o f).gridLimit = s.gridLimit := rfl
@[simp] theorem State.modifySession_budgetOver (s : State) (o : OutletId) (f : Session → Session) :
    (s.modifySession o f).budgetOver = s.budgetOver := rfl
@[simp] theorem State.modifySession_grid (s : State) (o : OutletId) (f : Session → Session) :
    (s.modifySession o f).grid = s.grid := rfl
@[simp] theorem State.modifySession_clock (s : State) (o : OutletId) (f : Session → Session) :
    (s.modifySession o f).clock = s.clock := rfl
@[simp] theorem State.modifySession_tariff (s : State) (o : OutletId) (f : Session → Session) :
    (s.modifySession o f).tariff = s.tariff := rfl
@[simp] theorem State.modifySession_pendingTariff (s : State) (o : OutletId) (f : Session → Session) :
    (s.modifySession o f).pendingTariff = s.pendingTariff := rfl
@[simp] theorem State.modifySession_log (s : State) (o : OutletId) (f : Session → Session) :
    (s.modifySession o f).log = s.log := rfl
@[simp] theorem State.modifySession_sessionCounter (s : State) (o : OutletId) (f : Session → Session) :
    (s.modifySession o f).sessionCounter = s.sessionCounter := rfl
@[simp] theorem State.modifySession_profiles (s : State) (o : OutletId) (f : Session → Session) :
    (s.modifySession o f).profiles = s.profiles := rfl
@[simp] theorem State.modifySession_terminal (s : State) (o : OutletId) (f : Session → Session) :
    (s.modifySession o f).terminal = s.terminal := rfl
@[simp] theorem State.modifySession_status (s : State) (o : OutletId) (f : Session → Session) :
    (s.modifySession o f).status = s.status := rfl
@[simp] theorem State.modifySession_pending (s : State) (o : OutletId) (f : Session → Session) :
    (s.modifySession o f).pending = s.pending := rfl

/-! ### modifyPb -/

@[simp] theorem State.modifyPb_phase (s : State) (o : OutletId) (f : ParallelBreaker → ParallelBreaker) :
    (s.modifyPb o f).phase = s.phase := rfl
@[simp] theorem State.modifyPb_rstLow (s : State) (o : OutletId) (f : ParallelBreaker → ParallelBreaker) :
    (s.modifyPb o f).rstLow = s.rstLow := rfl
@[simp] theorem State.modifyPb_restart (s : State) (o : OutletId) (f : ParallelBreaker → ParallelBreaker) :
    (s.modifyPb o f).restart = s.restart := rfl
@[simp] theorem State.modifyPb_timestamp (s : State) (o : OutletId) (f : ParallelBreaker → ParallelBreaker) :
    (s.modifyPb o f).timestamp = s.timestamp := rfl
@[simp] theorem State.modifyPb_due (s : State) (o : OutletId) (f : ParallelBreaker → ParallelBreaker) :
    (s.modifyPb o f).due = s.due := rfl
@[simp] theorem State.modifyPb_estopAllMade (s : State) (o : OutletId) (f : ParallelBreaker → ParallelBreaker) :
    (s.modifyPb o f).estopAllMade = s.estopAllMade := rfl
@[simp] theorem State.modifyPb_modules (s : State) (o : OutletId) (f : ParallelBreaker → ParallelBreaker) :
    (s.modifyPb o f).modules = s.modules := rfl
@[simp] theorem State.modifyPb_grants (s : State) (o : OutletId) (f : ParallelBreaker → ParallelBreaker) :
    (s.modifyPb o f).grants = s.grants := rfl
@[simp] theorem State.modifyPb_gridLimit (s : State) (o : OutletId) (f : ParallelBreaker → ParallelBreaker) :
    (s.modifyPb o f).gridLimit = s.gridLimit := rfl
@[simp] theorem State.modifyPb_budgetOver (s : State) (o : OutletId) (f : ParallelBreaker → ParallelBreaker) :
    (s.modifyPb o f).budgetOver = s.budgetOver := rfl
@[simp] theorem State.modifyPb_grid (s : State) (o : OutletId) (f : ParallelBreaker → ParallelBreaker) :
    (s.modifyPb o f).grid = s.grid := rfl
@[simp] theorem State.modifyPb_clock (s : State) (o : OutletId) (f : ParallelBreaker → ParallelBreaker) :
    (s.modifyPb o f).clock = s.clock := rfl
@[simp] theorem State.modifyPb_tariff (s : State) (o : OutletId) (f : ParallelBreaker → ParallelBreaker) :
    (s.modifyPb o f).tariff = s.tariff := rfl
@[simp] theorem State.modifyPb_pendingTariff (s : State) (o : OutletId) (f : ParallelBreaker → ParallelBreaker) :
    (s.modifyPb o f).pendingTariff = s.pendingTariff := rfl
@[simp] theorem State.modifyPb_log (s : State) (o : OutletId) (f : ParallelBreaker → ParallelBreaker) :
    (s.modifyPb o f).log = s.log := rfl
@[simp] theorem State.modifyPb_sessionCounter (s : State) (o : OutletId) (f : ParallelBreaker → ParallelBreaker) :
    (s.modifyPb o f).sessionCounter = s.sessionCounter := rfl
@[simp] theorem State.modifyPb_profiles (s : State) (o : OutletId) (f : ParallelBreaker → ParallelBreaker) :
    (s.modifyPb o f).profiles = s.profiles := rfl
@[simp] theorem State.modifyPb_terminal (s : State) (o : OutletId) (f : ParallelBreaker → ParallelBreaker) :
    (s.modifyPb o f).terminal = s.terminal := rfl
@[simp] theorem State.modifyPb_status (s : State) (o : OutletId) (f : ParallelBreaker → ParallelBreaker) :
    (s.modifyPb o f).status = s.status := rfl
@[simp] theorem State.modifyPb_pending (s : State) (o : OutletId) (f : ParallelBreaker → ParallelBreaker) :
    (s.modifyPb o f).pending = s.pending := rfl

/-! ### report -/

@[simp] theorem State.report_phase (s : State) (g : Group) (x : Item) (level : Bool) :
    (s.report g x level).phase = s.phase := rfl
@[simp] theorem State.report_rstLow (s : State) (g : Group) (x : Item) (level : Bool) :
    (s.report g x level).rstLow = s.rstLow := rfl
@[simp] theorem State.report_restart (s : State) (g : Group) (x : Item) (level : Bool) :
    (s.report g x level).restart = s.restart := rfl
@[simp] theorem State.report_timestamp (s : State) (g : Group) (x : Item) (level : Bool) :
    (s.report g x level).timestamp = s.timestamp := rfl
@[simp] theorem State.report_due (s : State) (g : Group) (x : Item) (level : Bool) :
    (s.report g x level).due = s.due := rfl
@[simp] theorem State.report_estopAllMade (s : State) (g : Group) (x : Item) (level : Bool) :
    (s.report g x level).estopAllMade = s.estopAllMade := rfl
@[simp] theorem State.report_outlets (s : State) (g : Group) (x : Item) (level : Bool) :
    (s.report g x level).outlets = s.outlets := rfl
@[simp] theorem State.report_modules (s : State) (g : Group) (x : Item) (level : Bool) :
    (s.report g x level).modules = s.modules := rfl
@[simp] theorem State.report_grants (s : State) (g : Group) (x : Item) (level : Bool) :
    (s.report g x level).grants = s.grants := rfl
@[simp] theorem State.report_gridLimit (s : State) (g : Group) (x : Item) (level : Bool) :
    (s.report g x level).gridLimit = s.gridLimit := rfl
@[simp] theorem State.report_budgetOver (s : State) (g : Group) (x : Item) (level : Bool) :
    (s.report g x level).budgetOver = s.budgetOver := rfl
@[simp] theorem State.report_grid (s : State) (g : Group) (x : Item) (level : Bool) :
    (s.report g x level).grid = s.grid := rfl
@[simp] theorem State.report_clock (s : State) (g : Group) (x : Item) (level : Bool) :
    (s.report g x level).clock = s.clock := rfl
@[simp] theorem State.report_tariff (s : State) (g : Group) (x : Item) (level : Bool) :
    (s.report g x level).tariff = s.tariff := rfl
@[simp] theorem State.report_pendingTariff (s : State) (g : Group) (x : Item) (level : Bool) :
    (s.report g x level).pendingTariff = s.pendingTariff := rfl
@[simp] theorem State.report_log (s : State) (g : Group) (x : Item) (level : Bool) :
    (s.report g x level).log = s.log := rfl
@[simp] theorem State.report_sessionCounter (s : State) (g : Group) (x : Item) (level : Bool) :
    (s.report g x level).sessionCounter = s.sessionCounter := rfl
@[simp] theorem State.report_profiles (s : State) (g : Group) (x : Item) (level : Bool) :
    (s.report g x level).profiles = s.profiles := rfl
@[simp] theorem State.report_terminal (s : State) (g : Group) (x : Item) (level : Bool) :
    (s.report g x level).terminal = s.terminal := rfl
@[simp] theorem State.report_pending (s : State) (g : Group) (x : Item) (level : Bool) :
    (s.report g x level).pending = s.pending := rfl

/-! ### raise -/

@[simp] theorem State.raise_phase (s : State) (g : Group) (x : Item) :
    (s.raise g x).phase = s.phase := rfl
@[simp] theorem State.raise_rstLow (s : State) (g : Group) (x : Item) :
    (s.raise g x).rstLow = s.rstLow := rfl
@[simp] theorem State.raise_restart (s : State) (g : Group) (x : Item) :
    (s.raise g x).restart = s.restart := rfl
@[simp] theorem State.raise_timestamp (s : State) (g : Group) (x : Item) :
    (s.raise g x).timestamp = s.timestamp := rfl
@[simp] theorem State.raise_due (s : State) (g : Group) (x : Item) :
    (s.raise g x).due = s.due := rfl
@[simp] theorem State.raise_estopAllMade (s : State) (g : Group) (x : Item) :
    (s.raise g x).estopAllMade = s.estopAllMade := rfl
@[simp] theorem State.raise_outlets (s : State) (g : Group) (x : Item) :
    (s.raise g x).outlets = s.outlets := rfl
@[simp] theorem State.raise_modules (s : State) (g : Group) (x : Item) :
    (s.raise g x).modules = s.modules := rfl
@[simp] theorem State.raise_grants (s : State) (g : Group) (x : Item) :
    (s.raise g x).grants = s.grants := rfl
@[simp] theorem State.raise_gridLimit (s : State) (g : Group) (x : Item) :
    (s.raise g x).gridLimit = s.gridLimit := rfl
@[simp] theorem State.raise_budgetOver (s : State) (g : Group) (x : Item) :
    (s.raise g x).budgetOver = s.budgetOver := rfl
@[simp] theorem State.raise_grid (s : State) (g : Group) (x : Item) :
    (s.raise g x).grid = s.grid := rfl
@[simp] theorem State.raise_clock (s : State) (g : Group) (x : Item) :
    (s.raise g x).clock = s.clock := rfl
@[simp] theorem State.raise_tariff (s : State) (g : Group) (x : Item) :
    (s.raise g x).tariff = s.tariff := rfl
@[simp] theorem State.raise_pendingTariff (s : State) (g : Group) (x : Item) :
    (s.raise g x).pendingTariff = s.pendingTariff := rfl
@[simp] theorem State.raise_log (s : State) (g : Group) (x : Item) :
    (s.raise g x).log = s.log := rfl
@[simp] theorem State.raise_sessionCounter (s : State) (g : Group) (x : Item) :
    (s.raise g x).sessionCounter = s.sessionCounter := rfl
@[simp] theorem State.raise_profiles (s : State) (g : Group) (x : Item) :
    (s.raise g x).profiles = s.profiles := rfl
@[simp] theorem State.raise_terminal (s : State) (g : Group) (x : Item) :
    (s.raise g x).terminal = s.terminal := rfl
@[simp] theorem State.raise_pending (s : State) (g : Group) (x : Item) :
    (s.raise g x).pending = s.pending := rfl

/-! ### answer -/

@[simp] theorem State.answer_phase (s : State) (r : Reply) :
    (s.answer r).phase = s.phase := rfl
@[simp] theorem State.answer_rstLow (s : State) (r : Reply) :
    (s.answer r).rstLow = s.rstLow := rfl
@[simp] theorem State.answer_restart (s : State) (r : Reply) :
    (s.answer r).restart = s.restart := rfl
@[simp] theorem State.answer_timestamp (s : State) (r : Reply) :
    (s.answer r).timestamp = s.timestamp := rfl
@[simp] theorem State.answer_due (s : State) (r : Reply) :
    (s.answer r).due = s.due := rfl
@[simp] theorem State.answer_estopAllMade (s : State) (r : Reply) :
    (s.answer r).estopAllMade = s.estopAllMade := rfl
@[simp] theorem State.answer_outlets (s : State) (r : Reply) :
    (s.answer r).outlets = s.outlets := rfl
@[simp] theorem State.answer_modules (s : State) (r : Reply) :
    (s.answer r).modules = s.modules := rfl
@[simp] theorem State.answer_grants (s : State) (r : Reply) :
    (s.answer r).grants = s.grants := rfl
@[simp] theorem State.answer_gridLimit (s : State) (r : Reply) :
    (s.answer r).gridLimit = s.gridLimit := rfl
@[simp] theorem State.answer_budgetOver (s : State) (r : Reply) :
    (s.answer r).budgetOver = s.budgetOver := rfl
@[simp] theorem State.answer_grid (s : State) (r : Reply) :
    (s.answer r).grid = s.grid := rfl
@[simp] theorem State.answer_clock (s : State) (r : Reply) :
    (s.answer r).clock = s.clock := rfl
@[simp] theorem State.answer_tariff (s : State) (r : Reply) :
    (s.answer r).tariff = s.tariff := rfl
@[simp] theorem State.answer_pendingTariff (s : State) (r : Reply) :
    (s.answer r).pendingTariff = s.pendingTariff := rfl
@[simp] theorem State.answer_log (s : State) (r : Reply) :
    (s.answer r).log = s.log := rfl
@[simp] theorem State.answer_sessionCounter (s : State) (r : Reply) :
    (s.answer r).sessionCounter = s.sessionCounter := rfl
@[simp] theorem State.answer_profiles (s : State) (r : Reply) :
    (s.answer r).profiles = s.profiles := rfl
@[simp] theorem State.answer_status (s : State) (r : Reply) :
    (s.answer r).status = s.status := rfl
@[simp] theorem State.answer_pending (s : State) (r : Reply) :
    (s.answer r).pending = s.pending := rfl

/-! ### elapse -/

@[simp] theorem State.elapse_phase (s : State) (n : Nat) : (s.elapse n).phase = s.phase := rfl
@[simp] theorem State.elapse_rstLow (s : State) (n : Nat) : (s.elapse n).rstLow = s.rstLow := rfl
@[simp] theorem State.elapse_restart (s : State) (n : Nat) : (s.elapse n).restart = s.restart := rfl
@[simp] theorem State.elapse_estopAllMade (s : State) (n : Nat) : (s.elapse n).estopAllMade = s.estopAllMade := rfl
@[simp] theorem State.elapse_gridLimit (s : State) (n : Nat) : (s.elapse n).gridLimit = s.gridLimit := rfl
@[simp] theorem State.elapse_budgetOver (s : State) (n : Nat) : (s.elapse n).budgetOver = s.budgetOver := rfl
@[simp] theorem State.elapse_clock (s : State) (n : Nat) : (s.elapse n).clock = s.clock := rfl
@[simp] theorem State.elapse_tariff (s : State) (n : Nat) : (s.elapse n).tariff = s.tariff := rfl
@[simp] theorem State.elapse_pendingTariff (s : State) (n : Nat) : (s.elapse n).pendingTariff = s.pendingTariff := rfl
@[simp] theorem State.elapse_log (s : State) (n : Nat) : (s.elapse n).log = s.log := rfl
@[simp] theorem State.elapse_sessionCounter (s : State) (n : Nat) : (s.elapse n).sessionCounter = s.sessionCounter := rfl
@[simp] theorem State.elapse_profiles (s : State) (n : Nat) : (s.elapse n).profiles = s.profiles := rfl
@[simp] theorem State.elapse_terminal (s : State) (n : Nat) : (s.elapse n).terminal = s.terminal := rfl
@[simp] theorem State.elapse_status (s : State) (n : Nat) : (s.elapse n).status = s.status := rfl
@[simp] theorem State.elapse_pending (s : State) (n : Nat) : (s.elapse n).pending = s.pending := rfl

/-! ### The fields an update writes -/

@[simp] theorem State.answer_terminal (s : State) (r : Reply) :
    (s.answer r).terminal = { s.terminal with reply := some r, lastReply := some r } := rfl

@[simp] theorem State.report_status (s : State) (g : Group) (x : Item) (level : Bool) :
    (s.report g x level).status = s.status.report g x level := rfl

@[simp] theorem State.raise_status (s : State) (g : Group) (x : Item) :
    (s.raise g x).status = s.status.set g ((s.status.get g).latch g.items x) := rfl

@[simp] theorem State.elapse_timestamp (s : State) (n : Nat) :
    (s.elapse n).timestamp = s.timestamp + BitVec.ofNat 32 n := rfl

/-! ### One outlet, one module, one group -/

@[simp] theorem PerOutlet.get_set_self {α : Type} (p : PerOutlet α) (o : OutletId) (x : α) :
    (p.set o x).get o = x := by cases o <;> rfl

theorem PerOutlet.get_set_ne {α : Type} (p : PerOutlet α) {o q : OutletId} (x : α) (h : q ≠ o) :
    (p.set o x).get q = p.get q := by
  cases o <;> cases q <;> first | rfl | exact absurd rfl h

@[simp] theorem PerOutlet.set_set {α : Type} (p : PerOutlet α) (o : OutletId) (x y : α) :
    (p.set o x).set o y = p.set o y := by cases o <;> rfl

@[simp] theorem PerOutlet.set_get {α : Type} (p : PerOutlet α) (o : OutletId) : p.set o (p.get o) = p := by
  cases o <;> rfl

@[simp] theorem State.outlet_modify_self (s : State) (o : OutletId) (f : Outlet → Outlet) :
    (s.modify o f).outlet o = f (s.outlet o) := PerOutlet.get_set_self _ _ _

@[simp] theorem State.outlet_modify_ne (s : State) {o q : OutletId} (f : Outlet → Outlet) (h : q ≠ o) :
    (s.modify o f).outlet q = s.outlet q := PerOutlet.get_set_ne _ _ h

@[simp] theorem State.modify_modify (s : State) (o : OutletId) (f g : Outlet → Outlet) :
    (s.modify o f).modify o g = s.modify o fun x => g (f x) := by
  simp only [State.modify, State.outlet, PerOutlet.get_set_self, PerOutlet.set_set]

theorem State.modify_self (s : State) (o : OutletId) : (s.modify o fun x => x) = s := by
  simp only [State.modify, State.outlet, PerOutlet.set_get]

@[simp] theorem State.module_modify (s : State) (o : OutletId) (f : Outlet → Outlet) (m : Fin 8) :
    (s.modify o f).module m = s.module m := rfl

@[simp] theorem State.outlet_modifyModule (s : State) (m : Fin 8) (f : Module → Module) (o : OutletId) :
    (s.modifyModule m f).outlet o = s.outlet o := rfl

@[simp] theorem State.module_modifyModule_self (s : State) (m : Fin 8) (f : Module → Module) :
    (s.modifyModule m f).module m = f (s.module m) := by
  simp [State.modifyModule, State.module]

@[simp] theorem State.module_modifyModule_ne (s : State) {m k : Fin 8} (f : Module → Module) (h : k ≠ m) :
    (s.modifyModule m f).module k = s.module k := by
  have h' : m.val ≠ k.val := fun e => h (Fin.ext e.symm)
  simp [State.modifyModule, State.module, Vector.getElem_set_ne, h']

@[simp] theorem State.outlet_elapse (s : State) (n : Nat) (o : OutletId) :
    (s.elapse n).outlet o = (s.outlet o).elapse n := by cases o <;> rfl

@[simp] theorem State.module_elapse (s : State) (n : Nat) (m : Fin 8) :
    (s.elapse n).module m = (s.module m).elapse n := by
  simp [State.elapse, State.module]

@[simp] theorem StatusUnit.get_set_self (u : StatusUnit) (g : Group) (x : GroupStatus) :
    (u.set g x).get g = x := by
  cases g with
  | part => rfl
  | outlet o => cases o <;> rfl

theorem StatusUnit.get_set_ne (u : StatusUnit) {g k : Group} (x : GroupStatus) (h : k ≠ g) :
    (u.set g x).get k = u.get k := by
  cases g with
  | part =>
    cases k with
    | part => exact absurd rfl h
    | outlet q => rfl
  | outlet o =>
    cases k with
    | part => rfl
    | outlet q =>
      have : q ≠ o := fun e => h (by rw [e])
      exact PerOutlet.get_set_ne _ _ this

@[simp] theorem StatusUnit.set_get (u : StatusUnit) (g : Group) : u.set g (u.get g) = u := by
  cases g with
  | part => rfl
  | outlet o => cases o <;> rfl

@[simp] theorem StatusUnit.set_filters (u : StatusUnit) (g : Group) (x : GroupStatus) :
    (u.set g x).filters = u.filters := by cases g <;> rfl

@[simp] theorem StatusUnit.set_attention (u : StatusUnit) (g : Group) (x : GroupStatus) :
    (u.set g x).attention = u.attention := by cases g <;> rfl

@[simp] theorem StatusUnit.set_errors (u : StatusUnit) (g : Group) (x : GroupStatus) :
    (u.set g x).errors = u.errors := by cases g <;> rfl

end Sys2Proof.Machine
end

