-- ==== Sys2Proof/Laws/Log.lean ====
section
/-! SUPPORT. What the billing log's operations can do: a record written, a closed session placed, records released;
and that each keeps the form of the log. -/

namespace Sys2Proof.Machine

/-! ### The form of the log -/

/-- The form of the log, clause by clause. -/
theorem BillingLog.wellFormed_iff (l : BillingLog) :
    l.wellFormed = true ↔
      l.records.length ≤ Config.logCapacity ∧ l.closed.length ≤ Config.closedCapacity ∧
        (∀ n, l.next = some n → 1 ≤ n ∧ n ≤ Config.max32) ∧
        l.records.length < l.next.getD (Config.max32 + 1) ∧
        consecutiveFrom (l.next.getD (Config.max32 + 1) - l.records.length) l.records = true := by
  unfold BillingLog.wellFormed
  cases h : l.next <;> simp [and_assoc]

theorem consecutiveFrom_append (n : Nat) (xs : List LogRecord) (r : LogRecord) :
    consecutiveFrom n (xs ++ [r]) = (consecutiveFrom n xs && r.sequence == n + xs.length) := by
  induction xs generalizing n with
  | nil => simp [consecutiveFrom]
  | cons x xs ih =>
    simp only [List.cons_append, consecutiveFrom, ih, Bool.and_assoc, List.length_cons]
    rw [show n + (xs.length + 1) = n + 1 + xs.length by omega]

/-- Of consecutive records, those after a sequence are the last ones, and are consecutive. -/
theorem consecutiveFrom_filter (n seq : Nat) (xs : List LogRecord) (h : consecutiveFrom n xs = true) :
    let ys := xs.filter (seq < ·.sequence)
    ys.length ≤ xs.length ∧ consecutiveFrom (n + xs.length - ys.length) ys = true ∧
      ys = xs.drop (xs.length - ys.length) := by
  induction xs generalizing n with
  | nil => simp [consecutiveFrom]
  | cons x xs ih =>
    simp only [consecutiveFrom, Bool.and_eq_true, beq_iff_eq] at h
    obtain ⟨h1, h2⟩ := h
    obtain ⟨i1, i2, i3⟩ := ih (n + 1) h2
    by_cases hx : seq < x.sequence
    · have all : ∀ (k : Nat) (zs : List LogRecord), consecutiveFrom k zs = true → seq < k →
          zs.filter (seq < ·.sequence) = zs := by
        intro k zs
        induction zs generalizing k with
        | nil => intros; rfl
        | cons z zs ihz =>
          intro hz hk
          simp only [consecutiveFrom, Bool.and_eq_true, beq_iff_eq] at hz
          simp [hz.1, hk, ihz (k + 1) hz.2 (by omega)]
      have e : (x :: xs).filter (seq < ·.sequence) = x :: xs := by
        simp [hx, all (n + 1) xs h2 (by omega)]
      rw [e]
      simp only [List.length_cons, Nat.le_refl, Nat.sub_self, List.drop_zero, and_true, true_and]
      rw [show n + (xs.length + 1) - (xs.length + 1) = n by omega]
      simp [consecutiveFrom, h1, h2]
    · have e : (x :: xs).filter (seq < ·.sequence) = xs.filter (seq < ·.sequence) := by simp [hx]
      rw [e]
      simp only [List.length_cons]
      refine ⟨by omega, ?_, ?_⟩
      · rw [show n + (xs.length + 1) = n + 1 + xs.length by omega]
        exact i2
      · rw [show xs.length + 1 - (xs.filter (seq < ·.sequence)).length =
          xs.length - (xs.filter (seq < ·.sequence)).length + 1 by omega]
        exact i3

/-! ### Writing -/

/-- The record that a write makes (R171). -/
theorem BillingLog.write_spec (l : BillingLog) (r : Session) (f : IntervalFigures) (n : Nat) (h : l.next = some n) :
    (l.write r f).records = l.records ++
        [{ sequence := n, session := r.number, outlet := r.outlet, start := f.start, duration := f.duration,
           importWh := f.importWh, exportWh := f.exportWh, mergedCount := r.merged.count, flags := f.flags }] ∧
      (l.write r f).next = (if n < Config.max32 then some (n + 1) else none) ∧
      l.write r f = { l with records := (l.write r f).records, next := (l.write r f).next } := by
  simp [BillingLog.write, h]

/-- Nothing but the records and the counter moves at a write. -/
theorem BillingLog.write_frame (l : BillingLog) (r : Session) (f : IntervalFigures) :
    l.write r f = { l with records := (l.write r f).records, next := (l.write r f).next } := by
  unfold BillingLog.write
  split <;> rfl

theorem BillingLog.hasRoom_iff (l : BillingLog) :
    l.hasRoom = true ↔ l.next.isSome = true ∧ l.records.length < Config.logCapacity := by
  unfold BillingLog.hasRoom BillingLog.fill
  cases l.next <;> simp

/-- A record written while the log has room keeps its form (R171, R172). -/
theorem BillingLog.write_wellFormed {l : BillingLog} (hl : l.wellFormed = true) (hr : l.hasRoom = true) (r : Session)
    (f : IntervalFigures) : (l.write r f).wellFormed = true := by
  obtain ⟨h1, h2, h3, h4, h5⟩ := l.wellFormed_iff.1 hl
  obtain ⟨hs, hlen⟩ := l.hasRoom_iff.1 hr
  obtain ⟨n, hn⟩ := Option.isSome_iff_exists.1 hs
  obtain ⟨w1, w2, w3⟩ := l.write_spec r f n hn
  have hc : (l.write r f).closed = l.closed := by rw [w3]
  obtain ⟨hn1, hn2⟩ := h3 n hn
  rw [hn] at h4 h5
  simp only [Option.getD_some] at h4 h5
  have hnext : (l.write r f).next.getD (Config.max32 + 1) = n + 1 := by
    rw [w2]
    split
    · rfl
    · simp only [Option.getD_none]; omega
  rw [BillingLog.wellFormed_iff, hnext, hc, w1]
  refine ⟨by simpa using hlen, h2, fun k hk => ?_, by simpa using h4, ?_⟩
  · rw [w2] at hk
    split at hk
    · cases hk; omega
    · cases hk
  · rw [consecutiveFrom_append]
    simp only [List.length_append, List.length_cons, List.length_nil, Bool.and_eq_true, beq_iff_eq]
    rw [show n + 1 - (l.records.length + (0 + 1)) = n - l.records.length by omega]
    exact ⟨h5, by omega⟩

/-- A closed session placed keeps the form (R22, R174). -/
theorem BillingLog.place_wellFormed {l : BillingLog} (hl : l.wellFormed = true) (hp : l.canPlace = true)
    (h : HeldRecord) : (l.place h).wellFormed = true := by
  simp only [BillingLog.canPlace, Bool.and_eq_true, decide_eq_true_eq] at hp
  have hw := BillingLog.write_wellFormed hl hp.1 h.session (h.session.merged.combine h.final)
  obtain ⟨h1, _, h3, h4, h5⟩ := (BillingLog.wellFormed_iff _).1 hw
  rw [BillingLog.wellFormed_iff]
  refine ⟨h1, ?_, h3, h4, h5⟩
  have hc : (l.write h.session (h.session.merged.combine h.final)).closed = l.closed := by
    rw [BillingLog.write_frame]
  simp only [BillingLog.place, List.length_append, List.length_cons, List.length_nil, hc]
  omega

/-! ### Releasing -/

/-- The window follows; nothing else moves (R178). -/
theorem BillingLog.adjustWindow_frame (l : BillingLog) :
    l.adjustWindow = { l with window := l.adjustWindow.window } := by
  unfold BillingLog.adjustWindow
  split
  · split <;> rfl
  · rfl

theorem BillingLog.wellFormed_window (l : BillingLog) (w : Option ReadWindow) :
    ({ l with window := w } : BillingLog).wellFormed = l.wellFormed := rfl

/-- Records released keep the form (R178). -/
theorem BillingLog.release_wellFormed {l : BillingLog} (hl : l.wellFormed = true) (seq : Nat) :
    ({ l with records := l.records.filter (seq < ·.sequence) } : BillingLog).adjustWindow.wellFormed = true := by
  rw [BillingLog.adjustWindow_frame, BillingLog.wellFormed_window]
  obtain ⟨h1, h2, h3, h4, h5⟩ := l.wellFormed_iff.1 hl
  obtain ⟨f1, f2, _⟩ := consecutiveFrom_filter _ seq _ h5
  rw [BillingLog.wellFormed_iff]
  refine ⟨Nat.le_trans f1 h1, h2, h3, Nat.lt_of_le_of_lt f1 h4, ?_⟩
  rw [show l.next.getD (Config.max32 + 1) - l.records.length + l.records.length =
    l.next.getD (Config.max32 + 1) by omega] at f2
  exact f2

theorem State.releaseRecords_log (s : State) (seq : Nat) :
    (s.releaseRecords seq).log =
      ({ s.log with records := s.log.records.filter (seq < ·.sequence) } : BillingLog).adjustWindow := rfl

/-! ### Intervals and sessions -/

/-- An interval handed touches the log and the outlet's session alone (R172, R173). -/
theorem State.handInterval_frame (s : State) (o : OutletId) (f : IntervalFigures) :
    s.handInterval o f =
      ({ s with log := (s.handInterval o f).log }).modify o fun x =>
        { x with session := ((s.handInterval o f).outlet o).session } := by
  unfold State.handInterval
  have h : s = ({ s with log := s.log } : State).modify o fun x => { x with session := (s.outlet o).session } :=
    (State.modify_self s o).symm
  split
  · exact h
  · split
    · simp only [State.modifySession, State.outlet_modify_self]
      rfl
    · simp only [State.modifySession, State.outlet_modify_self]
      rfl

theorem State.handInterval_wellFormed (s : State) (o : OutletId) (f : IntervalFigures)
    (h : s.log.wellFormed = true) : (s.handInterval o f).log.wellFormed = true := by
  unfold State.handInterval
  split
  · exact h
  · split
    · next hr => exact BillingLog.write_wellFormed h hr _ _
    · exact h

theorem State.closeInterval_wellFormed (s : State) (more : List IntervalFlag) (o : OutletId)
    (h : s.log.wellFormed = true) : (s.closeInterval more o).log.wellFormed = true := by
  unfold State.closeInterval
  split
  · exact h
  · exact State.handInterval_wellFormed _ _ _ h

end Sys2Proof.Machine
end

