-- ==== Sys2Proof/Laws/Billing.lean ====
section
/-! SUPPORT. What the metering unit's operations do, in the terms of the statements: flags, charges, records, merges
and closes. -/

namespace Sys2Proof.Machine

/-! ### Flags -/

theorem IntervalFlag.mem_all (f : IntervalFlag) : f ∈ IntervalFlag.all := by cases f <;> decide

@[simp] theorem contains_filter_all (p : IntervalFlag → Bool) (f : IntervalFlag) :
    (IntervalFlag.all.filter p).contains f = p f := by
  rw [Bool.eq_iff_iff, List.contains_iff_mem, List.mem_filter]
  simp [IntervalFlag.mem_all]

/-- A set of flags with some more holds the flags of both. -/
@[simp] theorem contains_addFlags (xs more : List IntervalFlag) (f : IntervalFlag) :
    (addFlags xs more).contains f = (xs.contains f || more.contains f) := contains_filter_all _ f

/-- The flags of a closed interval (R162). -/
theorem Interval.close_flags (i : Interval) (more : List IntervalFlag) :
    (i.close more).flags = i.closedFlags more := by
  unfold Interval.close Interval.closedFlags Interval.fullTicks
  rw [addFlags]
  refine List.filter_congr fun f _ => ?_
  simp only [contains_addFlags]
  by_cases h : i.ticks < i.length * 600 <;> cases f <;> simp [h]

/-- What a closed interval is handed with (R163). -/
theorem Interval.figures_close (i : Interval) (more : List IntervalFlag) :
    (i.close more).figures = i.handed more := by
  simp only [Interval.figures, Interval.handed, Interval.close_flags]
  simp [Interval.close]

/-! ### Rounding and charges -/

/-- Round-half-up of a quotient by a number that is not 0. -/
theorem natHalfUp_eq (n d : Nat) (h : d ≠ 0) : natHalfUp n d = (2 * n + d) / (2 * d) := by
  unfold natHalfUp divHalfUp
  rw [if_neg h]
  norm_cast

/-- The demand of an interval that has a length (R163). -/
theorem Interval.demand_eq (i : Interval) (h : i.length ≠ 0) :
    i.demand = min 4294967295 ((2 * (i.importWh.sum * 60) + i.length * 1000) / (2 * (i.length * 1000))) := by
  unfold Interval.demand
  rw [natHalfUp_eq _ _ (by omega), Config.max32]

/-- The first three steps of R163 for a closed interval that has a length. -/
theorem Session.bill_close (r : Session) (t : Tariff) (i : Interval) (more : List IntervalFlag) (h : i.length ≠ 0) :
    r.bill t (i.close more) = r.billed t i more := by
  have hd : (i.close more).demand = i.demand := rfl
  have hf := i.close_flags more
  have hs : (i.close more).start = i.start := rfl
  have hw : (i.close more).importWh = i.importWh := rfl
  simp only [Session.bill, Session.billed, Interval.isFullLength, hd, hf, hs, hw, i.demand_eq h, addFlags,
    Bands.chargeFor, addHolding, Config.max64]

/-- A FINAL interval has no demand, whatever its length (R162, R163). -/
theorem Session.bill_final (r : Session) (t : Tariff) (i : Interval) :
    r.bill t (i.close [.final]) = r.billed t i [.final] := by
  have hf := i.close_flags [.final]
  have hs : (i.close [.final]).start = i.start := rfl
  have hw : (i.close [.final]).importWh = i.importWh := rfl
  have hc : (i.closedFlags [.final]).contains .final = true := contains_filter_all _ _ |>.trans (by simp)
  simp only [Session.bill, Session.billed, Interval.isFullLength, hf, hs, hw, addFlags, Bands.chargeFor, addHolding,
    Config.max64, hc, Bool.not_true, Bool.and_false, Bool.false_and, Bool.false_eq_true, if_false]

/-- The band of a tick (R159). -/
theorem Tariff.band_eq (t : Tariff) (c : Option Clock) : t.band c = t.bandAt c := by
  cases c with
  | none => rfl
  | some c =>
    have hw (w : BandWindow) (m : Nat) : w.contains m = (w.enabled &&
        ((w.start < w.stop && w.start ≤ m && m < w.stop) ||
          (w.stop < w.start && (w.start ≤ m || m < w.stop)) || w.start == w.stop)) := by
      unfold BandWindow.contains
      rcases Nat.lt_trichotomy w.start w.stop with h | h | h
      · simp [h, Nat.lt_asymm h, (Nat.ne_of_lt h : w.start ≠ w.stop), beq_false_of_ne]
      · simp [h]
      · simp [h, Nat.lt_asymm h, (Nat.ne_of_gt h : w.start ≠ w.stop), beq_false_of_ne]
    simp only [Tariff.band, Tariff.bandAt, hw, Clock.minuteOfDay]

/-! ### Records and merges -/

/-- The record a session's interval makes, with the merged figures (R172). -/
theorem BillingLog.write_combine (l : BillingLog) (r : Session) (f : IntervalFigures) (n : Nat)
    (h : l.next = some n) :
    (l.write r (r.merged.combine f)).records = l.records ++ [r.recordOf f n] := by
  rw [(l.write_spec r _ n h).1]
  unfold Merged.combine Session.recordOf
  by_cases hc : r.merged.count = 0
  · simp [hc]
  · simp only [hc, if_false, addHolding, longestDuration, Bands.add, List.append_cancel_left_eq, List.cons.injEq,
      and_true, LogRecord.mk.injEq, true_and]
    rw [addFlags]
    exact List.filter_congr fun x _ => by
      rw [contains_addFlags]
      simp [Bool.beq_eq_decide_eq]

/-- The merged figures after a merge (R173). -/
theorem Session.merge_merged (r : Session) (f : IntervalFigures) : (r.merge f).merged = r.mergedWith f := rfl

/-- The log takes a record exactly while it has room (R171, R172). -/
theorem BillingLog.hasRoom_eq {l : BillingLog} (h : l.wellFormed = true) : l.hasRoom = l.takesAfter 0 := by
  obtain ⟨-, -, h3, -⟩ := l.wellFormed_iff.1 h
  rw [Bool.eq_iff_iff, BillingLog.hasRoom_iff]
  cases hn : l.next with
  | none => simp [BillingLog.takesAfter, hn]
  | some n =>
    have := (h3 n hn).2
    simp [BillingLog.takesAfter, hn, Config.logCapacity, Config.max32] at this ⊢
    omega

/-- Both conditions of R22. -/
theorem BillingLog.canPlace_eq {l : BillingLog} (h : l.wellFormed = true) : l.canPlace = l.placesAfter 0 := by
  unfold BillingLog.canPlace BillingLog.placesAfter
  rw [BillingLog.hasRoom_eq h]
  rfl

/-- A record written moves the counter to its next value (R171). -/
theorem BillingLog.write_next {l : BillingLog} (h : l.wellFormed = true) (hr : l.hasRoom = true) (r : Session)
    (f : IntervalFigures) : (l.write r f).next = l.nextAfter 1 := by
  obtain ⟨-, -, h3, -⟩ := l.wellFormed_iff.1 h
  obtain ⟨n, hn⟩ := Option.isSome_iff_exists.1 (l.hasRoom_iff.1 hr).1
  rw [(l.write_spec r f n hn).2.1]
  by_cases hk : n < 4294967295 <;> simp [BillingLog.nextAfter, hn, Config.max32, hk]

/-! ### Closes -/

/-- The closed record of a session, with its FINAL interval's figures (R22, R168). -/
theorem State.closedRecord_eq (s : State) (o : OutletId) (r : Session) (cause : EndCause) :
    s.closedRecord o r cause =
      { session := s.closedSession o r cause, final := (s.finalInterval o).handed [.final] } := by
  have hf : s.newInterval = s.freshInterval := by
    unfold State.newInterval State.freshInterval State.stamp State.second State.openingFlags
    cases s.clock <;> cases s.grid.overSet <;> rfl
  simp only [State.closedRecord, State.closedSession, State.finalInterval, hf, Session.bill_final,
    Interval.figures_close, Session.price, natHalfUp_eq _ 100000 (by decide), Bands.sum, Config.max64, State.stamp,
    State.second]
  rfl

/-- What a session close does (R22, R168, R174): it answers the record of `closedRecord`, placed or held. -/
theorem State.closeSession_eq (s : State) (o : OutletId) (r : Session) (cause : EndCause)
    (h : (s.outlet o).session = some r) :
    s.closeSession o cause =
      (s.modify o fun x => { x with
        session := none, interval := none, endCause := none
        held := some { session := s.closedSession o r cause, final := (s.finalInterval o).handed [.final] }
        meter := { x.meter with importAcc := 0, exportAcc := 0, heldPower := none } }).tryPlace o := by
  simp [State.closeSession, h, State.closedRecord_eq]

end Sys2Proof.Machine
end

