-- ==== Sys2Proof/Laws/Status.lean ====
section
/-! SUPPORT. What the status unit's operations can do: a report, a raise, the owners' reports at the end of an
event, and a refusal. -/

namespace Sys2Proof.Machine

/-! ### A report -/

theorem StatusUnit.report_of_same {u : StatusUnit} {g : Group} {x : Item} {level : Bool}
    (h : (u.get g).conditions.contains x = level) : u.report g x level = u := by
  simp only [StatusUnit.report, h, ↓reduceIte]

theorem State.report_of_same {s : State} {g : Group} {x : Item} {level : Bool}
    (h : (s.status.get g).conditions.contains x = level) : s.report g x level = s := by
  simp only [State.report, StatusUnit.report_of_same h]

theorem mem_setName (names : List Item) (x y : Item) (on : Bool) (xs : List Item) :
    y ∈ setName names x on xs ↔ y ∈ names ∧ (if y = x then on = true else y ∈ xs) := by
  by_cases h : y = x <;> simp [setName, h]

@[simp] theorem GroupStatus.latch_conditions (names : List Item) (x : Item) (g : GroupStatus) :
    (g.latch names x).conditions = g.conditions := rfl

@[simp] theorem GroupStatus.latch_enabled (names : List Item) (x : Item) (g : GroupStatus) :
    (g.latch names x).enabled = g.enabled := rfl

@[simp] theorem GroupStatus.latch_lastState (names : List Item) (x : Item) (g : GroupStatus) :
    (g.latch names x).lastState = g.lastState := rfl

/-- A report moves no other group. -/
theorem StatusUnit.report_get_ne (u : StatusUnit) {g k : Group} (x : Item) (level : Bool) (h : k ≠ g) :
    (u.report g x level).get k = u.get k := by
  simp only [StatusUnit.report]
  split
  · rfl
  · exact StatusUnit.get_set_ne _ _ h

/-- After a report the condition stands at the level reported. -/
theorem StatusUnit.report_contains_self (u : StatusUnit) {g : Group} {x : Item} (level : Bool)
    (h : x ∈ g.conditions) : ((u.report g x level).get g).conditions.contains x = level := by
  simp only [StatusUnit.report]
  split
  · assumption
  · rw [StatusUnit.get_set_self]
    split <;> simp [mem_setName, h]

/-- A report moves no other condition of its group. -/
theorem StatusUnit.report_contains_ne (u : StatusUnit) {g : Group} {x y : Item} (level : Bool)
    (h : y ∈ g.conditions) (hne : y ≠ x) :
    ((u.report g x level).get g).conditions.contains y = (u.get g).conditions.contains y := by
  simp only [StatusUnit.report]
  split
  · rfl
  · rw [StatusUnit.get_set_self]
    split <;> simp [mem_setName, h, hne]

@[simp] theorem StatusUnit.report_errors (u : StatusUnit) (g : Group) (x : Item) (level : Bool) :
    (u.report g x level).errors = u.errors := by
  simp only [StatusUnit.report]
  split
  · rfl
  · simp

@[simp] theorem StatusUnit.report_filters (u : StatusUnit) (g : Group) (x : Item) (level : Bool) :
    (u.report g x level).filters = u.filters := by
  simp only [StatusUnit.report]
  split
  · rfl
  · simp

@[simp] theorem StatusUnit.report_attention (u : StatusUnit) (g : Group) (x : Item) (level : Bool) :
    (u.report g x level).attention = u.attention := by
  simp only [StatusUnit.report]
  split
  · rfl
  · simp

@[simp] theorem StatusUnit.report_enabled (u : StatusUnit) (g k : Group) (x : Item) (level : Bool) :
    ((u.report g x level).get k).enabled = (u.get k).enabled := by
  by_cases h : k = g
  · subst h
    simp only [StatusUnit.report]
    split
    · rfl
    · rw [StatusUnit.get_set_self]
      split <;> rfl
  · rw [StatusUnit.report_get_ne _ _ _ h]

/-! ### Settings -/

/-- Two units with the same filters, masks and errors have the same settings. -/
theorem StatusUnit.settings_ext {u v : StatusUnit} (hf : u.filters = v.filters)
    (ha : u.attention = v.attention) (he : u.errors = v.errors)
    (hg : ∀ g, (u.get g).enabled = (v.get g).enabled) : u.settings = v.settings := by
  have hp := hg .part
  have h1 := hg (.outlet .a)
  have h2 := hg (.outlet .b)
  have h3 := hg (.outlet .c)
  simp only [StatusUnit.get, PerOutlet.get] at hp h1 h2 h3
  simp only [StatusUnit.settings, hf, ha, he, hp, h1, h2, h3]

@[simp] theorem StatusUnit.settings_report (u : StatusUnit) (g : Group) (x : Item) (level : Bool) :
    (u.report g x level).settings = u.settings :=
  StatusUnit.settings_ext (by simp) (by simp) (by simp) (by simp)

@[simp] theorem State.settings_raise (s : State) (g : Group) (x : Item) :
    (s.raise g x).status.settings = s.status.settings := by
  apply StatusUnit.settings_ext <;> simp only [State.raise_status, StatusUnit.set_filters,
    StatusUnit.set_attention, StatusUnit.set_errors]
  intro k
  by_cases h : k = g
  · subst h; rw [StatusUnit.get_set_self]; rfl
  · rw [StatusUnit.get_set_ne _ _ h]

/-! ### The owners' reports -/

/-- The levels of the conditions read the status unit only for its error queue. -/
theorem State.level_of_status (s : State) (u : StatusUnit) (h : u.errors = s.status.errors) (g : Group)
    (x : Item) : ({ s with status := u } : State).level g x = s.level g x := by
  cases g <;> cases x <;> first | rfl | (simp only [State.level, h])

@[simp] theorem State.level_report (s : State) (g : Group) (x : Item) (level : Bool) :
    (s.report g x level).level = s.level := by
  funext k y
  exact s.level_of_status _ (StatusUnit.report_errors _ _ _ _) k y

/-- Reports of a list of conditions of one group, each at the level its owner states. -/
def State.reports (s : State) (g : Group) (xs : List Item) : State :=
  xs.foldl (fun s x => s.report g x (s.level g x)) s

/-- Reports change the status unit alone, and of it neither setting nor other group. -/
theorem State.reports_eq (g : Group) (xs : List Item) (s : State) :
    s.reports g xs = { s with status := (s.reports g xs).status } ∧ (s.reports g xs).level = s.level ∧
      (s.reports g xs).status.settings = s.status.settings ∧
      (s.reports g xs).status.errors = s.status.errors ∧
      ∀ k, k ≠ g → (s.reports g xs).status.get k = s.status.get k := by
  induction xs generalizing s with
  | nil => exact ⟨rfl, rfl, rfl, rfl, fun _ _ => rfl⟩
  | cons x xs ih =>
    obtain ⟨h1, h2, h3, h4, h5⟩ := ih (s.report g x (s.level g x))
    have e : s.reports g (x :: xs) = (s.report g x (s.level g x)).reports g xs := rfl
    rw [e]
    refine ⟨h1.trans rfl, h2.trans (by simp), h3.trans (by simp), h4.trans (by simp), fun k hk => ?_⟩
    rw [h5 k hk]
    exact StatusUnit.report_get_ne _ _ _ hk

/-- After its reports every condition reported stands at its level, and no other condition has moved. -/
theorem State.reports_contains (g : Group) (xs : List Item) (s : State) (hx : ∀ x ∈ xs, x ∈ g.conditions)
    (y : Item) (hy : y ∈ g.conditions) :
    ((s.reports g xs).status.get g).conditions.contains y =
      if y ∈ xs then s.level g y else (s.status.get g).conditions.contains y := by
  induction xs generalizing s with
  | nil => rfl
  | cons x xs ih =>
    have hxs : ∀ z ∈ xs, z ∈ g.conditions := fun z hz => hx z (List.mem_cons_of_mem _ hz)
    have e : s.reports g (x :: xs) = (s.report g x (s.level g x)).reports g xs := rfl
    rw [e, ih _ hxs]
    by_cases hm : y ∈ xs
    · simp [hm]
    · by_cases hyx : y = x
      · subst hyx
        simp only [hm, ↓reduceIte, List.mem_cons, or_false, State.report_status]
        exact StatusUnit.report_contains_self _ _ hy
      · simp only [hm, hyx, ↓reduceIte, List.mem_cons, or_self, State.report_status]
        exact StatusUnit.report_contains_ne _ _ hy hyx

theorem State.reportGroup_eq_reports (s : State) (g : Group) : s.reportGroup g = s.reports g g.conditions := rfl

theorem State.reportGroup_contains_self (s : State) (g : Group) (y : Item) (hy : y ∈ g.conditions) :
    ((s.reportGroup g).status.get g).conditions.contains y = s.level g y := by
  rw [State.reportGroup_eq_reports, State.reports_contains g _ s (fun _ h => h) y hy, if_pos hy]

/-- The reports of several groups. -/
theorem State.foldl_reportGroup (gs : List Group) (s : State) :
    let t := gs.foldl State.reportGroup s
    t = { s with status := t.status } ∧ t.level = s.level ∧ t.status.settings = s.status.settings ∧
      t.status.errors = s.status.errors ∧
      (∀ g ∈ gs, ∀ y ∈ g.conditions, (t.status.get g).conditions.contains y = s.level g y) ∧
      ∀ g, g ∉ gs → t.status.get g = s.status.get g := by
  induction gs generalizing s with
  | nil => exact ⟨rfl, rfl, rfl, rfl, by simp, fun _ _ => rfl⟩
  | cons g gs ih =>
    obtain ⟨r1, r2, r3, r4, r5⟩ := State.reports_eq g g.conditions s
    rw [← State.reportGroup_eq_reports] at r1 r2 r3 r4 r5
    obtain ⟨h1, h2, h3, h4, h5, h6⟩ := ih (s.reportGroup g)
    simp only [List.foldl_cons]
    refine ⟨h1.trans ?_, h2.trans r2, h3.trans r3, h4.trans r4, ?_, ?_⟩
    · rw [r1]
    · intro k hk y hy
      by_cases hkg : k ∈ gs
      · rw [h5 k hkg y hy, r2]
      · have : k = g := by simpa [hkg] using hk
        subst this
        rw [h6 k hkg, State.reportGroup_contains_self s k y hy]
    · intro k hk
      have hk' : k ≠ g ∧ k ∉ gs := by simpa using hk
      rw [h6 k hk'.2, r5 k hk'.1]

theorem mem_allGroups (g : Group) : g ∈ allGroups := by
  cases g with
  | part => decide
  | outlet o => cases o <;> decide

theorem State.stated_iff (s : State) :
    s.stated = true ↔
      ∀ (g : Group), ∀ x ∈ g.conditions, (s.status.get g).conditions.contains x = s.level g x := by
  simp only [State.stated, List.all_eq_true, beq_iff_eq]
  exact ⟨fun h g => h g (mem_allGroups g), fun h g _ => h g⟩

/-- Once the owners have reported, every condition stands at its level; nothing but the status unit has
changed, and of it no setting. -/
theorem State.reportAll_spec (s : State) :
    s.reportAll = { s with status := s.reportAll.status } ∧ s.reportAll.stated = true ∧
      s.reportAll.level = s.level ∧ s.reportAll.status.settings = s.status.settings ∧
      s.reportAll.status.errors = s.status.errors := by
  obtain ⟨h1, h2, h3, h4, h5, _⟩ := State.foldl_reportGroup allGroups s
  refine ⟨h1, ?_, h2, h3, h4⟩
  rw [State.stated_iff]
  intro g x hx
  rw [State.reportAll, h2]
  exact h5 g (mem_allGroups g) x hx

theorem State.reports_of_stated (s : State) (hs : s.stated = true) (g : Group) (xs : List Item)
    (hx : ∀ x ∈ xs, x ∈ g.conditions) : s.reports g xs = s := by
  induction xs with
  | nil => rfl
  | cons x xs ih =>
    have e : s.reports g (x :: xs) = (s.report g x (s.level g x)).reports g xs := rfl
    rw [e, State.report_of_same ((State.stated_iff s).1 hs g x (hx x (List.mem_cons_self)))]
    exact ih fun z hz => hx z (List.mem_cons_of_mem _ hz)

/-- Reports of a part whose conditions all stand at their levels change nothing. -/
theorem State.reportAll_of_stated (s : State) (hs : s.stated = true) : s.reportAll = s := by
  have h (gs : List Group) : gs.foldl State.reportGroup s = s := by
    induction gs with
    | nil => rfl
    | cons g gs ih =>
      rw [List.foldl_cons, State.reportGroup_eq_reports, State.reports_of_stated s hs g _ fun _ h => h]
      exact ih
  exact h allGroups

end Sys2Proof.Machine
end

