-- ==== Sys2Proof/Laws/Settle.lean ====
section
/-! SUPPORT. The frame every command of the running part shares: what it does before start-up, what the end of an
event settles, and when there is nothing to settle. -/

namespace Sys2Proof.Machine

theorem mem_allOutlets (o : OutletId) : o ∈ allOutlets := by cases o <;> decide

theorem allOutlets_all (p : OutletId → Bool) : allOutlets.all p = true ↔ ∀ o, p o = true := by
  rw [List.all_eq_true]
  exact ⟨fun h o => h o (mem_allOutlets o), fun h o _ => h o⟩

/-! ### Commands of the running part -/

theorem whenRunning_of_running {f : State → State} {s : State} (h : s.phase = .running) :
    whenRunning f s = f s := if_pos h

theorem whenRunning_of_ne {f : State → State} {s : State} (h : s.phase ≠ .running) : whenRunning f s = s :=
  if_neg h

theorem atEvent_of_running {act : State → State} {s : State} (h : s.phase = .running) :
    atEvent act s = .next (act s).finish := by rw [atEvent, whenRunning_of_running h]

theorem atEvent_of_ne {act : State → State} {s : State} (h : s.phase ≠ .running) : atEvent act s = .next s := by
  rw [atEvent, whenRunning_of_ne h]

/-- A command of the running part always answers a next state. -/
theorem atEvent_next (act : State → State) (s : State) : ∃ t, atEvent act s = .next t := ⟨_, rfl⟩

@[simp] theorem State.atExpiry_none (s : State) (act : State → State) : s.atExpiry none act = s := rfl

@[simp] theorem State.atExpiry_some (s : State) (n : Nat) (act : State → State) :
    s.atExpiry (some n) act = act (s.elapse n) := rfl

/-! ### A settled part -/

/-- What it is to be settled, clause by clause. -/
theorem State.settled_iff (s : State) :
    s.settled = true ↔
      (∀ o, s.endsNow o = false ∧ (s.outlet o).limit = s.newLimit o ∧ s.closesNow o = false) ∧
        s.queueWaits = true ∧ s.budgetOver = decide (s.gridLimit < s.claims) ∧ s.stated = true := by
  simp only [State.settled, Bool.and_eq_true, allOutlets_all, Bool.not_eq_true', beq_iff_eq, and_assoc]

theorem State.ready_iff (s : State) : s.ready = true ↔ s.phase = .running ∧ s.settled = true := by
  simp only [State.ready, Bool.and_eq_true, beq_iff_eq]

theorem State.completeEnd_of_not {s : State} {o : OutletId} (h : s.endsNow o = false) : s.completeEnd o = s := by
  rw [State.completeEnd]
  apply if_neg
  rintro ⟨h1, h2⟩
  have : s.endsNow o = true := by
    simp only [State.endsNow, h1, beq_self_eq_true, Bool.true_and, Bool.or_eq_true, Bool.not_eq_true', beq_iff_eq]
    exact h2
  simp [this] at h

theorem State.endPrepare_of_not {s : State} {o : OutletId} (h : s.closesNow o = false) : s.endPrepare o = s := by
  rw [State.endPrepare]
  apply if_neg
  rintro ⟨h1, h2, h3⟩
  have : s.closesNow o = true := by simp [State.closesNow, h1, h2, h3]
  simp [this] at h

theorem State.recomputeLimit_of_same {s : State} {o : OutletId} (h : (s.outlet o).limit = s.newLimit o) :
    s.recomputeLimit o = s := by
  rw [State.recomputeLimit]
  exact if_pos h.symm

theorem State.examine_of_waits {s : State} (h : s.queueWaits = true) (n : Nat) : s.examine n = s := by
  cases n with
  | zero => rfl
  | succ n =>
    cases hg : s.grants with
    | nil => simp [State.examine, hg]
    | cons r rest =>
      have hw : s.grantable r = none := by simpa [State.queueWaits, hg] using h
      simp [State.examine, hg, hw]

theorem State.settleBudget_of_same {s : State} (h : s.budgetOver = decide (s.gridLimit < s.claims)) :
    s.settleBudget = s := by
  have e : (s.budgetOver && !decide (s.gridLimit < s.claims)) = false := by rw [h]; simp
  simp only [State.settleBudget, e]
  rw [← h]
  rfl

/-- A settled part has nothing to settle. -/
theorem State.settle_of_settled {s : State} (h : s.settled = true) : s.settle = s := by
  obtain ⟨ho, hq, hb, _⟩ := (State.settled_iff s).1 h
  have r : s.reallocate = s := by
    rw [State.reallocate, State.recomputeLimits, State.recomputeLimit_of_same (ho .a).2.1,
      State.recomputeLimit_of_same (ho .b).2.1, State.recomputeLimit_of_same (ho .c).2.1,
      State.examine_of_waits hq, State.settleBudget_of_same hb]
  rw [State.settle, State.completeEnd_of_not (ho .a).1, State.completeEnd_of_not (ho .b).1,
    State.completeEnd_of_not (ho .c).1, r, State.endPrepare_of_not (ho .a).2.2,
    State.endPrepare_of_not (ho .b).2.2, State.endPrepare_of_not (ho .c).2.2]

/-- The end of an event leaves a ready part as it is. -/
theorem State.finish_of_ready {s : State} (h : s.ready = true) : s.finish = s := by
  obtain ⟨hp, hs⟩ := (State.ready_iff s).1 h
  rw [State.finish, whenRunning_of_running hp, State.settle_of_settled hs]
  exact s.reportAll_of_stated ((State.settled_iff s).1 hs).2.2.2

/-- A command whose act leaves the part ready does that act and nothing else. -/
theorem atEvent_of_ready {act : State → State} {s : State} (hs : s.phase = .running)
    (h : (act s).ready = true) : atEvent act s = .next (act s) := by
  rw [atEvent_of_running hs, State.finish_of_ready h]

/-- A command whose act changes nothing in a ready part changes nothing. -/
theorem atEvent_of_idle {act : State → State} {s : State} (hs : s.ready = true) (h : act s = s) :
    atEvent act s = .next s := by
  have := atEvent_of_ready (act := act) ((State.ready_iff s).1 hs).1 (by rw [h]; exact hs)
  rwa [h] at this

/-! ### What readiness does not look at

Readiness reads the outlets, the modules, the grant queue, the limits, and of the other fields only what the
levels of the conditions read. -/

theorem State.ready_terminal (s : State) (x : Terminal) : ({ s with terminal := x } : State).ready = s.ready := rfl

theorem State.ready_answer (s : State) (r : Reply) : (s.answer r).ready = s.ready := rfl

theorem State.ready_profiles (s : State) (x : Vector Profile 10) :
    ({ s with profiles := x } : State).ready = s.ready := rfl

theorem State.ready_tariff (s : State) (x : Tariff) : ({ s with tariff := x } : State).ready = s.ready := rfl

theorem State.ready_sessionCounter (s : State) (n : Nat) :
    ({ s with sessionCounter := n } : State).ready = s.ready := rfl

theorem State.ready_pending (s : State) (cs : List Instr) : ({ s with pending := cs } : State).ready = s.ready := rfl

theorem State.ready_window (s : State) (w : Option ReadWindow) :
    ({ s with log := { s.log with window := w } } : State).ready = s.ready := rfl

/-- An update of one outlet that moves nothing readiness reads leaves the part ready: its state, phase, limit,
session and breaker feedback, and the levels of its conditions. -/
theorem State.ready_modify (s : State) (o : OutletId) (f : Outlet → Outlet)
    (hstate : (f (s.outlet o)).state = (s.outlet o).state) (hphase : (f (s.outlet o)).phase = (s.outlet o).phase)
    (hlimit : (f (s.outlet o)).limit = (s.outlet o).limit)
    (hsession : (f (s.outlet o)).session = (s.outlet o).session)
    (hsb : (f (s.outlet o)).sb = (s.outlet o).sb) (hpb : (f (s.outlet o)).pb.stuckSet = (s.outlet o).pb.stuckSet)
    (hlocks : (f (s.outlet o)).interlocks = (s.outlet o).interlocks)
    (hup : (f (s.outlet o)).link.up = (s.outlet o).link.up)
    (hoverrun : (f (s.outlet o)).link.overrun = (s.outlet o).link.overrun)
    (htimer : (f (s.outlet o)).handover.overloadTimer.isSome = (s.outlet o).handover.overloadTimer.isSome)
    (hheld : (f (s.outlet o)).held = (s.outlet o).held) :
    (s.modify o f).ready = s.ready := by
  have hmod (m : Fin 8) : (s.modify o f).module m = s.module m := rfl
  have hadm : (s.modify o f).admitted = s.admitted := by
    funext q
    by_cases h : q = o
    · subst h; simp [State.admitted, hsession]
    · simp [State.admitted, h]
  have hgroup : (s.modify o f).group = s.group := rfl
  have hmem : (s.modify o f).members = s.members := rfl
  have hratings : (s.modify o f).ratings = s.ratings := rfl
  have hnew : (s.modify o f).newLimit = s.newLimit := by
    funext q
    by_cases h : q = o
    · subst h; simp [State.newLimit, hadm, State.groupCapacity, hmem, hratings, hlimit]
    · simp [State.newLimit, hadm, State.groupCapacity, hmem, hratings, h]
  have hprep : (s.modify o f).prepared = s.prepared := by
    funext q; simp [State.prepared, hmem]
  have hends : (s.modify o f).endsNow = s.endsNow := by
    funext q
    by_cases h : q = o
    · subst h; simp [State.endsNow, hstate, hsb]
    · simp [State.endsNow, h]
  have hcloses : (s.modify o f).closesNow = s.closesNow := by
    funext q
    by_cases h : q = o
    · subst h; simp [State.closesNow, hstate, hphase, hprep]
    · simp [State.closesNow, hprep, h]
  have hclaim : (s.modify o f).claim = s.claim := by
    funext q; simp [State.claim, hadm, State.committed, hmem, hratings]
  have hclaims : (s.modify o f).claims = s.claims := by simp [State.claims, hclaim]
  have htake (ms : List (Fin 8)) (n : Nat) : (s.modify o f).take ms n = s.take ms n := by
    induction ms generalizing n with
    | nil => rfl
    | cons m ms ih => simp [State.take, ih]
  have hgrantable : (s.modify o f).grantable = s.grantable := by
    funext r
    simp only [State.grantable, htake, hadm, State.claimsWith, hclaims, hclaim, State.committed, hmem, hratings,
      State.modify_gridLimit]
    cases s.take allModules r.wanted <;> rfl
  have hlim (q : OutletId) : ((s.modify o f).outlet q).limit = (s.outlet q).limit := by
    by_cases h : q = o
    · subst h; simp [hlimit]
    · simp [h]
  have hmerged : (f (s.outlet o)).mergedCount = (s.outlet o).mergedCount := by
    unfold Outlet.mergedCount
    rw [hsession, hheld]
  have hlevel : (s.modify o f).level = s.level := by
    funext g x
    cases g with
    | part => cases x <;> rfl
    | outlet q =>
      by_cases h : q = o
      · subst h
        cases x <;>
          simp [State.level, hstate, hsb, hpb, hlocks, hup, hoverrun, htimer, hlimit, hadm, hmerged]
      · cases x <;> simp [State.level, hadm, h]
  simp only [State.ready, State.settled, hends, hcloses, hlim, hnew, State.queueWaits, hgrantable, hclaims,
    State.stated, hlevel, State.modify_phase, State.modify_grants, State.modify_budgetOver, State.modify_gridLimit,
    State.modify_status]

end Sys2Proof.Machine
end

