-- ==== Sys2Proof/Laws/Links.lean ====
section
/-! SUPPORT. What the transmit side of a ship link can do: the appending of a frame and the start of the
transmitter touch the outlet's link alone, and of it the queue, the mark of the transmitter and two counts. -/

namespace Sys2Proof.Machine

/-- An update of a link that moves only what the transmitter owns. -/
def ShipLink.sentAs (l l' : ShipLink) : Prop :=
  l' = { l with
    queue := l'.queue, sending := l'.sending
    counts := { l.counts with transmitDrops := l'.counts.transmitDrops, statusSkips := l'.counts.statusSkips } }

theorem ShipLink.sentAs_refl (l : ShipLink) : l.sentAs l := rfl

theorem ShipLink.sentAs_trans {a b c : ShipLink} (h : a.sentAs b) (k : b.sentAs c) : a.sentAs c := by
  unfold ShipLink.sentAs at *
  rw [k, h]

theorem State.modifyLink_const (s : State) (o : OutletId) (f : ShipLink → ShipLink) :
    s.modifyLink o f = s.modifyLink o fun _ => f (s.outlet o).link := rfl

theorem State.modifyLink_self (s : State) (o : OutletId) : (s.modifyLink o fun _ => (s.outlet o).link) = s :=
  State.modify_self s o

@[simp] theorem State.link_modifyLink (s : State) (o : OutletId) (f : ShipLink → ShipLink) :
    ((s.modifyLink o f).outlet o).link = f (s.outlet o).link := by simp [State.modifyLink]

theorem State.modifyLink_modifyLink (s : State) (o : OutletId) (f g : ShipLink → ShipLink) :
    (s.modifyLink o f).modifyLink o g = s.modifyLink o fun l => g (f l) := by
  simp only [State.modifyLink, State.modify_modify]

theorem State.startSending_spec (s : State) (o : OutletId) :
    ∃ l, s.startSending o = s.modifyLink o (fun _ => l) ∧ (s.outlet o).link.sentAs l ∧
      l.counts = (s.outlet o).link.counts := by
  simp only [State.startSending]
  split
  · split
    · exact ⟨_, (s.modifyLink_self o).symm, rfl, rfl⟩
    · exact ⟨_, rfl, rfl, rfl⟩
    · exact ⟨_, rfl, rfl, rfl⟩
  · exact ⟨_, (s.modifyLink_self o).symm, rfl, rfl⟩

theorem ShipLink.sentAs_join (l : ShipLink) (f : ShoreFrame) : l.sentAs (l.join f) := by
  unfold ShipLink.join
  split
  · rfl
  · split <;> rfl

/-- The start of the transmitter after an update of the link that the transmitter owns. -/
theorem State.startSending_after (s : State) (o : OutletId) (f : ShipLink → ShipLink)
    (h : (s.outlet o).link.sentAs (f (s.outlet o).link)) :
    ∃ l, (s.modifyLink o f).startSending o = s.modifyLink o (fun _ => l) ∧ (s.outlet o).link.sentAs l := by
  obtain ⟨l, e, hl, _⟩ := (s.modifyLink o f).startSending_spec o
  rw [State.modifyLink_modifyLink] at e
  rw [State.link_modifyLink] at hl
  exact ⟨l, e, ShipLink.sentAs_trans h hl⟩

/-- The appending of an event frame (R125) touches the outlet's link alone. -/
theorem State.send_spec (s : State) (o : OutletId) (f : ShoreFrame) :
    ∃ l, s.send o f = s.modifyLink o (fun _ => l) ∧ (s.outlet o).link.sentAs l := by
  unfold State.send
  split
  · exact s.startSending_after o _ (ShipLink.sentAs_join _ _)
  · exact ⟨_, (s.modifyLink_self o).symm, rfl⟩

/-- The appending of a SHORE_STATUS (R126) touches the outlet's link alone. -/
theorem State.sendStatus_spec (s : State) (o : OutletId) :
    ∃ l, s.sendStatus o = s.modifyLink o (fun _ => l) ∧ (s.outlet o).link.sentAs l := by
  simp only [State.sendStatus]
  split
  · exact ⟨_, (s.modifyLink_self o).symm, rfl⟩
  · split
    · exact ⟨_, rfl, rfl⟩
    · exact s.startSending_after o _ rfl

/-- The appending of a REFUSE (R125) touches the outlet's link alone; its cause is the last refusal cause. -/
theorem State.sendRefuse_spec (s : State) (o : OutletId) (type : Byte) (cause : RefuseCause) :
    ∃ l, s.sendRefuse o type cause = s.modifyLink o (fun _ => l) ∧
      ({ (s.outlet o).link with lastRefusal := l.lastRefusal }).sentAs l ∧
      ((s.outlet o).link.up = true → l.lastRefusal = some cause) ∧
      ((s.outlet o).link.up = false → l = (s.outlet o).link) := by
  unfold State.sendRefuse
  split
  · next h =>
    obtain ⟨l, e, hl⟩ := State.send_spec
      (s.modifyLink o fun l => { l with lastRefusal := some cause }) o (.refuse type cause)
    rw [State.modifyLink_modifyLink] at e
    rw [State.link_modifyLink] at hl
    have hr : l.lastRefusal = some cause := by rw [hl]
    refine ⟨l, e, ?_, fun _ => hr, fun hd => by simp [h] at hd⟩
    rw [hr]
    exact hl
  · next h => exact ⟨_, (s.modifyLink_self o).symm, rfl, fun hu => absurd hu h, fun _ => rfl⟩

/-- Nothing a link's transmit side does unsettles a ready part. -/
theorem State.ready_modifyLink (s : State) (o : OutletId) (l : ShipLink) (hup : l.up = (s.outlet o).link.up)
    (hover : l.overrun = (s.outlet o).link.overrun) : (s.modifyLink o fun _ => l).ready = s.ready :=
  s.ready_modify o _ rfl rfl rfl rfl rfl rfl rfl hup hover rfl rfl

theorem State.ready_send (s : State) (o : OutletId) (f : ShoreFrame) : (s.send o f).ready = s.ready := by
  obtain ⟨l, e, hl⟩ := s.send_spec o f
  rw [e]
  exact s.ready_modifyLink o l (by rw [hl]) (by rw [hl])

theorem State.ready_sendStatus (s : State) (o : OutletId) : (s.sendStatus o).ready = s.ready := by
  obtain ⟨l, e, hl⟩ := s.sendStatus_spec o
  rw [e]
  exact s.ready_modifyLink o l (by rw [hl]) (by rw [hl])

theorem State.ready_sendRefuse (s : State) (o : OutletId) (type : Byte) (cause : RefuseCause) :
    (s.sendRefuse o type cause).ready = s.ready := by
  obtain ⟨l, e, hl, _⟩ := s.sendRefuse_spec o type cause
  rw [e]
  exact s.ready_modifyLink o l (by rw [hl]) (by rw [hl])

/-! ### The rows of the receiver -/

/-- A row of the receiver in the running part ends as any event. -/
theorem atReceiver_of_running {act : State → State} {s : State} (h : s.phase = .running) :
    atReceiver act s = .next (act s).finish := by
  rw [atReceiver, if_neg (by simp [h]), atEvent_of_running h]

/-- In start-up it acts alone (R130). -/
theorem atReceiver_of_startingUp {act : State → State} {s : State} (h : s.phase = .startingUp) :
    atReceiver act s = .next (act s) := if_pos h

/-- A part without supply, or held in reset, receives nothing. -/
theorem atReceiver_of_stopped {act : State → State} {s : State} (h : s.phase ≠ .running)
    (k : s.phase ≠ .startingUp) : atReceiver act s = .next s := by
  rw [atReceiver, if_neg k, atEvent_of_ne h]

/-- A row of the receiver always answers a next state. -/
theorem atReceiver_next (act : State → State) (s : State) : ∃ t, atReceiver act s = .next t := by
  unfold atReceiver
  split
  · exact ⟨_, rfl⟩
  · exact atEvent_next act s

end Sys2Proof.Machine
end

