-- ==== Sys2Proof/Laws/Pool.lean ====
section
/-! SUPPORT. What the allocator's and the generator's shared operations can do: updates of a list of modules, the
shares, the entry to an outlet state, the recomputation of a limit. -/

namespace Sys2Proof.Machine

/-! ### Updates of a list of modules -/

@[simp] theorem State.modifyModules_nil (s : State) (f : Module → Module) : s.modifyModules [] f = s := rfl

theorem State.modifyModules_cons (s : State) (m : Fin 8) (ms : List (Fin 8)) (f : Module → Module) :
    s.modifyModules (m :: ms) f = (s.modifyModule m f).modifyModules ms f := rfl

/-- Updating a list of modules changes the module table alone. -/
theorem State.modifyModules_eq (s : State) (ms : List (Fin 8)) (f : Module → Module) :
    s.modifyModules ms f = { s with modules := (s.modifyModules ms f).modules } := by
  induction ms generalizing s with
  | nil => rfl
  | cons m ms ih => rw [State.modifyModules_cons, ih]; rfl

@[simp] theorem State.outlet_modifyModules (s : State) (ms : List (Fin 8)) (f : Module → Module) (o : OutletId) :
    (s.modifyModules ms f).outlet o = s.outlet o := by rw [State.modifyModules_eq]; rfl

/-- A module outside the list stands. -/
theorem State.module_modifyModules_of_not_mem (s : State) (ms : List (Fin 8)) (f : Module → Module) (m : Fin 8)
    (h : m ∉ ms) : (s.modifyModules ms f).module m = s.module m := by
  induction ms generalizing s with
  | nil => rfl
  | cons k ms ih =>
    have hk : m ≠ k ∧ m ∉ ms := by simpa using h
    rw [State.modifyModules_cons, ih _ hk.2, State.module_modifyModule_ne _ _ hk.1]

/-- A module of a list without repeats is updated once. -/
theorem State.module_modifyModules (s : State) (ms : List (Fin 8)) (f : Module → Module) (m : Fin 8)
    (hms : ms.Nodup) : (s.modifyModules ms f).module m = if m ∈ ms then f (s.module m) else s.module m := by
  induction ms generalizing s with
  | nil => rfl
  | cons k ms ih =>
    have hk := List.nodup_cons.1 hms
    rw [State.modifyModules_cons, ih _ hk.2]
    by_cases h : m = k
    · subst h
      simp [hk.1]
    · simp [State.module_modifyModule_ne _ _ h, h]

theorem allModules_nodup : allModules.Nodup := by decide

theorem mem_allModules (m : Fin 8) : m ∈ allModules := by revert m; decide

theorem State.group_nodup (s : State) (o : OutletId) : (s.group o).Nodup := allModules_nodup.filter _

theorem State.members_nodup (s : State) (o : OutletId) (sts : List ModuleState) : (s.members o sts).Nodup :=
  (s.group_nodup o).filter _

theorem State.mem_group (s : State) (o : OutletId) (m : Fin 8) : m ∈ s.group o ↔ (s.module m).group = some o := by
  simp [State.group, mem_allModules]

theorem State.mem_members (s : State) (o : OutletId) (sts : List ModuleState) (m : Fin 8) :
    m ∈ s.members o sts ↔ (s.module m).group = some o ∧ (s.module m).state ∈ sts := by
  simp [State.members, State.mem_group]

/-! ### Shares -/

/-- The sharing out changes the shares of modules alone. -/
theorem State.shareOut_spec (s : State) (remainder n : Nat) (ms : List (Fin 8)) (i : Nat) :
    let t := s.shareOut remainder n ms i
    t = { s with modules := t.modules } ∧ (∀ m, m ∉ ms → t.module m = s.module m) ∧
      ∀ m, { t.module m with share := 0 } = { s.module m with share := 0 } := by
  induction ms generalizing s i with
  | nil => exact ⟨rfl, fun _ _ => rfl, fun _ => rfl⟩
  | cons k ms ih =>
    obtain ⟨h1, h2, h3⟩ := ih (s.modifyModule k fun x => { x with share := equalPart remainder n i }) (i + 1)
    refine ⟨h1.trans rfl, fun m hm => ?_, fun m => ?_⟩
    · have hk : m ≠ k ∧ m ∉ ms := by simpa using hm
      exact (h2 m hk.2).trans (State.module_modifyModule_ne _ _ hk.1)
    · refine (h3 m).trans ?_
      by_cases h : m = k
      · subst h; simp
      · simp [State.module_modifyModule_ne _ _ h]

/-- Computing shares changes the shares of the group's modules alone. -/
theorem State.computeShares_frame (s : State) (o : OutletId) :
    let t := s.computeShares o
    t = { s with modules := t.modules } ∧ (∀ m, (s.module m).group ≠ some o → t.module m = s.module m) ∧
      ∀ m, { t.module m with share := 0 } = { s.module m with share := 0 } := by
  simp only [State.computeShares]
  split
  · have e : (s.group o).foldl (fun s m => s.modifyModule m fun x => { x with share := 0 }) s =
        s.modifyModules (s.group o) fun x => { x with share := 0 } := rfl
    rw [e]
    refine ⟨State.modifyModules_eq _ _ _, fun m hm => ?_, fun m => ?_⟩
    · exact State.module_modifyModules_of_not_mem _ _ _ _ (by rwa [State.mem_group])
    · rw [State.module_modifyModules _ _ _ _ (s.group_nodup o)]
      split <;> rfl
  · obtain ⟨h1, h2, h3⟩ := s.shareOut_spec
      (1000 - ((s.members o [.releasing]).map fun m => (s.module m).share).sum)
      (s.members o [.running]).length (s.members o [.running]) 0
    refine ⟨h1, fun m hm => h2 m fun hmem => hm ((State.mem_members _ _ _ _).1 hmem).1, h3⟩

@[simp] theorem State.outlet_computeShares (s : State) (o q : OutletId) :
    (s.computeShares o).outlet q = s.outlet q := by rw [(s.computeShares_frame o).1]; rfl

/-! ### Entering an outlet state -/

/-- The entry to an outlet state touches the outlet's state, phase, reference and overload timer, the shares of its
group, and the latch and last state code of STATE_CHANGED. -/
theorem State.enter_frame (s : State) (o : OutletId) (st : OutletState) :
    let t := s.enter o st
    t = { s with outlets := t.outlets, modules := t.modules, status := t.status } ∧
      (t.outlet o).state = st ∧ (∀ q, q ≠ o → t.outlet q = s.outlet q) ∧
      t.outlet o = { s.outlet o with
        state := st, phase := (t.outlet o).phase, reference := (t.outlet o).reference
        handover := { (s.outlet o).handover with overloadTimer := (t.outlet o).handover.overloadTimer } } ∧
      (∀ m, { t.module m with share := 0 } = { s.module m with share := 0 }) ∧
      (∀ m, (s.module m).group ≠ some o → t.module m = s.module m) ∧
      t.status.settings = s.status.settings := by
  by_cases h : (s.outlet o).state = st
  · have e : s.enter o st = s := if_pos h
    subst h
    rw [e]
    exact ⟨rfl, rfl, fun _ _ => rfl, rfl, fun _ => rfl, fun _ _ => rfl, rfl⟩
  · have raise (u : State) :
        (u.raiseState o st.code).outlets = u.outlets ∧ (u.raiseState o st.code).modules = u.modules ∧
          u.raiseState o st.code = { u with status := (u.raiseState o st.code).status } ∧
          (u.raiseState o st.code).status.settings = u.status.settings := by
      refine ⟨rfl, rfl, rfl, ?_⟩
      refine Eq.trans (StatusUnit.settings_ext ?_ ?_ ?_ ?_) (State.settings_raise u (.outlet o) .stateChanged)
      · simp [State.raiseState, State.raiseAt]
      · simp [State.raiseState, State.raiseAt]
      · simp [State.raiseState, State.raiseAt]
      · intro g
        by_cases hg : g = .outlet o
        · subst hg; simp [State.raiseState, State.raiseAt]
        · simp [State.raiseState, State.raiseAt, StatusUnit.get_set_ne _ _ hg]
    generalize hu : (s.modify o fun x =>
      { x with
        state := st
        phase := none
        reference := x.selectMode st
        handover := if st.within .transferIn .transferOut then x.handover
          else { x.handover with overloadTimer := none } }) = u
    have e : s.enter o st =
        (if modeOf st = .stopped then u.computeShares o else u).raiseState o st.code := by
      rw [← hu]; exact if_neg h
    have huo : u.outlet o =
        { s.outlet o with
          state := st, phase := (u.outlet o).phase, reference := (u.outlet o).reference
          handover := { (s.outlet o).handover with overloadTimer := (u.outlet o).handover.overloadTimer } } := by
      rw [← hu, State.outlet_modify_self]
      split <;> rfl
    have huq (q : OutletId) (hq : q ≠ o) : u.outlet q = s.outlet q := by
      rw [← hu, State.outlet_modify_ne _ _ hq]
    have hum : u.modules = s.modules := by rw [← hu]; rfl
    have hus : u = { s with outlets := u.outlets } := by rw [← hu]; rfl
    generalize hv : (if modeOf st = .stopped then u.computeShares o else u) = v at e
    have hvf : v = { u with modules := v.modules } ∧
        (∀ m, (u.module m).group ≠ some o → v.module m = u.module m) ∧
        ∀ m, { v.module m with share := 0 } = { u.module m with share := 0 } := by
      rw [← hv]
      split
      · exact u.computeShares_frame o
      · exact ⟨rfl, fun _ _ => rfl, fun _ => rfl⟩
    obtain ⟨v1, v2, v3⟩ := hvf
    obtain ⟨r1, r2, r3, r4⟩ := raise v
    have hvo (q : OutletId) : v.outlet q = u.outlet q := by rw [v1]; rfl
    have hmod (m : Fin 8) : u.module m = s.module m := by simp [State.module, hum]
    have hto (q : OutletId) : (s.enter o st).outlet q = u.outlet q := by
      rw [e]; exact hvo q
    have htm (m : Fin 8) : (s.enter o st).module m = v.module m := by rw [e]; rfl
    refine ⟨?_, ?_, fun q hq => (hto q).trans (huq q hq), ?_, fun m => ?_, fun m hm => ?_, ?_⟩
    · rw [e, r3, v1, hus]
    · rw [hto, huo]
    · rw [hto]; exact huo
    · rw [htm, v3, hmod]
    · rw [htm, v2 m (by rwa [hmod]), hmod]
    · rw [e, r4, v1, hus]

/-! ### Limits -/

/-- The recomputation of a limit (R52): the outlet's limit is the new one, its setpoint does not exceed it where it
did not exceed the old one, and nothing else moves but its transmit queue. -/
theorem State.recomputeLimit_frame (s : State) (o : OutletId) :
    let t := s.recomputeLimit o
    t = { s with outlets := t.outlets } ∧ (∀ q, q ≠ o → t.outlet q = s.outlet q) ∧
      (t.outlet o).limit = s.newLimit o ∧
      (∃ l, (s.outlet o).link.sentAs l ∧
        t.outlet o = { s.outlet o with
          limit := s.newLimit o, reference := (t.outlet o).reference, link := l }) ∧
      ((t.outlet o).reference = (s.outlet o).reference ∨
        (t.outlet o).reference = (s.outlet o).reference.clampTo (s.newLimit o)) := by
  simp only [State.recomputeLimit]
  split
  · next h =>
    refine ⟨rfl, fun _ _ => rfl, h.symm, ⟨(s.outlet o).link, rfl, ?_⟩, Or.inl rfl⟩
    rw [h]
  · generalize hu : (s.modify o fun x =>
      { x with limit := s.newLimit o, reference := x.reference.clampTo (s.newLimit o) }) = u
    have huo : u.outlet o = { s.outlet o with
        limit := s.newLimit o, reference := (s.outlet o).reference.clampTo (s.newLimit o) } := by
      rw [← hu, State.outlet_modify_self]
    have huq (q : OutletId) (hq : q ≠ o) : u.outlet q = s.outlet q := by
      rw [← hu, State.outlet_modify_ne _ _ hq]
    have hus : u = { s with outlets := u.outlets } := by rw [← hu]; rfl
    split
    · obtain ⟨l, e, hl⟩ := u.send_spec o (.capacity (s.newLimit o))
      have ho : (u.send o (.capacity (s.newLimit o))).outlet o = { u.outlet o with link := l } := by
        rw [e, State.modifyLink, State.outlet_modify_self]
      rw [huo] at hl
      refine ⟨?_, fun q hq => ?_, ?_, ⟨l, hl, ?_⟩, Or.inr ?_⟩
      · rw [e, hus]; rfl
      · rw [e, State.modifyLink, State.outlet_modify_ne _ _ hq, huq q hq]
      · rw [ho, huo]
      · rw [ho, huo]
      · rw [ho, huo]
    · refine ⟨hus, huq, by rw [huo], ⟨(s.outlet o).link, rfl, by rw [huo]⟩, Or.inr (by rw [huo])⟩

/-! ### The lifecycle timers of a module -/

@[simp] theorem Module.timersSound_leave (m : Module) : m.leave.timersSound = true := rfl

@[simp] theorem Module.timersSound_retire (m : Module) : m.retire.timersSound = true := by
  unfold Module.retire
  split <;> rfl

@[simp] theorem Module.timersSound_stop (m : Module) : m.stop.timersSound = true := m.timersSound_retire

@[simp] theorem Module.timersSound_faultWith (m : Module) (code : FaultCode) :
    (m.faultWith code).timersSound = true := rfl

/-- A grant starts the precharge timer alone, of a module whose other timers are stopped. -/
theorem Module.timersSound_grantTo {m : Module} (h : m.timersSound = true) (hm : m.isFree = true) (o : OutletId)
    (kind : RequestKind) : (m.grantTo o kind).timersSound = true := by
  have hs : m.state = .off := by
    simp only [Module.isFree, Bool.and_eq_true, beq_iff_eq] at hm
    exact hm.1.1.1
  simp_all [Module.timersSound, Module.grantTo]

/-- An update that touches neither the state of a module nor its lifecycle timers. -/
theorem Module.timersSound_congr {m k : Module} (h : m.timersSound = true) (hs : k.state = m.state)
    (hp : k.precharge = m.precharge) (ht : k.selfTest = m.selfTest) (hd : k.drain = m.drain) :
    k.timersSound = true := by
  simpa only [Module.timersSound, hs, hp, ht, hd] using h

end Sys2Proof.Machine
end

