-- ==== Sys2Proof/Laws/Local.lean ====
section
/-! SUPPORT. What acts at one outlet alone: each shared operation of an outlet leaves the other outlets, the
modules outside its group, the other outlets' requests, the other status groups and the common parts as they are. -/

namespace Sys2Proof.Machine

/-- Between `s` and `t` nothing has moved but at the outlet: its record, the modules of its group, its request, and
the conditions, counts and last state code of its status group. -/
structure ActsAt (o : OutletId) (s t : State) : Prop where
  common : t.common = s.common
  budget : t.budgetOver = s.budgetOver
  outlets : ∀ q, q ≠ o → t.outlet q = s.outlet q
  modules : ∀ m, (s.module m).group ≠ some o → t.module m = s.module m
  requests : t.grants.filter (·.outlet != o) = s.grants.filter (·.outlet != o)
  status : ∀ g, g ≠ .outlet o → t.status.get g = s.status.get g

theorem ActsAt.refl (o : OutletId) (s : State) : ActsAt o s s :=
  ⟨rfl, rfl, fun _ _ => rfl, fun _ _ => rfl, rfl, fun _ _ => rfl⟩

theorem ActsAt.trans {o : OutletId} {s t u : State} (h : ActsAt o s t) (k : ActsAt o t u) : ActsAt o s u where
  common := k.common.trans h.common
  budget := k.budget.trans h.budget
  outlets q hq := (k.outlets q hq).trans (h.outlets q hq)
  modules m hm := (k.modules m (by rwa [h.modules m hm])).trans (h.modules m hm)
  requests := k.requests.trans h.requests
  status g hg := (k.status g hg).trans (h.status g hg)

/-- A choice between two acts. -/
theorem ActsAt.ite {o : OutletId} {s a b : State} {p : Prop} [Decidable p] (h : p → ActsAt o s a)
    (k : ¬p → ActsAt o s b) : ActsAt o s (if p then a else b) := by
  split
  · next e => exact h e
  · next e => exact k e

/-- What the common parts keep, field by field. -/
theorem State.common_fields {s t : State} (h : t.common = s.common) :
    t.phase = s.phase ∧ t.rstLow = s.rstLow ∧ t.restart = s.restart ∧ t.timestamp = s.timestamp ∧ t.due = s.due ∧
      t.estopAllMade = s.estopAllMade ∧ t.gridLimit = s.gridLimit ∧ t.grid = s.grid ∧ t.clock = s.clock ∧
      t.tariff = s.tariff ∧ t.pendingTariff = s.pendingTariff ∧ t.log = s.log ∧
      t.sessionCounter = s.sessionCounter ∧ t.profiles = s.profiles ∧ t.terminal = s.terminal ∧
      t.pending = s.pending ∧ t.status.settings = s.status.settings := by
  simp only [State.common, State.mk.injEq] at h
  simp_all

/-! ### Updates -/

theorem State.actsAt_modify (s : State) (o : OutletId) (f : Outlet → Outlet) : ActsAt o s (s.modify o f) :=
  ⟨rfl, rfl, fun _ hq => State.outlet_modify_ne _ _ hq, fun _ _ => rfl, rfl, fun _ _ => rfl⟩

theorem State.actsAt_modifyPb (s : State) (o : OutletId) (f : ParallelBreaker → ParallelBreaker) :
    ActsAt o s (s.modifyPb o f) := s.actsAt_modify o _

theorem State.actsAt_modifySb (s : State) (o : OutletId) (f : ShoreBreaker → ShoreBreaker) :
    ActsAt o s (s.modifySb o f) := s.actsAt_modify o _

theorem State.actsAt_modifyLink (s : State) (o : OutletId) (f : ShipLink → ShipLink) :
    ActsAt o s (s.modifyLink o f) := s.actsAt_modify o _

theorem State.actsAt_modifyCheck (s : State) (o : OutletId) (f : SyncCheck → SyncCheck) :
    ActsAt o s (s.modifyCheck o f) := s.actsAt_modify o _

theorem State.actsAt_modifyHandover (s : State) (o : OutletId) (f : Handover → Handover) :
    ActsAt o s (s.modifyHandover o f) := s.actsAt_modify o _

theorem State.actsAt_modifySession (s : State) (o : OutletId) (f : Session → Session) :
    ActsAt o s (s.modifySession o f) := s.actsAt_modify o _

/-- An update of modules of the outlet's group. -/
theorem State.actsAt_modifyModules (s : State) (o : OutletId) (ms : List (Fin 8)) (f : Module → Module)
    (h : ∀ m ∈ ms, (s.module m).group = some o) : ActsAt o s (s.modifyModules ms f) := by
  have e := s.modifyModules_eq ms f
  refine ⟨by rw [e]; rfl, by rw [e], fun q _ => by simp, fun m hm => ?_, by rw [e], fun g _ => by rw [e]⟩
  exact State.module_modifyModules_of_not_mem _ _ _ _ fun hk => hm (h m hk)

theorem State.actsAt_modifyModule (s : State) (o : OutletId) (m : Fin 8) (f : Module → Module)
    (h : (s.module m).group = some o) : ActsAt o s (s.modifyModule m f) :=
  s.actsAt_modifyModules o [m] f (by simpa using h)

theorem State.actsAt_raiseAt (s : State) (o : OutletId) (x : Item) : ActsAt o s (s.raiseAt o x) := by
  refine ⟨?_, rfl, fun _ _ => rfl, fun _ _ => rfl, rfl, fun g hg => ?_⟩
  · exact congrArg (fun u => { s with
      outlets := State.reset.outlets, modules := State.reset.modules, grants := [], budgetOver := false
      status := u : State }) (State.settings_raise s (.outlet o) x)
  · exact StatusUnit.get_set_ne _ _ hg

theorem State.actsAt_raiseSome (s : State) (o : OutletId) (x : Option Item) : ActsAt o s (s.raiseSome o x) := by
  cases x with
  | none => exact .refl o s
  | some x => exact s.actsAt_raiseAt o x

/-! ### The ship link -/

theorem State.actsAt_send (s : State) (o : OutletId) (f : ShoreFrame) : ActsAt o s (s.send o f) := by
  obtain ⟨l, e, _⟩ := s.send_spec o f
  rw [e]; exact s.actsAt_modifyLink o _

theorem State.actsAt_sendStatus (s : State) (o : OutletId) : ActsAt o s (s.sendStatus o) := by
  obtain ⟨l, e, _⟩ := s.sendStatus_spec o
  rw [e]; exact s.actsAt_modifyLink o _

theorem State.actsAt_sendRefuse (s : State) (o : OutletId) (type : Byte) (cause : RefuseCause) :
    ActsAt o s (s.sendRefuse o type cause) := by
  obtain ⟨l, e, _⟩ := s.sendRefuse_spec o type cause
  rw [e]; exact s.actsAt_modifyLink o _

theorem State.actsAt_startSending (s : State) (o : OutletId) : ActsAt o s (s.startSending o) := by
  obtain ⟨l, e, _⟩ := s.startSending_spec o
  rw [e]; exact s.actsAt_modifyLink o _

/-! ### The outlet state, the shares and the limit -/

theorem State.actsAt_computeShares (s : State) (o : OutletId) : ActsAt o s (s.computeShares o) := by
  obtain ⟨e, hm, _⟩ := s.computeShares_frame o
  exact ⟨by rw [e]; rfl, by rw [e], fun q _ => by simp, hm, by rw [e], fun g _ => by rw [e]⟩

theorem State.actsAt_raiseState (s : State) (o : OutletId) (code : Nat) : ActsAt o s (s.raiseState o code) := by
  refine (s.actsAt_raiseAt o .stateChanged).trans ⟨?_, rfl, fun _ _ => rfl, fun _ _ => rfl, rfl, fun g hg => ?_⟩
  · refine congrArg (fun u => { s with
      outlets := State.reset.outlets, modules := State.reset.modules, grants := [], budgetOver := false
      status := u : State }) (StatusUnit.settings_ext ?_ ?_ ?_ ?_)
    · simp [State.raiseState, State.raiseAt]
    · simp [State.raiseState, State.raiseAt]
    · simp [State.raiseState, State.raiseAt]
    · intro g
      by_cases hg : g = .outlet o
      · subst hg; simp [State.raiseState, State.raiseAt]
      · simp [State.raiseState, State.raiseAt, StatusUnit.get_set_ne _ _ hg]
  · simp only [State.raiseState]
    exact StatusUnit.get_set_ne _ _ hg

theorem State.actsAt_enter (s : State) (o : OutletId) (st : OutletState) : ActsAt o s (s.enter o st) := by
  unfold State.enter
  refine .ite (fun _ => .refl o s) fun _ => .trans (.trans ?_ (.ite (fun _ => State.actsAt_computeShares _ o)
    fun _ => .refl o _)) (State.actsAt_raiseState _ o _)
  exact s.actsAt_modify o _

theorem State.actsAt_recomputeLimit (s : State) (o : OutletId) : ActsAt o s (s.recomputeLimit o) := by
  simp only [State.recomputeLimit]
  refine .ite (fun _ => .refl o s) fun _ => .ite (fun _ => .trans ?_ (State.actsAt_send _ o _)) fun _ => ?_
  · exact s.actsAt_modify o _
  · exact s.actsAt_modify o _

/-! ### The group -/

theorem State.actsAt_stopGroup (s : State) (o : OutletId) : ActsAt o s (s.stopGroup o) :=
  s.actsAt_modifyModules o _ _ fun m => (s.mem_group o m).1

theorem State.actsAt_runGroup (s : State) (o : OutletId) : ActsAt o s (s.runGroup o) :=
  (s.actsAt_modifyModules o _ _ fun m hm => ((s.mem_members o _ m).1 hm).1).trans (State.actsAt_computeShares _ _)

theorem State.actsAt_testRelease (s : State) (o : OutletId) : ActsAt o s (s.testRelease o) := by
  simp only [State.testRelease]
  refine .ite (fun _ => ?_) fun _ => .refl o s
  refine ActsAt.trans (s.actsAt_modifyModules o _ _ fun m hm => ?_) (State.actsAt_computeShares _ _)
  exact ((s.mem_members o _ m).1 (List.mem_filter.1 hm).1).1

/-- The surplus members are among the list walked. -/
theorem State.mem_surplusOf {s : State} {admitted total : Nat} {ms : List (Fin 8)} {m : Fin 8}
    (h : m ∈ s.surplusOf admitted total ms) : m ∈ ms := by
  induction ms generalizing total with
  | nil => simp [State.surplusOf] at h
  | cons k ms ih =>
    simp only [State.surplusOf] at h
    split at h
    · rcases List.mem_cons.1 h with rfl | h
      · exact List.mem_cons_self ..
      · exact List.mem_cons_of_mem _ (ih h)
    · simp at h

/-- A surplus member is a member of the outlet's group in a committed state. -/
theorem State.mem_surplus {s : State} {o : OutletId} {m : Fin 8} (h : m ∈ s.surplus o) :
    (s.module m).group = some o ∧ (s.module m).state ∈ committedStates :=
  (s.mem_members o _ m).1 (List.mem_reverse.1 (State.mem_surplusOf h))

/-- A module update that keeps a module's group. -/
theorem State.group_modifyModules (s : State) (ms : List (Fin 8)) (f : Module → Module)
    (hf : ∀ x, (f x).group = x.group) (m : Fin 8) :
    ((s.modifyModules ms f).module m).group = (s.module m).group := by
  induction ms generalizing s with
  | nil => rfl
  | cons k ms ih =>
    rw [State.modifyModules_cons, ih]
    by_cases h : m = k
    · subst h; simp [hf]
    · simp [State.module_modifyModule_ne _ _ h]

theorem State.actsAt_markSurplus (s : State) (o : OutletId) : ActsAt o s (s.markSurplus o) := by
  simp only [State.markSurplus]
  refine ActsAt.trans (s.actsAt_modifyModules o _ _ fun m => (s.mem_group o m).1)
    (State.actsAt_modifyModules _ o _ _ fun m hm => ?_)
  rw [State.group_modifyModules _ _ _ (by intro _; rfl)]
  exact (State.mem_surplus (List.mem_filter.1 hm).1).1

theorem State.group_markSurplus (s : State) (o : OutletId) (m : Fin 8) :
    ((s.markSurplus o).module m).group = (s.module m).group := by
  simp only [State.markSurplus]
  rw [State.group_modifyModules _ _ _ (by intro _; rfl), State.group_modifyModules _ _ _ (by intro _; rfl)]

/-! ### The grant queue -/

theorem State.actsAt_withdraw (s : State) (o : OutletId) : ActsAt o s (s.withdraw o) :=
  ⟨rfl, rfl, fun _ _ => rfl, fun _ _ => rfl, by simp [State.withdraw], fun _ _ => rfl⟩

theorem State.actsAt_ask (s : State) (o : OutletId) (kind : RequestKind) (wanted : Nat) :
    ActsAt o s (s.ask o kind wanted) := by
  unfold State.ask
  refine .ite (fun _ => ?_) fun _ => ?_
  · refine ⟨rfl, rfl, fun _ _ => rfl, fun _ _ => rfl, ?_, fun _ _ => rfl⟩
    dsimp only
    generalize s.grants = rs
    induction rs with
    | nil => rfl
    | cons r rs ih =>
      by_cases h : r.outlet = o
      · simpa [h] using ih
      · simpa [h] using ih
  · exact ⟨rfl, rfl, fun _ _ => rfl, fun _ _ => rfl, by simp, fun _ _ => rfl⟩

theorem State.actsAt_topUp (s : State) (o : OutletId) : ActsAt o s (s.topUp o) := by
  unfold State.topUp
  exact .ite (fun _ => s.actsAt_ask _ _ _) fun _ => s.actsAt_withdraw o

theorem State.actsAt_adjustTopUp (s : State) (o : OutletId) : ActsAt o s (s.adjustTopUp o) := by
  unfold State.adjustTopUp
  exact .ite (fun _ => s.actsAt_topUp o) fun _ => .refl o s

theorem State.group_recomputeLimit (s : State) (o : OutletId) (m : Fin 8) :
    (s.recomputeLimit o).module m = s.module m := by rw [(s.recomputeLimit_frame o).1]; rfl

theorem State.actsAt_decrease (s : State) (o : OutletId) (kW : Nat) : ActsAt o s (s.decrease o kW) := by
  simp only [State.decrease]
  have h := (s.actsAt_modifySession o fun x => { x with admitted := kW }).trans (State.actsAt_recomputeLimit _ o)
  generalize (s.modifySession o fun x => { x with admitted := kW }).recomputeLimit o = u at h ⊢
  refine h.trans ((u.actsAt_markSurplus o).trans (.trans (.trans (.trans ?_ (State.actsAt_adjustTopUp _ o))
    (State.actsAt_testRelease _ o)) (State.actsAt_recomputeLimit _ o)))
  refine State.actsAt_modifyModules _ o _ _ fun m hm => ?_
  rw [State.group_markSurplus]
  exact (State.mem_surplus (List.mem_filter.1 hm).1).1

/-! ### The breakers -/

theorem State.actsAt_requestPbTrip (s : State) (o : OutletId) : ActsAt o s (s.requestPbTrip o) :=
  s.actsAt_modifyPb o _

theorem State.actsAt_requestSbClose (s : State) (o : OutletId) : ActsAt o s (s.requestSbClose o) := by
  unfold State.requestSbClose
  split
  · exact .ite (fun _ => s.actsAt_modify o _) fun _ => s.actsAt_modify o _
  all_goals exact s.actsAt_modify o _

theorem State.actsAt_sbOpenReport (s : State) (o : OutletId) : ActsAt o s (s.sbOpenReport o) := by
  simp only [State.sbOpenReport]
  exact .ite (fun _ => s.actsAt_requestSbClose o) fun _ => .refl o s

theorem State.actsAt_requestSbOpen (s : State) (o : OutletId) : ActsAt o s (s.requestSbOpen o) := by
  simp only [State.requestSbOpen]
  have h : ActsAt o s (if (s.outlet o).sb.channel = .closed then
      (s.modifySb o ShoreBreaker.requestOpen).modifyPb o ParallelBreaker.cancelClose
      else s.modifySb o ShoreBreaker.requestOpen) :=
    .ite (fun _ => (s.actsAt_modifySb o _).trans (State.actsAt_modifyPb _ o _)) fun _ => s.actsAt_modifySb o _
  exact .ite (fun _ => h.trans (State.actsAt_sbOpenReport _ o)) fun _ => h

theorem State.actsAt_openBreakers (s : State) (o : OutletId) : ActsAt o s (s.openBreakers o) :=
  (s.actsAt_requestSbOpen o).trans (State.actsAt_requestPbTrip _ o)

theorem State.actsAt_openOnLoss (s : State) (o : OutletId) : ActsAt o s (s.openOnLoss o) := by
  unfold State.openOnLoss
  refine ActsAt.trans ?_ (State.actsAt_modifyPb _ o _)
  split
  · exact s.actsAt_requestSbOpen o
  · exact s.actsAt_requestSbOpen o
  · exact .refl o s

/-! ### Trips, endings and the loss of a member -/

theorem State.actsAt_tripNotice (s : State) (o : OutletId) (cause : TripCause) : ActsAt o s (s.tripNotice o cause) :=
  (s.actsAt_modifySession o _).trans (State.actsAt_send _ o _)

theorem State.actsAt_trip (s : State) (o : OutletId) (cause : TripCause) : ActsAt o s (s.trip o cause) := by
  simp only [State.trip]
  refine .ite (fun _ => ?_) fun _ => .ite (fun _ => .trans ?_ (State.actsAt_tripNotice _ o _)) fun _ => .refl o s
  · refine .trans (.trans (.trans (.trans (.trans ?_ (State.actsAt_withdraw _ o)) (State.actsAt_tripNotice _ o _))
      (State.actsAt_stopGroup _ o)) (State.actsAt_recomputeLimit _ o)) (State.actsAt_enter _ o _)
    split
    · exact (s.actsAt_modify o _).trans (State.actsAt_openBreakers _ o)
    · exact s.actsAt_modify o _
  · split
    · exact s.actsAt_openBreakers o
    · exact .refl o s

theorem State.actsAt_deEnergise (s : State) (o : OutletId) (cause : EndCause) : ActsAt o s (s.deEnergise o cause) := by
  simp only [State.deEnergise]
  refine .trans ?_ (State.actsAt_enter _ o _)
  have h := (s.actsAt_modify o fun x => { x with
    energiseTimer := none, closeWanted := false, check := x.check.exit, endCause := some cause }).trans
      (State.actsAt_withdraw _ o)
  split
  · exact ((h.trans (State.actsAt_stopGroup _ o)).trans (State.actsAt_recomputeLimit _ o)).trans
      (State.actsAt_requestSbOpen _ o)
  · split
    · exact h.trans (State.actsAt_requestSbOpen _ o)
    · exact .ite (fun _ => h.trans (State.actsAt_openBreakers _ o)) fun _ => h

theorem State.actsAt_force (s : State) (o : OutletId) : ActsAt o s (s.force o) := by
  simp only [State.force]
  exact (((((s.actsAt_modify o _).trans (State.actsAt_withdraw _ o)).trans (State.actsAt_openBreakers _ o)).trans
    (State.actsAt_stopGroup _ o)).trans (State.actsAt_recomputeLimit _ o)).trans (State.actsAt_enter _ o _)

theorem State.actsAt_survive (s : State) (o : OutletId) (marks : Bool) : ActsAt o s (s.survive o marks) := by
  simp only [State.survive]
  exact (s.actsAt_recomputeLimit o).trans (.trans (.ite (fun _ => State.actsAt_markSurplus _ o) fun _ => .refl o _)
    (State.actsAt_topUp _ o))

theorem State.actsAt_memberLost (s : State) (o : OutletId) (marks : Bool) : ActsAt o s (s.memberLost o marks) := by
  simp only [State.memberLost]
  refine (s.actsAt_computeShares o).trans (.ite (fun _ => .ite (fun _ => State.actsAt_trip _ o _)
    fun _ => State.actsAt_survive _ o _) fun _ => .ite (fun _ => .ite (fun _ => ?_)
    fun _ => State.actsAt_survive _ o _) fun _ => State.actsAt_recomputeLimit _ o)
  exact (State.actsAt_stopGroup _ o).trans (State.actsAt_trip _ o _)

/-- A fault of a group's module. -/
theorem State.actsAt_faultModule (s : State) (o : OutletId) (m : Fin 8) (code : FaultCode)
    (h : (s.module m).group = some o) : ActsAt o s (s.faultModule m code) := by
  simp only [State.faultModule, h]
  exact (s.actsAt_modifyModule o m _ h).trans (State.actsAt_memberLost _ o _)

theorem State.actsAt_endPrepare (s : State) (o : OutletId) : ActsAt o s (s.endPrepare o) := by
  simp only [State.endPrepare]
  exact .ite (fun _ => (s.actsAt_modify o _).trans (State.actsAt_requestSbClose _ o)) fun _ => .refl o s

/-! ### The synchronising check and the handover -/

theorem State.actsAt_leaveSync (s : State) (o : OutletId) (out : SyncOutcome) : ActsAt o s (s.leaveSync o out) := by
  simp only [State.leaveSync]
  exact ((s.actsAt_modify o _).trans (State.actsAt_raiseSome _ o _)).trans (State.actsAt_enter _ o _)

theorem State.actsAt_abandonSync (s : State) (o : OutletId) (out : SyncOutcome) :
    ActsAt o s (s.abandonSync o out) := by
  unfold State.abandonSync
  split
  · exact s.actsAt_leaveSync o out
  · exact (s.actsAt_requestPbTrip o).trans (State.actsAt_modifyCheck _ o _)
  · exact s.actsAt_modifyCheck o _
  · exact .refl o s

theorem State.actsAt_failAttempt (s : State) (o : OutletId) : ActsAt o s (s.failAttempt o) :=
  (s.actsAt_modifyCheck o _).trans (State.actsAt_raiseAt _ o _)

theorem State.actsAt_requestClose (s : State) (o : OutletId) (p : Profile) : ActsAt o s (s.requestClose o p) := by
  unfold State.requestClose
  split
  · exact (s.actsAt_modify o _).trans (State.actsAt_modifySession _ o _)
  · exact s.actsAt_modifyCheck o _

theorem State.actsAt_evaluate (s : State) (o : OutletId) : ActsAt o s (s.evaluate o) := by
  simp only [State.evaluate]
  split
  · exact .refl o s
  · split
    · exact s.actsAt_modifyCheck o _
    · exact (s.actsAt_modifyCheck o _).trans (.ite (fun _ => State.actsAt_requestClose _ o _) fun _ => .refl o _)

theorem State.actsAt_endRecovery (s : State) (o : OutletId) : ActsAt o s (s.endRecovery o).1 := by
  unfold State.endRecovery
  split
  · exact s.actsAt_leaveSync o _
  · exact s.actsAt_modifyCheck o fun r => { r with state := .evaluating }

theorem State.actsAt_deliverShip (s : State) (o : OutletId) (d : Delivery) : ActsAt o s (s.deliverShip o d) := by
  unfold State.deliverShip
  split
  · exact .refl o s
  · refine .ite (fun _ => ?_) fun _ => .refl o s
    exact (s.actsAt_endRecovery o).trans (.ite (fun _ => State.actsAt_evaluate _ o) fun _ => .refl o _)
  · exact .ite (fun _ => s.actsAt_evaluate o) fun _ => s.actsAt_modifyCheck o _

theorem State.actsAt_separate (s : State) (o : OutletId) (cause : SeparationCause) (event : Option Item) :
    ActsAt o s (s.separate o cause event) := by
  simp only [State.separate]
  exact (((s.actsAt_requestPbTrip o).trans (State.actsAt_modifyHandover _ o _)).trans
    (State.actsAt_raiseSome _ o _)).trans (State.actsAt_enter _ o _)

theorem State.actsAt_completeSeparation (s : State) (o : OutletId) : ActsAt o s (s.completeSeparation o) := by
  unfold State.completeSeparation
  exact .ite (fun _ => (s.actsAt_raiseAt o _).trans (State.actsAt_enter _ o _)) fun _ => .refl o s

theorem State.actsAt_closeMade (s : State) (o : OutletId) : ActsAt o s (s.closeMade o) := by
  simp only [State.closeMade]
  exact ((s.actsAt_modify o _).trans (State.actsAt_raiseAt _ o _)).trans (State.actsAt_enter _ o _)

theorem State.actsAt_lateClosure (s : State) (o : OutletId) : ActsAt o s (s.lateClosure o) := by
  simp only [State.lateClosure]
  exact ((s.actsAt_modify o _).trans (State.actsAt_raiseAt _ o _)).trans (State.actsAt_enter _ o _)

theorem State.actsAt_judgeClosure (s : State) (o : OutletId) : ActsAt o s (s.judgeClosure o) := by
  simp only [State.judgeClosure]
  exact .ite (fun _ => s.actsAt_lateClosure o) fun _ => .ite (fun _ => s.actsAt_trip o _) fun _ =>
    .ite (fun _ => s.actsAt_requestPbTrip o) fun _ => .refl o s

theorem State.actsAt_pbOpenReport (s : State) (o : OutletId) : ActsAt o s (s.pbOpenReport o) := by
  unfold State.pbOpenReport
  exact .ite (fun _ => s.actsAt_endRecovery o) fun _ => s.actsAt_completeSeparation o

theorem State.actsAt_pbOpenedReport (s : State) (o : OutletId) : ActsAt o s (s.pbOpenedReport o) := by
  simp only [State.pbOpenedReport]
  exact .ite (fun _ => ((s.actsAt_modifyHandover o _).trans (State.actsAt_raiseAt _ o _)).trans
    (State.actsAt_enter _ o _)) fun _ => .refl o s

theorem State.actsAt_deliverPower (s : State) (o : OutletId) (d : Delivery) : ActsAt o s (s.deliverPower o d) := by
  simp only [State.deliverPower]
  exact (s.actsAt_modify o _).trans (.trans (.ite (fun _ => State.actsAt_separate _ o _ _) fun _ => .refl o _)
    (State.actsAt_testRelease _ o))

theorem State.actsAt_deliverCable (s : State) (o : OutletId) (d : Delivery) : ActsAt o s (s.deliverCable o d) := by
  simp only [State.deliverCable]
  have h : ActsAt o s (if (s.outlet o).isVerified then
      (s.modify o fun x => { x with energiseTimer := none }).enter o .cableLive else s.completeSeparation o) :=
    .ite (fun _ => (s.actsAt_modify o _).trans (State.actsAt_enter _ o _)) fun _ => s.actsAt_completeSeparation o
  exact .ite (fun _ => h) fun _ => h.trans (State.actsAt_deliverPower _ o d)

/-! ### Interlocks and breaker feedback -/

theorem State.actsAt_movePlug (s : State) (o : OutletId) (made : Bool) : ActsAt o s (s.movePlug o made) := by
  unfold State.movePlug
  split
  · exact s.actsAt_enter o _
  · exact s.actsAt_enter o _
  · exact (s.actsAt_modify o _).trans (State.actsAt_enter _ o _)
  · exact .refl o s

theorem State.actsAt_takeLinkDown (s : State) (o : OutletId) : ActsAt o s (s.takeLinkDown o) := by
  have h := s.actsAt_modifyHandover o fun h => { h with shipStatus := none }
  simp only [State.takeLinkDown]
  split
  · exact (h.trans (State.actsAt_modify _ o _)).trans (State.actsAt_enter _ o _)
  · exact h.trans (State.actsAt_abandonSync _ o _)
  · exact h.trans (State.actsAt_separate _ o _ _)
  · exact h

theorem State.actsAt_linkDown (s : State) (o : OutletId) (cause : DownCause) : ActsAt o s (s.linkDown o cause) := by
  unfold State.linkDown
  exact .ite (fun _ => (s.actsAt_modifyLink o _).trans (State.actsAt_takeLinkDown _ o)) fun _ => .refl o s

theorem State.actsAt_deliverInterlock (s : State) (o : OutletId) (input : InterlockInput) (made : Bool) :
    ActsAt o s (s.deliverInterlock o input made) := by
  unfold State.deliverInterlock
  exact .ite (fun _ => .refl o s) fun _ => s.actsAt_trip o _

theorem State.actsAt_changeInput (s : State) (o : OutletId) (i : Interlock) (made : Bool) :
    ActsAt o s (s.changeInput o i made) := by
  simp only [State.changeInput]
  refine .ite (fun _ => .refl o s) fun _ => ?_
  have h := s.actsAt_modify o fun x => { x with interlocks := x.interlocks.set i made }
  generalize (s.modify o fun x => { x with interlocks := x.interlocks.set i made }) = u at h ⊢
  have h : ActsAt o s ((if made then u else u.openOnLoss o).deliverInterlock o (.ofOutlet o i) made) :=
    h.trans (.trans (.ite (fun _ => .refl o _) fun _ => u.actsAt_openOnLoss o) (State.actsAt_deliverInterlock _ o _ _))
  refine .ite (fun _ => ?_) fun _ => h
  have k := h.trans (State.actsAt_movePlug _ o made)
  exact .ite (fun _ => k) fun _ => k.trans (State.actsAt_linkDown _ o _)

theorem State.actsAt_enterRamp (s : State) (o : OutletId) : ActsAt o s (s.enterRamp o) :=
  (s.actsAt_runGroup o).trans (State.actsAt_modify _ o _)

theorem State.actsAt_sbClosedReport (s : State) (o : OutletId) : ActsAt o s (s.sbClosedReport o) := by
  unfold State.sbClosedReport
  exact .ite (fun _ => s.actsAt_enterRamp o) fun _ => .refl o s

theorem State.actsAt_sbCloses (s : State) (o : OutletId) : ActsAt o s (s.sbCloses o) := by
  simp only [State.sbCloses]
  have h := s.actsAt_modifySb o fun b => { b with feedback := true }
  split
  · exact h.trans ((State.actsAt_modifySb _ o _).trans (State.actsAt_sbClosedReport _ o))
  · exact h.trans (State.actsAt_modifySb _ o _)
  · exact h

theorem State.actsAt_sbOpens (s : State) (o : OutletId) : ActsAt o s (s.sbOpens o) := by
  simp only [State.sbOpens]
  have h := s.actsAt_modifySb o fun b => { b with feedback := false }
  split
  · exact h.trans (((State.actsAt_modifySb _ o _).trans (State.actsAt_requestPbTrip _ o)).trans (State.actsAt_trip _ o _))
  · exact h.trans ((State.actsAt_modifySb _ o _).trans (State.actsAt_sbOpenReport _ o))
  · exact h.trans ((State.actsAt_modifySb _ o _).trans (State.actsAt_sbOpenReport _ o))
  · exact h

theorem State.actsAt_pbCloses (s : State) (o : OutletId) : ActsAt o s (s.pbCloses o) := by
  simp only [State.pbCloses]
  have h := s.actsAt_modifyPb o fun b => { b with feedback := true }
  split
  · exact h.trans ((State.actsAt_modifyPb _ o _).trans (.ite (fun _ => State.actsAt_closeMade _ o) fun _ => .refl o _))
  · exact h
  · exact h.trans (State.actsAt_judgeClosure _ o)

theorem State.actsAt_pbOpens (s : State) (o : OutletId) : ActsAt o s (s.pbOpens o) := by
  simp only [State.pbOpens]
  have h := s.actsAt_modifyPb o fun b => { b with feedback := false, stuckSet := false }
  split
  · exact h.trans ((State.actsAt_modifyPb _ o _).trans (State.actsAt_pbOpenReport _ o))
  · exact h.trans ((State.actsAt_modifyPb _ o _).trans (State.actsAt_pbOpenReport _ o))
  · exact h.trans (State.actsAt_pbOpenedReport _ o)
  · exact h

theorem State.actsAt_syncExpires (s : State) (o : OutletId) : ActsAt o s (s.syncExpires o) := by
  simp only [State.syncExpires]
  have h := s.actsAt_modifyCheck o fun r => { r with syncTimer := none }
  split
  · exact h.trans (State.actsAt_leaveSync _ o _)
  · exact h.trans (State.actsAt_modifyCheck _ o _)
  · exact h.trans (State.actsAt_modifyCheck _ o _)
  · exact h

/-! ### The ship link's receiving half and the frame services -/

theorem State.actsAt_takeLinkUp (s : State) (o : OutletId) : ActsAt o s (s.takeLinkUp o) := by
  unfold State.takeLinkUp
  exact .ite (fun _ => (s.actsAt_modifyHandover o _).trans (State.actsAt_send _ o _)) fun _ => .refl o s

theorem State.actsAt_linkUp (s : State) (o : OutletId) : ActsAt o s (s.linkUp o) := by
  simp only [State.linkUp]
  exact ((s.actsAt_modifyLink o _).trans (State.actsAt_sendStatus _ o)).trans (State.actsAt_takeLinkUp _ o)

theorem State.actsAt_refuseFormat (s : State) (o : OutletId) (type : Byte) (cause : RefuseCause) :
    ActsAt o s (s.refuseFormat o type cause) :=
  (s.actsAt_sendRefuse o type cause).trans (State.actsAt_modifyLink _ o _)

theorem State.actsAt_sortFrame (s : State) (o : OutletId) (f : RawFrame) : ActsAt o s (s.sortFrame o f) := by
  unfold State.sortFrame
  split
  · exact s.actsAt_refuseFormat o _ _
  · exact .ite (fun _ => s.actsAt_modifyLink o _) fun _ => s.actsAt_refuseFormat o _ _

theorem State.actsAt_validFrame (s : State) (o : OutletId) (f : RawFrame) : ActsAt o s (s.validFrame o f) := by
  simp only [State.validFrame]
  refine (s.actsAt_modifyLink o _).trans (.ite (fun _ => ?_) fun _ => .refl o _)
  exact (State.actsAt_modify _ o _).trans (.trans (.ite (fun _ => .refl o _) fun _ => State.actsAt_linkUp _ o)
    (State.actsAt_sortFrame _ o f))

theorem State.actsAt_completeFrame (s : State) (o : OutletId) (f : RawFrame) : ActsAt o s (s.completeFrame o f) := by
  simp only [State.completeFrame]
  exact (s.actsAt_modifyLink o _).trans (.ite (fun _ => State.actsAt_validFrame _ o f)
    fun _ => State.actsAt_modifyLink _ o _)

theorem State.actsAt_takeByte (s : State) (o : OutletId) (b : Byte) : ActsAt o s (s.takeByte o b) := by
  unfold State.takeByte
  split
  · exact .ite (fun _ => s.actsAt_modifyLink o _) fun _ => s.actsAt_modifyLink o _
  · exact .ite (fun _ => s.actsAt_modifyLink o _) fun _ => s.actsAt_modifyLink o _
  · exact .ite (fun _ => s.actsAt_completeFrame o _) fun _ => s.actsAt_modifyLink o _

theorem State.actsAt_takeCharacter (s : State) (o : OutletId) (ch : Received) : ActsAt o s (s.takeCharacter o ch) := by
  unfold State.takeCharacter
  exact .ite (fun _ => s.actsAt_modifyLink o _) fun _ => s.actsAt_takeByte o _

/-- A frame service acts where the frame's effect acts. -/
theorem State.actsAt_serve (s : State) (o : OutletId) (type : Byte) (act : List Byte → State → State)
    (h : ∀ p u, ActsAt o u (act p u)) : ActsAt o s (s.serve o type act) := by
  unfold State.serve
  split
  · exact .refl o s
  · refine .ite (fun _ => ?_) fun _ => .refl o s
    exact (s.actsAt_modifyLink o _).trans (.ite (fun _ => .refl o _) fun _ => h _ _)

theorem State.actsAt_welcome (s : State) (o : OutletId) : ActsAt o s (s.welcome o) := by
  unfold State.welcome
  split
  · exact .refl o s
  · exact s.actsAt_send o _

theorem State.actsAt_takeAnnouncement (s : State) (o : OutletId) (payload : List Byte) :
    ActsAt o s (s.takeAnnouncement o payload) := by
  unfold State.takeAnnouncement
  split
  · exact s.actsAt_sendRefuse o _ _
  · exact .ite (fun _ => (s.actsAt_modify o _).trans (State.actsAt_enter _ o _)) fun _ => s.actsAt_sendRefuse o _ _

theorem State.actsAt_takeHello (s : State) (o : OutletId) (payload : List Byte) :
    ActsAt o s (s.takeHello o payload) := by
  unfold State.takeHello
  split
  · exact s.actsAt_takeAnnouncement o payload
  · exact s.actsAt_takeAnnouncement o payload
  · exact s.actsAt_sendRefuse o _ _
  · exact s.actsAt_welcome o

theorem State.actsAt_takeStatus (s : State) (o : OutletId) (payload : List Byte) :
    ActsAt o s (s.takeStatus o payload) := by
  unfold State.takeStatus
  split
  · exact .refl o s
  · exact s.actsAt_modifyHandover o _

theorem State.actsAt_enterSync (s : State) (o : OutletId) : ActsAt o s (s.enterSync o) := by
  unfold State.enterSync
  split
  · exact .refl o s
  · exact (s.actsAt_modifyCheck o _).trans (State.actsAt_enter _ o _)

theorem State.actsAt_takeParallelRequest (s : State) (o : OutletId) : ActsAt o s (s.takeParallelRequest o) := by
  unfold State.takeParallelRequest
  exact .ite (fun _ => .ite (fun _ => s.actsAt_enterSync o) fun _ => s.actsAt_sendRefuse o _ _)
    fun _ => s.actsAt_sendRefuse o _ _

theorem State.actsAt_takeGeneratorsOff (s : State) (o : OutletId) : ActsAt o s (s.takeGeneratorsOff o) := by
  unfold State.takeGeneratorsOff
  exact .ite (fun _ => ((s.actsAt_modifyHandover o _).trans (State.actsAt_raiseAt _ o _)).trans
    (State.actsAt_enter _ o _)) fun _ => s.actsAt_sendRefuse o _ _

theorem State.actsAt_takeReturnRequest (s : State) (o : OutletId) : ActsAt o s (s.takeReturnRequest o) := by
  unfold State.takeReturnRequest
  exact .ite (fun _ => (s.actsAt_modifyHandover o _).trans (State.actsAt_raiseAt _ o _))
    fun _ => s.actsAt_sendRefuse o _ _

theorem State.actsAt_takeGeneratorsOn (s : State) (o : OutletId) : ActsAt o s (s.takeGeneratorsOn o) := by
  unfold State.takeGeneratorsOn
  exact .ite (fun _ => ((s.actsAt_modify o _).trans (State.actsAt_raiseAt _ o _)).trans (State.actsAt_enter _ o _))
    fun _ => s.actsAt_sendRefuse o _ _

theorem State.actsAt_takeAbort (s : State) (o : OutletId) : ActsAt o s (s.takeAbort o) := by
  unfold State.takeAbort
  split
  · exact s.actsAt_abandonSync o _
  · exact .ite (fun _ => .refl o s) fun _ => (s.actsAt_modify o _).trans (State.actsAt_raiseAt _ o _)
  · exact .refl o s
  · exact s.actsAt_sendRefuse o _ _

theorem State.actsAt_takeBye (s : State) (o : OutletId) : ActsAt o s (s.takeBye o) := by
  unfold State.takeBye
  split
  · exact (s.actsAt_modify o _).trans (State.actsAt_enter _ o _)
  · exact s.actsAt_deEnergise o _
  · exact s.actsAt_deEnergise o _
  · exact s.actsAt_deEnergise o _
  · exact s.actsAt_sendRefuse o _ _

end Sys2Proof.Machine
end

