-- ==== Sys2Proof/Laws/Granting.lean ====
section
/-! SUPPORT. What the end of an event may do beyond the act itself: the limits, the grants, BUDGET_OVER, the end of
PREPARE, and the owners' reports. -/

namespace Sys2Proof.Machine

/-! ### The limits -/

/-- What the allocator's answer leaves of an outlet that another's event does not touch. -/
theorem Outlet.kept_link (x : Outlet) (l : ShipLink)
    (h : ∃ n, l = { x.link with
      queue := l.queue, sending := l.sending, counts := { x.link.counts with transmitDrops := n } }) :
    ({ x with link := l } : Outlet).kept = x.kept := by
  obtain ⟨n, h⟩ := h
  rw [h]
  rfl

theorem State.startSending_link (s : State) (o : OutletId) :
    ∃ q b, (s.startSending o) = s.modifyLink o fun l => { l with queue := q, sending := b } := by
  have h : s = s.modifyLink o fun l =>
      { l with queue := (s.outlet o).link.queue, sending := (s.outlet o).link.sending } :=
    (s.modifyLink_self o).symm
  simp only [State.startSending]
  split
  · split
    · exact ⟨_, _, h⟩
    · exact ⟨_, _, rfl⟩
    · exact ⟨_, true, rfl⟩
  · exact ⟨_, _, h⟩

theorem ShipLink.join_link (l : ShipLink) (f : ShoreFrame) :
    ∃ q n, l.join f = { l with queue := q, counts := { l.counts with transmitDrops := n } } := by
  unfold ShipLink.join
  split
  · exact ⟨_, _, rfl⟩
  · split <;> exact ⟨_, _, rfl⟩

/-- An event frame appended moves the queue, the transmitter and the drop count alone (R125, R127). -/
theorem State.send_link (s : State) (o : OutletId) (f : ShoreFrame) :
    ∃ q b n, s.send o f = s.modifyLink o fun l =>
      { l with queue := q, sending := b, counts := { l.counts with transmitDrops := n } } := by
  unfold State.send
  split
  · obtain ⟨q, n, e⟩ := (s.outlet o).link.join_link f
    obtain ⟨q', b, e'⟩ := (s.modifyLink o fun l => l.join f).startSending_link o
    refine ⟨q', b, n, ?_⟩
    rw [e', State.modifyLink_modifyLink, State.modifyLink_const, e]
    rfl
  · exact ⟨_, _, _, (s.modifyLink_self o).symm⟩

theorem State.kept_modify (s : State) (o : OutletId) (f : Outlet → Outlet)
    (h : (f (s.outlet o)).kept = (s.outlet o).kept) (q : OutletId) :
    ((s.modify o f).outlet q).kept = (s.outlet q).kept := by
  by_cases hq : q = o
  · subst hq; simpa using h
  · simp [hq]

theorem State.kept_send (s : State) (o : OutletId) (f : ShoreFrame) (q : OutletId) :
    ((s.send o f).outlet q).kept = (s.outlet q).kept := by
  obtain ⟨k, b, n, e⟩ := s.send_link o f
  rw [e]
  exact s.kept_modify o _ rfl q

theorem State.kept_recomputeLimit (s : State) (o q : OutletId) :
    ((s.recomputeLimit o).outlet q).kept = (s.outlet q).kept := by
  simp only [State.recomputeLimit]
  split
  · rfl
  · split
    · rw [State.kept_send]
      exact s.kept_modify o _ rfl q
    · exact s.kept_modify o _ rfl q

/-! ### What the answer to an event is -/

/-- The allocator's answer to an event: the common parts stand, every outlet is kept but for a grant, the limit and
the end of PREPARE, and every module is kept or granted. -/
structure Answers (s t : State) : Prop where
  common : t.common = s.common
  outlets : ∀ o, (t.outlet o).kept = (s.outlet o).kept
  modules : ∀ m, (s.module m).keptBy (t.module m) = true

theorem Module.keptBy_refl (m : Module) : m.keptBy m = true := by simp [Module.keptBy]

theorem Module.isFree_off {m : Module} (h : m.isFree = true) : m.state = .off := by
  simp only [Module.isFree, Bool.and_eq_true, beq_iff_eq] at h
  exact h.1.1.1

theorem Module.keptBy_trans {a b c : Module} (h : a.keptBy b = true) (k : b.keptBy c = true) :
    a.keptBy c = true := by
  simp only [Module.keptBy, Bool.or_eq_true, Bool.and_eq_true, beq_iff_eq] at *
  rcases h with rfl | ⟨h1, h2⟩
  · exact k
  · rcases k with rfl | ⟨k1, _⟩
    · exact .inr ⟨h1, h2⟩
    · rw [Module.isFree_off k1] at h2
      cases h2

theorem Answers.refl (s : State) : Answers s s := ⟨rfl, fun _ => rfl, fun _ => Module.keptBy_refl _⟩

theorem Answers.trans {s t u : State} (h : Answers s t) (k : Answers t u) : Answers s u :=
  ⟨k.common.trans h.common, fun o => (k.outlets o).trans (h.outlets o),
    fun m => Module.keptBy_trans (h.modules m) (k.modules m)⟩

theorem State.answers_recomputeLimit (s : State) (o : OutletId) : Answers s (s.recomputeLimit o) :=
  ⟨(s.actsAt_recomputeLimit o).common, s.kept_recomputeLimit o, fun m => by
    rw [State.group_recomputeLimit]; exact Module.keptBy_refl _⟩

theorem State.answers_recomputeLimits (s : State) : Answers s s.recomputeLimits :=
  ((s.answers_recomputeLimit .a).trans (State.answers_recomputeLimit _ .b)).trans (State.answers_recomputeLimit _ .c)

theorem State.answers_settleBudget (s : State) : Answers s s.settleBudget := by
  simp only [State.settleBudget]
  have h (b : Bool) : Answers s { s with budgetOver := b } :=
    ⟨rfl, fun _ => rfl, fun _ => Module.keptBy_refl _⟩
  split
  · exact (h false).trans (State.answers_recomputeLimits _)
  · exact h _

/-- The end of PREPARE (R11) and the close request it makes (R33). -/
theorem State.answers_endPrepare (s : State) (o : OutletId) : Answers s (s.endPrepare o) := by
  refine ⟨(s.actsAt_endPrepare o).common, fun q => ?_, fun m => ?_⟩
  · simp only [State.endPrepare]
    split
    · rw [State.requestSbClose]
      split
      · next h =>
        rw [State.outlet_modify_self] at h
        split
        · rw [State.modify_modify]; exact s.kept_modify o _ rfl q
        · rw [State.modify_modify]
          refine s.kept_modify o _ ?_ q
          simp only [Outlet.kept]
          rw [h]
          rfl
      all_goals (rw [State.modify_modify]; exact s.kept_modify o _ rfl q)
    · rfl
  · have e : (s.endPrepare o).module m = s.module m := by
      simp only [State.endPrepare]
      split
      · rw [State.requestSbClose]
        split
        · split <;> rfl
        all_goals rfl
      · rfl
    rw [e]
    exact Module.keptBy_refl _

/-! ### Grants (R55, R56) -/

/-- The modules taken for a request are free, and each is of the list once. -/
theorem State.take_spec {s : State} {ms : List (Fin 8)} {wanted : Nat} {taken : List (Fin 8)}
    (h : s.take ms wanted = some taken) : taken.Sublist ms ∧ ∀ m ∈ taken, (s.module m).isFree = true := by
  induction ms generalizing wanted taken with
  | nil =>
    simp only [State.take] at h
    split at h
    · cases h; exact ⟨List.Sublist.refl _, by simp⟩
    · cases h
  | cons m ms ih =>
    simp only [State.take] at h
    split at h
    · cases h; exact ⟨List.nil_sublist _, by simp⟩
    · split at h
      · next hf =>
        obtain ⟨l, hl, rfl⟩ := Option.map_eq_some_iff.1 h
        obtain ⟨h1, h2⟩ := ih hl
        refine ⟨h1.cons_cons m, fun k hk => ?_⟩
        rcases List.mem_cons.1 hk with rfl | hk
        · exact hf
        · exact h2 k hk
      · obtain ⟨h1, h2⟩ := ih h
        exact ⟨h1.cons m, h2⟩

/-- A granted request: its modules are free, their ratings reach what is wanted, and the claim fits the budget. -/
theorem State.grantable_spec {s : State} {r : Request} {ms : List (Fin 8)} (h : s.grantable r = some ms) :
    ms.Nodup ∧ (∀ m ∈ ms, (s.module m).isFree = true) ∧
      s.claimsWith r.outlet (min (s.admitted r.outlet) (s.committed r.outlet + s.ratings ms)) ≤ s.gridLimit := by
  simp only [State.grantable] at h
  split at h
  · cases h
  · next l hl =>
    split at h
    · next hc =>
      cases h
      obtain ⟨h1, h2⟩ := State.take_spec hl
      exact ⟨h1.nodup allModules_nodup, h2, hc⟩
    · cases h

/-- What the queue holds between events: at most one request of an outlet, and an initial one only for an outlet in
ADMITTED, which has no group. -/
def State.queued (s : State) : Prop :=
  (s.grants.map (·.outlet)).Nodup ∧
    ∀ r ∈ s.grants, r.kind = .initial → (s.outlet r.outlet).state = .admitted ∧ s.group r.outlet = []

/-- The shares of a stopped group are 0. -/
theorem State.module_computeShares_stopped (s : State) (o : OutletId) (h : (s.outlet o).reference.mode = .stopped)
    (m : Fin 8) : (s.computeShares o).module m =
      if (s.module m).group = some o then { s.module m with share := 0 } else s.module m := by
  simp only [State.computeShares, if_pos h]
  have := State.module_modifyModules s (s.group o) (fun x => { x with share := 0 }) m (s.group_nodup o)
  simp only [State.mem_group] at this
  exact this

/-- The modules at the entry to a state whose reference mode is STOPPED. -/
theorem State.module_enter_stopped (s : State) (o : OutletId) (st : OutletState) (h : modeOf st = .stopped)
    (hz : ∀ m, (s.module m).group = some o → (s.module m).share = 0) (m : Fin 8) :
    (s.enter o st).module m = s.module m := by
  have key (u : State) (hu : u.modules = s.modules) (hm : (u.outlet o).reference.mode = .stopped) :
      (u.computeShares o).module m = s.module m := by
    have e : u.module m = s.module m := by simp only [State.module, hu]
    rw [State.module_computeShares_stopped u o hm m, e]
    split
    · next hg =>
      have := hz m hg
      cases hm : s.module m
      simp_all
    · rfl
  unfold State.enter
  split
  · rfl
  · refine key _ rfl ?_
    rw [State.outlet_modify_self]
    simp [Outlet.selectMode, h, Reference.stop]

theorem State.answers_grant {s : State} {r : Request} {rest : List Request} {ms : List (Fin 8)}
    (hq : s.queued) (hg : s.grants = r :: rest) (h : s.grantable r = some ms) :
    Answers s (s.grant r rest ms) ∧ (s.grant r rest ms).queued := by
  obtain ⟨hnd, hfree, _⟩ := State.grantable_spec h
  generalize hu : ({ s with grants := rest } : State).modifyModules ms (·.grantTo r.outlet r.kind) = u
  have hum : u = { s with grants := rest, modules := u.modules } := by
    rw [← hu]; exact State.modifyModules_eq _ _ _
  have huo (q : OutletId) : u.outlet q = s.outlet q := by rw [hum]; rfl
  have humod (m : Fin 8) : u.module m = if m ∈ ms then (s.module m).grantTo r.outlet r.kind else s.module m := by
    rw [← hu, State.module_modifyModules _ _ _ _ hnd]; rfl
  have ha : Answers s u := by
    refine ⟨by rw [hum]; rfl, fun q => by rw [huo], fun m => ?_⟩
    rw [humod]
    split
    · next hm => simp [Module.keptBy, hfree m hm, Module.grantTo]
    · exact Module.keptBy_refl _
  have hnodup : r.outlet ∉ rest.map (·.outlet) ∧ (rest.map (·.outlet)).Nodup := by
    have := hq.1
    rw [hg] at this
    simpa using this
  have hgroup (q : OutletId) (hqr : q ≠ r.outlet) (he : s.group q = []) : u.group q = [] := by
    rw [List.eq_nil_iff_forall_not_mem] at he ⊢
    intro m hm
    rw [State.mem_group, humod] at hm
    split at hm
    · simp only [Module.grantTo, Option.some.injEq] at hm
      exact hqr hm.symm
    · exact he m ((State.mem_group _ _ _).2 hm)
  have hqu : u.queued := by
    refine ⟨by rw [hum]; exact hnodup.2, fun k hk hi => ?_⟩
    have hk : k ∈ rest := by rw [hum] at hk; exact hk
    have hne : k.outlet ≠ r.outlet := fun e => hnodup.1 (e ▸ List.mem_map_of_mem hk)
    obtain ⟨h1, h2⟩ := hq.2 k (by rw [hg]; exact List.mem_cons_of_mem _ hk) hi
    exact ⟨by rw [huo]; exact h1, hgroup _ hne h2⟩
  simp only [State.grant, hu]
  split
  · next hk =>
    obtain ⟨hst, hempty⟩ := hq.2 r (by rw [hg]; exact List.mem_cons_self ..) hk
    have hzero (m : Fin 8) (hm : (u.module m).group = some r.outlet) : (u.module m).share = 0 := by
      rw [humod] at hm ⊢
      split
      · rfl
      · next hx =>
        rw [if_neg hx] at hm
        have := (State.mem_group s _ _).2 hm
        rw [hempty] at this
        simp at this
    have hmod (m : Fin 8) : (u.startEnergising r.outlet).module m = u.module m :=
      u.module_enter_stopped r.outlet .energising rfl hzero m
    have hact : ActsAt r.outlet u (u.startEnergising r.outlet) :=
      (u.actsAt_enter r.outlet .energising).trans (State.actsAt_modify _ _ _)
    have hgr : (u.startEnergising r.outlet).grants = u.grants := by
      show (u.enter r.outlet .energising).grants = u.grants
      rw [(u.enter_frame r.outlet .energising).1]
    refine ⟨ha.trans ⟨hact.common, fun q => ?_, fun m => ?_⟩, ?_, fun k hk' hi => ?_⟩
    · by_cases hqr : q = r.outlet
      · subst hqr
        obtain ⟨_, _, _, e, _⟩ := u.enter_frame r.outlet .energising
        simp only [State.startEnergising, State.outlet_modify_self]
        rw [e]
        simp [Outlet.kept, huo, hst]
      · rw [hact.outlets q hqr]
    · rw [hmod]; exact Module.keptBy_refl _
    · rw [hgr]; exact hqu.1
    · rw [hgr] at hk'
      have hne : k.outlet ≠ r.outlet := by
        intro e
        have : k ∈ rest := by rw [hum] at hk'; exact hk'
        exact hnodup.1 (e ▸ List.mem_map_of_mem this)
      obtain ⟨h1, h2⟩ := hqu.2 k hk' hi
      refine ⟨by rw [hact.outlets _ hne]; exact h1, ?_⟩
      rw [List.eq_nil_iff_forall_not_mem] at h2 ⊢
      intro m hm
      rw [State.mem_group, hmod] at hm
      exact h2 m ((State.mem_group _ _ _).2 hm)
  · exact ⟨ha, hqu⟩

/-- The examination of the queue (R56). -/
theorem State.answers_examine (n : Nat) (s : State) (hq : s.queued) : Answers s (s.examine n) := by
  induction n generalizing s with
  | zero => exact .refl s
  | succ n ih =>
    simp only [State.examine]
    split
    · exact .refl s
    · next r rest hg =>
      split
      · exact .refl s
      · next ms hm =>
        obtain ⟨h1, h2⟩ := State.answers_grant hq hg hm
        exact h1.trans (ih _ h2)

theorem State.queued_recomputeLimit (s : State) (o : OutletId) (h : s.queued) : (s.recomputeLimit o).queued := by
  obtain ⟨e, hne, _, ⟨l, _, ho⟩, _⟩ := s.recomputeLimit_frame o
  have hg : (s.recomputeLimit o).grants = s.grants := by rw [e]
  have hgroup (q : OutletId) : (s.recomputeLimit o).group q = s.group q := by
    simp only [State.group, State.group_recomputeLimit]
  have hst (q : OutletId) : ((s.recomputeLimit o).outlet q).state = (s.outlet q).state := by
    by_cases hq : q = o
    · subst hq; rw [ho]
    · rw [hne q hq]
  refine ⟨by rw [hg]; exact h.1, fun r hr hi => ?_⟩
  rw [hg] at hr
  rw [hst, hgroup]
  exact h.2 r hr hi

theorem State.answers_reallocate (s : State) (h : s.queued) : Answers s s.reallocate := by
  have hq : s.recomputeLimits.queued :=
    State.queued_recomputeLimit _ .c (State.queued_recomputeLimit _ .b (s.queued_recomputeLimit .a h))
  exact (s.answers_recomputeLimits.trans (State.answers_examine _ _ hq)).trans (State.answers_settleBudget _)

/-- What an event settles where no session closes at it (R11, R52, R55, R56). -/
theorem State.answers_settle (s : State) (h : s.queued) (he : ∀ o, s.endsNow o = false) : Answers s s.settle := by
  simp only [State.settle, State.completeEnd_of_not (he _)]
  exact (((s.answers_reallocate h).trans (State.answers_endPrepare _ .a)).trans
    (State.answers_endPrepare _ .b)).trans (State.answers_endPrepare _ .c)

/-- The owners' reports move the levels, latches and counts alone (R193). -/
theorem State.answers_reportAll (s : State) : Answers s s.reportAll := by
  obtain ⟨e, _, _, hs, _⟩ := s.reportAll_spec
  generalize s.reportAll = t at e hs ⊢
  generalize t.status = u at e hs
  subst e
  refine ⟨?_, fun _ => rfl, fun _ => Module.keptBy_refl _⟩
  simp only [State.common, hs]

theorem State.answers_finish (s : State) (h : s.queued) (he : ∀ o, s.endsNow o = false) : Answers s s.finish := by
  unfold State.finish whenRunning
  split
  · exact (s.answers_settle h he).trans (State.answers_reportAll _)
  · exact .refl s

/-- An act at one outlet at which no session closes leaves the others, but for a grant, the limits and the end of a
PREPARE. -/
theorem ActsAt.leavesOthers {o : OutletId} {s t : State} (h : ActsAt o s t) (hq : t.queued)
    (he : ∀ q, t.endsNow q = false) : t.finish.leavesOthers s o = true := by
  have ha := t.answers_finish hq he
  simp only [State.leavesOthers, Bool.and_eq_true, List.all_eq_true, Bool.or_eq_true, beq_iff_eq]
  refine ⟨⟨fun q _ => ?_, fun m _ => ?_⟩, ha.common.trans h.common⟩
  · by_cases hqo : q = o
    · exact .inl hqo
    · exact .inr (by rw [ha.outlets, h.outlets q hqo])
  · by_cases hm : (s.module m).group = some o
    · exact .inl hm
    · exact .inr (by rw [← h.modules m hm]; exact ha.modules m)

end Sys2Proof.Machine
end

