-- ==== Sys2Proof/Laws/Breakers.lean ====
section
/-! SUPPORT. What the passing of time does, and what the breaker channels answer: that each answer keeps the form of
the tables of sections 2.3 and 2.4, and what a request leaves. -/

namespace Sys2Proof.Machine

/-! ### The passing of time -/

@[simp] theorem State.elapse_outlet (n : Nat) (s : State) (o : OutletId) :
    (s.elapse n).outlet o = (s.outlet o).elapse n := by cases o <;> rfl

@[simp] theorem State.elapse_module (n : Nat) (s : State) (m : Fin 8) :
    (s.elapse n).module m = (s.module m).elapse n := by
  simp [State.elapse, State.module]

@[simp] theorem Timer.isSome_elapse (n : Nat) (t : Timer) : (Timer.elapse n t).isSome = t.isSome := by
  cases t <;> rfl

@[simp] theorem Timer.isNone_elapse (n : Nat) (t : Timer) : (Timer.elapse n t).isNone = t.isNone := by
  cases t <;> rfl

theorem Timer.elapse_elapse (n k : Nat) (t : Timer) : Timer.elapse k (Timer.elapse n t) = Timer.elapse (n + k) t := by
  cases t with
  | none => rfl
  | some r => simp only [Timer.elapse, Option.map_some]; rw [Nat.sub_sub]

@[simp] theorem State.elapse_group (n : Nat) (s : State) (o : OutletId) : (s.elapse n).group o = s.group o := by
  simp [State.group, Module.elapse]

@[simp] theorem State.elapse_members (n : Nat) (s : State) (o : OutletId) (sts : List ModuleState) :
    (s.elapse n).members o sts = s.members o sts := by
  simp [State.members, Module.elapse]

@[simp] theorem State.elapse_ratings (n : Nat) (s : State) (ms : List (Fin 8)) :
    (s.elapse n).ratings ms = s.ratings ms := by
  simp [State.ratings, Module.elapse]

@[simp] theorem State.elapse_committed (n : Nat) (s : State) (o : OutletId) :
    (s.elapse n).committed o = s.committed o := by simp [State.committed]

@[simp] theorem State.elapse_groupCapacity (n : Nat) (s : State) (o : OutletId) :
    (s.elapse n).groupCapacity o = s.groupCapacity o := by simp [State.groupCapacity]

@[simp] theorem State.elapse_admitted (n : Nat) (s : State) (o : OutletId) :
    (s.elapse n).admitted o = s.admitted o := by
  simp only [State.admitted, State.elapse_outlet]
  rfl

@[simp] theorem State.elapse_claims (n : Nat) (s : State) : (s.elapse n).claims = s.claims := by
  simp [State.claims, State.claim]

@[simp] theorem State.elapse_newLimit (n : Nat) (s : State) (o : OutletId) :
    (s.elapse n).newLimit o = s.newLimit o := by
  simp only [State.newLimit, State.elapse_admitted, State.elapse_groupCapacity, State.elapse_outlet]
  rfl

@[simp] theorem State.elapse_blocking (n : Nat) (s : State) (o : OutletId) :
    (s.elapse n).blocking o = s.blocking o := by
  simp only [State.blocking, State.elapse_outlet]
  rfl

@[simp] theorem State.elapse_endsNow (n : Nat) (s : State) (o : OutletId) :
    (s.elapse n).endsNow o = s.endsNow o := by
  simp only [State.endsNow, State.elapse_outlet]
  rfl

@[simp] theorem State.elapse_closesNow (n : Nat) (s : State) (o : OutletId) :
    (s.elapse n).closesNow o = s.closesNow o := by
  simp only [State.closesNow, State.prepared, State.elapse_outlet, State.elapse_members, State.elapse_module]
  rfl

/-- Time moves no level of a condition. -/
theorem State.elapse_level (n : Nat) (s : State) : (s.elapse n).level = s.level := by
  funext g x
  cases g with
  | part =>
    cases x <;> first
      | rfl
      | (simp only [State.level, State.elapse]; rw [← Vector.any_toList, ← Vector.any_toList]; simp [Module.elapse,
          Function.comp_def])
  | outlet o =>
    cases x <;> simp only [State.level, State.elapse_outlet, State.elapse_admitted] <;>
      first
      | rfl
      | exact Timer.isSome_elapse _ _

@[simp] theorem Module.isFree_elapse (n : Nat) (m : Module) : (m.elapse n).isFree = m.isFree := by
  simp only [Module.isFree, Module.elapse, Timer.isNone_elapse]

@[simp] theorem State.elapse_take (n : Nat) (s : State) (ms : List (Fin 8)) (wanted : Nat) :
    (s.elapse n).take ms wanted = s.take ms wanted := by
  induction ms generalizing wanted with
  | nil => rfl
  | cons m ms ih =>
    simp only [State.take, ih, State.elapse_module, Module.isFree_elapse]
    rfl

/-- Whether a request can be granted does not depend on the wait that is left to it. -/
theorem State.grantable_elapse (n k : Nat) (s : State) (r : Request) :
    (s.elapse n).grantable { r with wait := k } = s.grantable r := by
  simp only [State.grantable, State.claimsWith, State.claim, State.elapse_take, State.elapse_admitted,
    State.elapse_committed, State.elapse_ratings, State.elapse_claims, State.elapse_gridLimit]
  cases s.take allModules r.wanted <;> rfl

/-- Time alone leaves a ready part ready: nothing that an event settles reads a time. -/
theorem State.ready_elapse (n : Nat) (s : State) : (s.elapse n).ready = s.ready := by
  have limits (o : OutletId) : ((s.elapse n).outlet o).limit = (s.outlet o).limit := by
    rw [State.elapse_outlet]
    rfl
  have waits : (s.elapse n).queueWaits = s.queueWaits := by
    unfold State.queueWaits
    cases h : s.grants with
    | nil => simp [State.elapse, h]
    | cons r rest =>
      have head : (s.elapse n).grants = { r with wait := r.wait - n } :: rest.map (fun r => { r with wait := r.wait - n }) := by
        simp [State.elapse, h]
      simp only [head, State.grantable_elapse]
  simp only [State.ready, State.settled, limits, waits, State.stated, State.elapse_level, State.elapse_endsNow,
    State.elapse_closesNow, State.elapse_newLimit, State.elapse_claims, State.elapse_phase, State.elapse_budgetOver,
    State.elapse_gridLimit, State.elapse_status]

/-- Time leaves the queue's requests in order. -/
theorem State.queued_elapse (n : Nat) (s : State) (h : s.queued) : (s.elapse n).queued := by
  refine ⟨?_, fun r hr hi => ?_⟩
  · simpa [State.elapse, Function.comp_def] using h.1
  · simp only [State.elapse, List.mem_map] at hr
    obtain ⟨k, hk, rfl⟩ := hr
    have := h.2 k hk hi
    rw [State.elapse_outlet, State.elapse_group]
    exact this

/-! ### The paralleling breaker (section 2.4) -/

theorem ParallelBreaker.wellFormed_elapse (n : Nat) (b : ParallelBreaker) :
    ({ b with closeTimer := Timer.elapse n b.closeTimer, tripTimer := Timer.elapse n b.tripTimer } :
      ParallelBreaker).wellFormed = b.wellFormed := by
  cases h : b.channel <;> simp [ParallelBreaker.wellFormed, h]

/-- A trip pulse keeps the form whatever it began from. -/
theorem ParallelBreaker.wellFormed_startTrip (b : ParallelBreaker) (afterClose : Bool)
    (h : b.stuckSet = true → b.feedback = true) : (b.startTrip afterClose).wellFormed = true := by
  simp only [ParallelBreaker.wellFormed, ParallelBreaker.startTrip, Option.isNone_none, Option.isSome_some,
    Bool.and_true, Bool.or_eq_true, Bool.not_eq_true']
  cases hs : b.stuckSet
  · exact .inl rfl
  · exact .inr (h hs)

theorem ParallelBreaker.stuck_of_wellFormed {b : ParallelBreaker} (h : b.wellFormed = true) :
    b.stuckSet = true → b.feedback = true := by
  simp only [ParallelBreaker.wellFormed, Bool.and_eq_true, Bool.or_eq_true, Bool.not_eq_true'] at h
  intro hs
  rcases h.1 with h | h
  · rw [hs] at h; cases h
  · exact h

theorem ParallelBreaker.wellFormed_requestTrip {b : ParallelBreaker} (h : b.wellFormed = true) :
    b.requestTrip.wellFormed = true := by
  unfold ParallelBreaker.requestTrip
  split
  · exact b.wellFormed_startTrip _ (stuck_of_wellFormed h)
  · exact b.wellFormed_startTrip _ (stuck_of_wellFormed h)
  · exact b.wellFormed_startTrip _ (stuck_of_wellFormed h)
  · exact h

theorem ParallelBreaker.wellFormed_cancelClose {b : ParallelBreaker} (h : b.wellFormed = true) :
    b.cancelClose.wellFormed = true := by
  unfold ParallelBreaker.cancelClose
  split
  · exact b.wellFormed_startTrip _ (stuck_of_wellFormed h)
  · exact h

theorem ParallelBreaker.wellFormed_openOnLoss {b : ParallelBreaker} (h : b.wellFormed = true) :
    b.openOnLoss.wellFormed = true := by
  unfold ParallelBreaker.openOnLoss
  split
  · exact b.wellFormed_startTrip _ (stuck_of_wellFormed h)
  · split
    · exact b.wellFormed_startTrip _ (stuck_of_wellFormed h)
    · exact h
  · exact b.wellFormed_startTrip _ (stuck_of_wellFormed h)
  · exact h

/-- A trip request leaves a trip pulse in progress, whatever the channel was (R39, R40). -/
theorem ParallelBreaker.requestTrip_channel (b : ParallelBreaker) : b.requestTrip.channel = .tripPulse := by
  unfold ParallelBreaker.requestTrip
  split
  · rfl
  · rfl
  · rfl
  · next h => exact h

/-- After the unit's own opening no close pulse runs (R30, R38). -/
theorem ParallelBreaker.openOnLoss_channel (b : ParallelBreaker) : b.openOnLoss.channel ≠ .closePulse := by
  unfold ParallelBreaker.openOnLoss
  split
  · simp [ParallelBreaker.startTrip]
  · split
    · simp [ParallelBreaker.startTrip]
    · next h _ => simp [h]
  · simp [ParallelBreaker.startTrip]
  · next h => simp [h]

theorem ParallelBreaker.cancelClose_channel (b : ParallelBreaker) : b.cancelClose.channel ≠ .closePulse := by
  unfold ParallelBreaker.cancelClose
  split
  · simp [ParallelBreaker.startTrip]
  · next h => exact h

/-! ### The shore breaker (section 2.3) -/

theorem ShoreBreaker.wellFormed_elapse (n : Nat) (b : ShoreBreaker) :
    ({ b with closeTimer := Timer.elapse n b.closeTimer, openTimer := Timer.elapse n b.openTimer } :
      ShoreBreaker).wellFormed = b.wellFormed := by
  cases h : b.channel <;> simp [ShoreBreaker.wellFormed, h]

theorem ShoreBreaker.wellFormed_requestOpen {b : ShoreBreaker} (h : b.wellFormed = true) :
    b.requestOpen.wellFormed = true := by
  unfold ShoreBreaker.requestOpen
  split <;> simp_all [ShoreBreaker.wellFormed]

/-- After an open request no close command stands (R35). -/
theorem ShoreBreaker.requestOpen_channel (b : ShoreBreaker) :
    b.requestOpen.channel ≠ .closing ∧ b.requestOpen.channel ≠ .closed := by
  unfold ShoreBreaker.requestOpen
  split
  · simp
  · simp
  · next h1 h2 => exact ⟨h1, h2⟩

/-! ### The lock (R31) -/

/-- No input holds the lock exactly when every input is made. -/
theorem State.blocking_none (s : State) (o : OutletId) :
    s.blocking o = none ↔ (s.outlet o).interlocks.plug = true ∧ (s.outlet o).interlocks.pilot = true ∧
      (s.outlet o).interlocks.earth = true ∧ (s.outlet o).interlocks.estop = true ∧ s.estopAllMade = true := by
  simp only [State.blocking]
  cases (s.outlet o).interlocks.plug <;> cases (s.outlet o).interlocks.pilot <;>
    cases (s.outlet o).interlocks.earth <;> cases (s.outlet o).interlocks.estop <;> cases s.estopAllMade <;> simp

/-- A close pulse is granted exactly where the five conditions of R37 hold. -/
theorem State.pbRefusal_none (s : State) (o : OutletId) :
    s.pbRefusal o = none ↔ (s.outlet o).pb.channel = .idle ∧ s.blocking o = none ∧
      (s.outlet o).sb.channel = .closed ∧ (s.outlet o).pb.feedback = false := by
  simp only [State.pbRefusal]
  split
  · next h => simp [h]
  · next h =>
    have h : (s.outlet o).pb.channel = .idle := by simpa using h
    cases hb : s.blocking o
    · dsimp only
      split
      · next k => simp [k]
      · next k =>
        have k : (s.outlet o).sb.channel = .closed := by simpa using k
        cases hf : (s.outlet o).pb.feedback <;> simp [h, k]
    · simp

/-- A close request under the lock asserts nothing; free of it and from OPENED it asserts the close command (R31,
R33). -/
theorem State.requestSbClose_spec (s : State) (o : OutletId) :
    let y := (s.requestSbClose o).outlet o
    y = { s.outlet o with sb := y.sb, closeWanted := y.closeWanted } ∧
      ((s.outlet o).sb.channel = .opened → s.blocking o = none →
        y.sb = { (s.outlet o).sb with channel := .closing, closeTimer := some sbCloseTime }) ∧
      ((s.outlet o).sb.channel = .opened → s.blocking o ≠ none → y.sb = (s.outlet o).sb) ∧
      ((s.outlet o).sb.channel ≠ .opened → y.sb = (s.outlet o).sb) := by
  unfold State.requestSbClose
  cases h : (s.outlet o).sb.channel
  case opened =>
    cases hb : s.blocking o <;> simp
  all_goals simp

end Sys2Proof.Machine
end

