-- ==== Sys2Proof/Laws/LinkTest.lean ====
section
/-! SUPPORT. What a LINKTEST and its result can do (R129): the bound of the test, and that its end touches the outlet's
link and the reply alone. -/

namespace Sys2Proof.Machine

@[simp] theorem ShipLink.testing_of_none {l : ShipLink} (h : l.testAge = none) : l.testing = false := by
  simp [ShipLink.testing, h]

@[simp] theorem ShipLink.testing_of_some {l : ShipLink} {n : Nat} (h : l.testAge = some n) : l.testing = true := by
  simp [ShipLink.testing, h]

/-- The passing of time ages a test and ends none. -/
@[simp] theorem Outlet.testAge_elapse (n : Nat) (x : Outlet) :
    (x.elapse n).link.testAge = x.link.testAge.map (· + n) := rfl

@[simp] theorem Outlet.testing_elapse (n : Nat) (x : Outlet) : (x.elapse n).link.testing = x.link.testing := by
  simp [ShipLink.testing]

/-- Characters that come back as they were sent leave the verdict to those that follow. -/
theorem judgeTest_after (good sent : List Byte) (returned : List Received) :
    judgeTest (good.map (fun b => { byte := b, framingError := false }) ++ returned) (good ++ sent) =
      judgeTest returned sent := by
  induction good with
  | nil => rfl
  | cons b bs ih => simpa [judgeTest] using ih

/-- And each of them is one more character that decides it. -/
theorem decidingCharacters_after (good sent : List Byte) (returned : List Received) :
    decidingCharacters (good.map (fun b => { byte := b, framingError := false }) ++ returned) (good ++ sent) =
      decidingCharacters returned sent + good.length := by
  induction good with
  | nil => rfl
  | cons b bs ih => simp [decidingCharacters, ih]; omega

/-- No more characters decide a test than were sent. -/
theorem decidingCharacters_le : ∀ (returned : List Received) (sent : List Byte),
    decidingCharacters returned sent ≤ sent.length
  | [], _ => by simp [decidingCharacters]
  | _ :: _, [] => by simp [decidingCharacters]
  | r :: rs, b :: bs => by
    have ih := decidingCharacters_le rs bs
    simp only [decidingCharacters, List.length_cons]
    split <;> omega

/-- A test lasts its bound at most: a result that is not NO_ECHO can fall within it. -/
theorem testTime_le (returned : List Received) : testTime returned ≤ testLimit := by
  have h := decidingCharacters_le returned testFrame
  have sent : testFrame.length = 64 := by decide +kernel
  have bound : testLimit = 480000 := rfl
  unfold testTime
  split
  · exact Nat.le_refl _
  · simp only [characterTime, stopSample]
    omega

/-- A test whose characters all came back ends at the stop bit of the last of them. -/
theorem testTime_sent :
    testTime (testFrame.map fun b => { byte := b, framingError := false }) = 159875 := by decide +kernel

/-- PASS only within the bound (R129). -/
theorem testResult_pass_iff (age : Nat) (returned : List Received) :
    testResult age returned = .pass ↔ age ≤ testLimit ∧ judgeTest returned testFrame = .pass := by
  unfold testResult
  split <;> simp <;> omega

/-- The end of a test touches the outlet's link and the terminal alone, and of the link what R129 names. -/
theorem State.endTest_spec (s : State) (o : OutletId) (result : TestResult) :
    ∃ l, s.endTest o result =
        { s.modifyLink o (fun _ => l) with terminal := (s.endTest o result).terminal } ∧
      ({ (s.outlet o).link with
        testAge := none, lastTest := some result, assembling := none, gapTimer := none }).sentAs l ∧
      l.counts = (s.outlet o).link.counts := by
  obtain ⟨l, e, sent, counts⟩ := (s.modifyLink o fun l => { l with
    testAge := none, lastTest := some result, assembling := none, gapTimer := none }).startSending_spec o
  rw [State.modifyLink_modifyLink] at e
  rw [State.link_modifyLink] at sent counts
  refine ⟨l, ?_, sent, counts⟩
  simp only [State.endTest, e]
  split <;> rfl

end Sys2Proof.Machine
end

