-- ==== Sys2Proof/Laws/Measurement.lean ====
section
/-! SUPPORT. What the expiry of a loss timer leaves of a channel (R90), field by field. -/

namespace Sys2Proof.Machine

@[simp] theorem Channel.lose_armed (c : Channel) (b : Bool) : (c.lose b).armed = c.armed := rfl
@[simp] theorem Channel.lose_previous (c : Channel) (b : Bool) : (c.lose b).previous = c.previous := rfl
@[simp] theorem Channel.lose_lastCrossing (c : Channel) (b : Bool) : (c.lose b).lastCrossing = none := rfl
@[simp] theorem Channel.lose_lossTimer (c : Channel) (b : Bool) : (c.lose b).lossTimer = some lossTime := rfl
@[simp] theorem Channel.lose_sums (c : Channel) (b : Bool) : (c.lose b).sums = CycleSums.zero := rfl
@[simp] theorem Channel.lose_candidate_before (c : Channel) : (c.lose true).candidate = c.candidate := rfl
@[simp] theorem Channel.lose_candidate_after (c : Channel) : (c.lose false).candidate = none := rfl
@[simp] theorem Channel.lose_record (c : Channel) (b : Bool) :
    (c.lose b).record = { c.record with crossing := none, validity := c.record.validity.onInvalid } := rfl

/-- After a time has passed, the set of the instant is still to come where it fell due within that time. -/
@[simp] theorem State.setToCome_elapse (n : Nat) (s : State) :
    (s.elapse n).setToCome = decide (s.due.sample ≤ n) := by
  simp [State.setToCome, State.elapse, beq_eq_decide, Nat.sub_eq_zero_iff_le]

end Sys2Proof.Machine
end

