-- ==== Sys2Proof/Laws/Power.lean ====
section
/-! SUPPORT. What a reset, the beginning and the end of start-up do to the parts of the state, and which trips
command both breakers. -/

namespace Sys2Proof.Machine

/-! ### Start-up -/

@[simp] theorem State.beginStartUp_module (s : State) (m : Fin 8) :
    s.beginStartUp.module m = { s.module m with message := some stopMessage } := by
  simp [State.beginStartUp, State.module]

@[simp] theorem State.beginStartUp_outlet (s : State) (o : OutletId) : s.beginStartUp.outlet o = s.outlet o := rfl
@[simp] theorem State.beginStartUp_phase (s : State) : s.beginStartUp.phase = .startingUp := rfl

@[simp] theorem State.startPolling_module (s : State) (m : Fin 8) :
    s.startPolling.module m = { s.module m with command := none } := by
  simp [State.startPolling, State.module]

@[simp] theorem State.startPolling_outlet (s : State) (o : OutletId) : s.startPolling.outlet o = s.outlet o := rfl
@[simp] theorem State.startPolling_phase (s : State) : s.startPolling.phase = s.phase := rfl

/-! ### Values after a reset -/

@[simp] theorem State.afterReset_phase (s : State) (p : Phase) : (s.afterReset p).phase = p := rfl
@[simp] theorem State.afterReset_pending (s : State) (p : Phase) : (s.afterReset p).pending = s.pending := rfl
@[simp] theorem State.afterReset_status (s : State) (p : Phase) : (s.afterReset p).status = StatusUnit.reset := rfl
@[simp] theorem State.afterReset_terminal (s : State) (p : Phase) : (s.afterReset p).terminal = Terminal.reset := rfl

@[simp] theorem State.afterReset_outlet (s : State) (p : Phase) (o : OutletId) :
    (s.afterReset p).outlet o = (s.outlet o).afterReset := by cases o <;> rfl

@[simp] theorem State.afterReset_module (s : State) (p : Phase) (m : Fin 8) :
    (s.afterReset p).module m = (s.module m).afterReset (p == .startingUp) := by
  simp [State.afterReset, State.module]

/-- STOP goes to every module exactly where the reset begins start-up (R66). -/
theorem State.afterReset_message (s : State) (p : Phase) (m : Fin 8) :
    ((s.afterReset p).module m).message = if p = .startingUp then some stopMessage else none := by
  cases p <;> simp [Module.afterReset]

/-- A reset keeps the retained store (R5, R43). -/
theorem State.afterReset_retained (s : State) (p : Phase) : (s.afterReset p).retained = s.retained := by
  simp [State.retained, State.afterReset, Outlet.afterReset, Meter.afterReset, Module.afterReset,
    Function.comp_def]

/-! ### Trips -/

/-- The causes at which the outlet controller commands the breakers itself (R15, log entry 13): every other cause
is one at which the unit has acted on both. -/
theorem TripCause.commandsBoth_iff (c : TripCause) :
    c.commandsBoth = true ↔ c.byController = true ∨ c = .sbFail := by
  simp [TripCause.commandsBoth]

end Sys2Proof.Machine
end

