-- ==== Sys2Proof/Machine/Replies.lean ====
section
/-! DEFINITION. The reply line as text (R177, R187, R188): how the interpreter writes a reply on the line. -/

namespace Sys2Proof.Machine

/-- A number padded with leading zeros to a width (R177). -/
def padded (width n : Nat) : String :=
  let digits := Nat.toDigits 10 n
  String.ofList (List.replicate (width - digits.length) '0' ++ digits)

/-- A whole number; a negative one with a minus sign (R188). -/
def signed (n : Int) : String := if n < 0 then "-" ++ decimal n.natAbs else decimal n.natAbs

/-- A clock reading as 14 digits, YYYYMMDDhhmmss. -/
def Clock.text (c : Clock) : String :=
  padded 4 c.year ++ padded 2 c.month ++ padded 2 c.day ++ padded 2 c.hour ++ padded 2 c.minute ++
    padded 2 c.second

/-- Members joined by a separator, NONE when there are none. -/
def joined (separator : String) : List String → String
  | [] => "NONE"
  | [s] => s
  | s :: rest => s ++ separator ++ joined separator rest

/-- A value of a pair (R188). -/
def Value.write : Value → String
  | .number n => signed n
  | .reading c => c.text
  | .name s => s
  | .names l => joined "+" l
  | .numbers l => joined "," (l.map signed)
  | .list l => joined "," l
  | .text t => "\"" ++ String.ofList t ++ "\""
  | .none => "NONE"

/-- The pairs of a reply, each after a space. -/
def pairsText (pairs : List (String × Value)) : String :=
  pairs.foldl (fun acc p => acc ++ " " ++ p.1 ++ "=" ++ p.2.write) ""

/-- The flags field of the LOG READ record: a letter where the flag is present, a hyphen where it is absent. -/
def flagsText (flags : List IntervalFlag) : String :=
  String.ofList (IntervalFlag.all.map fun f => if flags.contains f then f.letter else '-')

/-- The record reply of LOG READ: fixed fields separated by single spaces (R177). A Wh figure beyond its 11 digits
is written in full, so that line is longer than the table's (DESIGN CHOICE, log entry 59). -/
def LogRecord.text (r : LogRecord) : String :=
  let start := match r.start with
    | some c => c.text
    | none => "--------------"
  "OK " ++ padded 10 r.sequence ++ " " ++ padded 10 r.session ++ " " ++ r.outlet.letter ++ " " ++ start ++
    " " ++ padded 9 r.duration ++ " " ++ padded 11 r.importWh.b0 ++ " " ++ padded 11 r.importWh.b1 ++ " " ++
    padded 11 r.importWh.b2 ++ " " ++ padded 11 r.importWh.b3 ++ " " ++ padded 11 r.exportWh ++ " " ++
    padded 5 r.mergedCount ++ " " ++ flagsText r.flags

/-- The words of a reply line (R187). -/
def Reply.text : Reply → String
  | .ok "" pairs => "OK" ++ pairsText pairs
  | .ok word pairs => "OK " ++ word ++ pairsText pairs
  | .clamped pairs => "OK CLAMPED" ++ pairsText pairs
  | .no code text => "NO " ++ decimal code ++ " " ++ text
  | .record r => r.text

/-- A reply line as it is sent: its words, a carriage return and a line feed (R183). -/
def Reply.line (r : Reply) : String := r.text ++ "\r\n"

/-- What the interpreter is sending: the line of the reply in transmission (R183, R184). -/
def Terminal.transmitted (t : Terminal) : Option String := t.reply.map Reply.line

end Sys2Proof.Machine
end

