-- ==== Sys2Proof/Tests/Slice0.lean ====
section
/-! SUPPORT. Tests: ill-formed commands refused, worked examples of the manual, and for every statement with
hypotheses a state that meets them. -/

open Sys2Proof Sys2Proof.Machine

namespace Sys2Proof.Tests

set_option Elab.async false

/-! ### Small states -/

/-- The part just started up on a blank retained store. -/
def started : State := State.reset.startUp

/-- A session of outlet A for one module's rating. -/
def someSession : Session :=
  { number := 1, outlet := .a, vessel := none, account := none, profileNumber := 0, snapshot := Profile.default
    admitted := 2500, startTime := none, endTime := none, endCause := none, importWh := Bands.zero, exportWh := 0
    merged := Merged.none, charge := Bands.zero, peak := 0, peakStart := none, quality := [], closeAttempts := 0
    tripCount := 0, lastTrip := none, totalCharge := none }

def allMade : Interlocks := { plug := true, pilot := true, earth := true, estop := true }

/-- The breakers and the check of an outlet in a state, as the part reaches them. -/
def breakersFor (st : OutletState) (x : Outlet) : Outlet :=
  { x with
    sb := if st.within .cableLive .separating then { x.sb with feedback := true, channel := .closed }
      else if st = .deEnergising then
        { x.sb with feedback := true, channel := .opening, openTimer := some 9600 }
      else x.sb
    pb := if st.isTransfer then { x.pb with feedback := true }
      else if st = .separating then { x.pb with feedback := true, channel := .tripPulse, tripTimer := some 9600 }
      else x.pb
    check := if st = .synchronising then { x.check with state := .evaluating, syncTimer := some 9600 } else x.check }

/-- The part with outlet A in a state, its interlocks made, its session open where the state has one, its group a
member, and one further update of the outlet. -/
def berthWith (s : State) (st : OutletState) (f : Outlet → Outlet) : State :=
  let open' : Option Session := if st.inSession then some someSession else none
  let x : Outlet := { s.outlet .a with
    state := st
    interlocks := if st = .vacant then Interlocks.reset else allMade
    phase := if st = .energising then some .prepare else none
    session := open'
    limit := if st.within .cableLive .separating then 2500 else 0
    endCause := if st = .deEnergising then some .ended else none }
  let s := { s with estopAllMade := true, gridLimit := 20000 }
  let s := s.modify .a fun _ => f (breakersFor st x)
  let m : Module := { s.module 0 with
    state := if st = .energising then .precharging else .running
    group := some .a
    rest := none
    answering := true
    precharge := if st = .energising then some 9600 else none }
  let s := if st.within .energising .separating then s.modifyModule 0 fun _ => m else s
  s.finish

def berth (st : OutletState) (f : Outlet → Outlet) : State := berthWith started st f

/-- What most statements ask of a state. -/
def fits (s : State) : Bool := s.ready && s.sound && s.accounts

/-! ### Ill-formed commands, which the check of WellFormed refuses -/

theorem test_ill_formed_frame_length :
    (Instr.frameComplete .a { length := 0, type := 3, payload := [], crc := 0 }).wellFormed = false := by decide

theorem test_ill_formed_frame_count :
    (Instr.frameComplete .a { length := 2, type := 3, payload := [], crc := 0 }).wellFormed = false := by decide

theorem test_ill_formed_terminator :
    (Instr.tlCharacter { byte := 0x0D, framingError := false }).wellFormed = false := by decide

theorem test_ill_formed_fault_code : (Instr.moduleFault 0 0).wellFormed = false := by decide

theorem test_ill_formed_test_result :
    (Instr.linkTestResult .a (List.replicate 65 { byte := 0, framingError := false })).wellFormed = false := by
  decide +kernel

theorem test_well_formed_bounds :
    (Instr.frameComplete .a { length := 60, type := 3, payload := List.replicate 59 0, crc := 0 }).wellFormed &&
      (Instr.tlCharacter { byte := 0x0D, framingError := true }).wellFormed &&
      (Instr.linkTestResult .a (List.replicate 64 { byte := 0, framingError := false })).wellFormed = true := by
  decide +kernel

theorem test_ill_formed_faults : exec (.moduleFault 0 0) started = .fault .notAnEvent := rfl

/-! ### Worked examples of the manual -/

/-- R118: the check of the characters 1 to 9 is 29B1h. -/
theorem test_crc : crc16 [0x31, 0x32, 0x33, 0x34, 0x35, 0x36, 0x37, 0x38, 0x39] = 0x29B1 := by decide +kernel

/-- R87: a period of 160,000 ticks is 60,000 mHz, of 160,160 ticks 59,940 mHz. -/
theorem test_frequency : frequencyOf 160000 = 60000 ∧ frequencyOf 160160 = 59940 ∧ frequencyOf 192000 = 50000 := by
  decide +kernel

/-- R100: one cable period at its own frequency is one turn; half a turn is −18,000. -/
theorem test_turn : syncAngle 160000 60000 = 0 ∧ syncAngle 80000 60000 = -18000 := by decide +kernel

def exampleRecord (f t v : Nat) : CycleRecord :=
  { frequency := f, period := t, rms := v, crossing := none, valueTime := none, validity := .valid }

/-- The example of section 6.4 at its second crossing. -/
theorem test_close_figures :
    figuresOf { Profile.default with closeTime := 120 } (exampleRecord 59940 160160 6600)
        (exampleRecord 60000 160000 6650) 158698 0 =
      { slip := 60, theta := -293, alpha := 259, delta := 36, phi := -34, dV := 8, time := 158698 } := by
  decide +kernel

/-- The example of section 6.4: WAIT at the first crossing, CLOSE at the next. -/
theorem test_close_results :
    let p := { Profile.default with closeTime := 120 }
    let at' (t : Timestamp) :=
      judge p true true (figuresOf p (exampleRecord 59940 160160 6600) (exampleRecord 60000 160000 6650) t 0)
    at' 158538 = .wait ∧ at' 158698 = .close := by decide +kernel

/-- Section 4.2: the word of 60,000 mHz; section 4.9: the word of 59,961 mHz. -/
theorem test_words : wordOf 60000 = 104858 ∧ wordOf 59963 = 104793 := by decide +kernel

/-- The share drain of chapter 4: steps 1, 100, 199 and 200 of a release share of 333. -/
theorem test_drain : [1, 100, 199, 200].map (drainShare 333) = [331, 167, 2, 0] := by decide +kernel

/-- The first interval of section 9.7: demand 8,438 kW. -/
theorem test_demand :
    Interval.demand { start := none, length := 15, ticks := 9000, importWh := { Bands.zero with b0 := 2109375 }
                      exportWh := 0, flags := [] } = 8438 := by decide +kernel

/-- The line of R177: 126 characters, and the flags of its example. -/
theorem test_record_line :
    (LogRecord.text { sequence := 1, session := 1, outlet := .a, start := none, duration := 0, importWh := Bands.zero
                      exportWh := 0, mergedCount := 2, flags := [.short, .final, .merged] }).length = 126 ∧
      flagsText [.short, .final, .merged] = "SF-----M" := by decide +kernel

/-- The lines of section 11.3's examples. -/
theorem test_admit_lines :
    readLine "ADMIT B 7200 ACC-0071".toList =
        .ok (.admitVessel (some .b) none 7200 none (some "ACC-0071".toList)) ∧
      readLine "ADMIT B 3 7200 NORDVIK -".toList =
        .ok (.admitVessel (some .b) (some 3) 7200 (some "NORDVIK".toList) none) ∧
      readLine "ADMIT A 7200 \"4410\"".toList =
        .ok (.admitVessel (some .a) none 7200 none (some "4410".toList)) := by decide +kernel


def all (l : List Bool) : Bool := l.all fun b => b

/-- R185: a listed word with a wrong number of arguments is a syntax error. -/
theorem test_profile_words :
    all (["PROFILE 3 DEFAULT VTOL 10", "PROFILE 3 ? VTOL 10"].map fun t =>
      match readLine t.toList with
      | .error e => e == 100
      | .ok _ => false) = true := by decide +kernel

/-- A reply line ends with a carriage return and a line feed (R183). -/
theorem test_reply_line :
    ({ Terminal.reset with reply := some (.no 100 "SYNTAX") } : Terminal).transmitted =
      some (String.ofList ("NO 100 SYNTAX".toList ++ ['\r', '\n'])) := by decide +kernel

/-! ### States that meet the hypotheses of the statements

One theorem for each statement, a clause at a time, at the ends of a range where a clause has one. -/

theorem witness_StepRunsFrontCommand :
    ({ started with pending := [.cls] } : State).pending = .cls :: [] ∧ started.pending = [] ∧
      ∃ t, exec .cls started = .next t := ⟨rfl, rfl, _, rfl⟩

theorem witness_CommandsComplete :
    (Instr.cls.wellFormed && !(Instr.moduleFault 0 0).wellFormed && State.reset.phase != .running &&
      !Instr.cls.isPowerRow && State.reset.phase == .startingUp && State.reset.atRest && !Instr.cls.isReceiverRow &&
      Instr.isReceiverRow (.lineBreak .a)) = true := by decide +kernel

theorem witness_PowerRowsKeepRetainedStore :
    all [({ started with phase := .off } : State).phase == .off, started.phase != .off,
      ({ State.reset with phase := .inReset } : State).phase == .inReset, State.reset.phase != .inReset,
      started.ready] = true := by decide +kernel

/-- A session left open on the retained store. -/
def leftOpen : State := State.reset.modify .a fun x => { x with session := some someSession }

theorem witness_StartUpClosesOpenSessions :
    all [State.reset.phase == .startingUp, State.reset.atRest, State.reset.restart == .cold,
      allOutlets.all fun o => (State.reset.outlet o).session.isNone,
      leftOpen.phase == .startingUp, leftOpen.atRest, leftOpen.accounts, (leftOpen.outlet .a).session.isSome] = true := by
  decide +kernel

/-- The started part with its terminal link changed. -/
def terminalWith (t : Terminal) : State := { started with terminal := t }

def someLine : Line := { chars := "CLS".toList, bad := false, tooLong := false }

def longLine (n : Nat) : Terminal := { Terminal.reset with line := { Line.empty with chars := List.replicate n 'A' } }

theorem witness_TerminalLinkTakesLines :
    all [started.ready, !(Received.mk 0x1F#8 false).isTerminator, !(Received.mk 0x20#8 false).isTerminator,
      !(Received.mk 0x7E#8 false).isTerminator, !(Received.mk 0x7F#8 false).isTerminator,
      !(Received.mk 0x0D#8 true).isTerminator,
      (terminalWith (longLine 127)).ready, (terminalWith (longLine 128)).ready,
      Line.empty.isBlank, !someLine.isBlank,
      (terminalWith { Terminal.reset with line := someLine, queue := List.replicate 4 someLine }).ready,
      (terminalWith { Terminal.reset with line := someLine, reply := some (.ok "" []) }).ready,
      ({ Terminal.reset with reply := some (.ok "" []) } : Terminal).isBusy, !Terminal.reset.isBusy,
      (terminalWith { Terminal.reset with reply := some (.ok "" []), awaiting := some .a }).ready,
      (terminalWith { Terminal.reset with reply := some (.ok "" []), queue := [someLine] }).ready] = true := by
  decide +kernel

theorem witness_TakenLineRunsItsOrder :
    started.ready = true ∧ readLine "CLS".toList = .ok .cls ∧ readLine "CLS 1".toList = .error 100 ∧
      readLine "FOO".toList = .error 110 := by decide +kernel

/-- The started part with errors queued. -/
def withErrors (n : Nat) : State :=
  { started with status := { started.status with errors := List.replicate n (100, "SYNTAX") } }.finish

theorem witness_RefusalEntersErrorQueue :
    all [started.ready, (withErrors 15).ready, (withErrors 16).ready] = true := by decide +kernel

theorem witness_ReportsFollowFilters :
    all [(started.status.get .part).conditions.contains .clockUnset,
      !(started.status.get .part).conditions.contains .gridOver, Group.part.conditions.contains .gridOver,
      started.status.filterOf .gridOver == .rise, Group.part.items.contains .tariffSwitched] = true := by
  decide +kernel

/-- The started part with `n` records in its log, the last at the tail, and `k` closed sessions waiting. -/
def logged (records : Nat) (k : Nat) : State :=
  let record (n : Nat) : LogRecord :=
    { sequence := n + 1, session := 1, outlet := .a, start := none, duration := 0, importWh := Bands.zero
      exportWh := 0, mergedCount := 0, flags := [] }
  ({ started with log := { started.log with
      records := (List.range records).map record, next := some (records + 1)
      window := some { first := 1, last := records, pointer := 1 }
      closed := List.replicate k someSession } } : State).finish

theorem witness_BadOrdersRefused :
    all [started.ready, (berth .shoreSupply id).ready, (berth .shoreSupply id).isLastModule 0,
      ((berth .shoreSupply id).module 0).state.isMember, ((berth .shoreSupply id).module 0).state != .releasing,
      (started.module 0).state == .off, started.log.records == [], started.log.window.isNone,
      started.log.closed == [], (logged 2 0).ready, (logged 2 0).log.oldest == some 1,
      (logged 2 0).log.newest == some 2, min 2 4294967295 < max 1 3,
      ((berth .shoreSupply id).outlet .a).state.supplied,
      (berth .shoreSupply id).admitted .a < 60000, !textAllowed 16 (some (List.replicate 17 'A')),
      textAllowed 16 (some (List.replicate 16 'A'))] = true ∧
    (let s := { berth .shoreSupply id with gridLimit := 2499 }.finish
     s.ready && decide (s.admitted .a < 2501) &&
       decide (s.gridLimit < s.claims - s.claim .a + min 2501 (s.committed .a))) = true := by decide +kernel

/-- An outlet that holds a closed session. -/
def holding : HeldRecord :=
  { session := { someSession with endCause := some .ended }
    final := { start := none, duration := 0, importWh := Bands.zero, exportWh := 0, flags := [] } }

def heldBerth (s : State) : State := berthWith s .held fun x => { x with held := some holding }

def foreignShip : Announcement := { vessel := [], profile := 0, kW := 1, voltage := 6600, frequency := 50000 }

theorem witness_WrongStateRefused :
    all ((([.vacant, .cabled, .announced, .transferIn, .shoreSupply, .transferOut, .separating, .deEnergising,
        .admitted, .tripped] : List OutletState).map fun st =>
        (berth st id).ready && ((berth st id).outlet .a).state == st) ++
      [(heldBerth started).ready, ((heldBerth started).outlet .a).state == .held,
        !(berth .tripped fun x => { x with interlocks := Interlocks.reset }).interlocksGood .a,
        (berth .tripped fun x => { x with interlocks := Interlocks.reset }).ready,
        (berth .cabled id).interlocksGood .a, textAllowed 16 none, textAllowed 12 none,
        (berth .announced fun x => { x with announcement := some foreignShip }).ready,
        (berth .announced fun x => { x with announcement := some foreignShip }).interlocksGood .a,
        ((berth .cabled id).outlet .a).profileSuits Profile.default,
        ({ berth .cabled id with sessionCounter := 4294967295 } : State).ready]) = true := by decide +kernel

def someClock : Clock := { year := 2025, month := 1, day := 1, hour := 0, minute := 0, second := 0, tenth := 0 }

/-- The started part with its clock set. -/
def clocked : State := ({ started with clock := some someClock } : State).finish

theorem witness_QueriesChangeOnlyReply :
    all [started.ready, started.clock.isNone, clocked.ready, clocked.clock.isSome, started.pendingTariff.isNone,
      ({ started with pendingTariff := some { table := Tariff.blank, ready := false } } : State).ready,
      ((berth .admitted id).outlet .a).reported.isSome, (logged 0 1).ready, (logged 0 1).log.closed != []] = true := by
  decide +kernel

theorem witness_AdmitAndResumeRequestCapacity :
    all [fits (berth .cabled id), fits (berth .announced id), (berth .cabled id).interlocksGood .a,
      ({ berth .cabled id with sessionCounter := 4294967294 } : State).ready,
      ({ berth .cabled id with sessionCounter := 4294967294 } : State).sound,
      ((berth .cabled id).outlet .a).session.isNone, ((berth .cabled id).outlet .a).profileSuits Profile.default,
      fits (berth .tripped id), (berth .tripped id).interlocksGood .a,
      ((berth .tripped id).outlet .a).session.isSome] = true := by decide +kernel

/-- A running reference. -/
def inMode (m : Mode) (x : Outlet) : Outlet :=
  { x with reference := { x.reference with
      mode := m, setFreq := 60000, word := 104858, freqTarget := 60000, setVolt := 6600, voltTarget := 6600 } }

/-- The reference of an outlet as its state has it. -/
def referenced (st : OutletState) (x : Outlet) : Outlet := if st.within .cableLive .separating then inMode .island x else x

theorem witness_EndOrdersDeEnergise :
    all (([.admitted, .energising, .cableLive, .synchronising, .transferIn, .shoreSupply, .transferOut, .separating,
        .deEnergising, .tripped] : List OutletState).map fun st =>
      let s := berth st (referenced st)
      fits s && s.referencesSound && (s.outlet .a).session.isSome && (s.outlet .a).state == st) = true := by
  decide +kernel

/-- A link that is UP with a number of frames in its queue, the first in transmission. -/
def linkUp (n : Nat) (x : Outlet) : Outlet :=
  { x with link := { x.link with
      up := true, queue := List.replicate n .returnDemand, sending := n != 0, watchdog := some 9600
      statusTimer := some 9600 } }

/-- A settled part with one module changed. -/
def withModule (s : State) (m : Fin 8) (f : Module → Module) : State := (s.modifyModule m f).finish

/-- Outlet A in SHORE_SUPPLY for 5,000 kW with a VALID power and a second member, in descending order the first
surplus of a decrease. -/
def pairFor (watts : Int) (f : Module → Module) : State :=
  withModule (berth .shoreSupply fun x => { x with
      session := x.session.map fun r => { r with admitted := 5000 }
      limit := 5000, power := { p := watts, q := 0, validity := .valid } }) 1
    fun m => f { m with state := .running, group := some .a, rest := none, answering := true }

def standingBy (m : Module) : Module := { m with state := .standby }

/-- Outlets A and B in SHORE_SUPPLY, B admitted later. -/
def bothSupplied : State :=
  let s := berth .shoreSupply id
  let s := { s with sessionCounter := 3 }.modify .b fun x => { s.outlet .a with
    session := some { someSession with outlet := .b, number := 2 }, cable := x.cable, ship := x.ship }
  withModule s 1 fun m => { m with state := .running, group := some .b, rest := none, answering := true }

/-- What a CAPACITY of 2,500 kW makes of the second member. -/
def secondAfter (s : State) : ModuleState × Bool :=
  match exec (.capacity (some .a) 2500) s with
  | .next t => ((t.module 1).state, (t.module 1).releasePending)
  | _ => (.faulted, true)

/-- R62, R63: with 2,500 kW kept, 2,250 kW release the running surplus member and one W more marks it; one that does
not run is stopped. -/
theorem test_capacity_decrease :
    all [secondAfter (pairFor 2250000 id) == (.releasing, false), secondAfter (pairFor 2250001 id) == (.running, true),
      secondAfter (pairFor 0 standingBy) == (.off, false)] = true := by decide +kernel

theorem witness_CapacityOrdersReplaceLimits_decrease :
    all (([pairFor 2250000 id, pairFor 2250001 id, pairFor 0 standingBy, bothSupplied] : List State).map fun s =>
        fits s && (s.outlet .a).state.supplied && (s.outlet .a).session.isSome && decide (1 < s.admitted .a)) =
      true := by decide +kernel

/-- R60: GRID cuts the session admitted last first. -/
theorem test_grid_cut :
    (match exec (.grid 3000) bothSupplied with
     | .next t => t.admitted .a == 2500 && t.admitted .b == 500
     | _ => false) = true := by decide +kernel

theorem witness_CapacityOrdersReplaceLimits :
    (let s := berth .shoreSupply id
     all [fits s, fits (berth .admitted id), decide (2500 ≤ s.admitted .a),
       decide (s.claims - s.claim .a + min 2501 (s.committed .a) ≤ s.gridLimit), decide (s.claims ≤ 2500),
       decide (2499 < s.claims)]) = true := by decide +kernel

/-- Outlet A in SHORE_SUPPLY with a second member. -/
def twoMembers (f : Module → Module) : State :=
  withModule (berth .shoreSupply id) 1 fun m =>
    f { m with state := .running, group := some .a, rest := none, answering := true }

def releasing (m : Module) : Module := { m with state := .releasing, drain := some 9600, service := true }

theorem witness_ModuleOrdersServeAndReturn :
    all [fits started, !started.isLastModule 0, fits (twoMembers id), !(twoMembers id).isLastModule 1,
      fits (withModule started 0 fun m => { m with state := .outOfService, rest := none }),
      fits (withModule started 0 fun m => { m with state := .faulted, rest := none }),
      fits (twoMembers releasing), ((twoMembers releasing).module 1).service] = true := by decide +kernel

theorem witness_ModuleOrdersServeAndReturn_signature : fits started = true ∧ (started.module 0).state.isMember = false := by
  decide +kernel

theorem witness_ProfileOrdersEditOneProfile :
    (started.ready && ProfileField.all.all fun f =>
      decide ((Profile.default.range f).1 ≤ (Profile.default.range f).2)) = true := by decide +kernel

/-- A session with an open interval. -/
def openInterval : Interval :=
  { start := none, length := 15, ticks := 0, importWh := Bands.zero, exportWh := 0, flags := [] }

def metered (x : Outlet) : Outlet := { x with interval := some openInterval }

theorem witness_TimeSetsClock :
    all [fits started, fits (berth .shoreSupply metered), ((berth .shoreSupply metered).outlet .a).interval.isSome,
      decide (2000 ≤ 2000 ∧ 9999 ≤ 9999 ∧ 29 ≤ daysIn 2024 2 ∧ 31 ≤ daysIn 9999 12),
      fits ({ started with pendingTariff := some { table := Tariff.blank, ready := true } } : State).finish] = true := by
  decide +kernel

theorem witness_TariffEditsPendingTable :
    all [started.ready, started.pendingTariff.isNone,
      ({ started with pendingTariff := some { table := Tariff.blank, ready := true } } : State).finish.ready] = true := by
  decide +kernel

theorem witness_TariffScheduleAndDiscard :
    all [started.ready, ({ started with pendingTariff := some { table := Tariff.blank, ready := false } } : State).ready,
      ({ started with pendingTariff := some { table := Tariff.blank, ready := true } } : State).finish.ready] = true := by
  decide +kernel

theorem witness_LogIsReadThroughWindow :
    (let s := logged 2 0
     let past := { s with log := { s.log with window := some { first := 1, last := 2, pointer := 3 } } }
     all [s.ready, s.log.oldest == some 1, s.log.newest == some 2, s.log.window.isSome,
       (s.log.records.find? (·.sequence == 1)).isSome, past.ready, decide (max 1 1 ≤ min 2 1)]) = true := by
  decide +kernel

theorem witness_ReleasesMakeRoom :
    (let h := heldBerth (logged 2 7)
     let full := heldBerth (logged 2 8)
     all [fits (logged 2 8), (logged 2 8).heldOutlets == [], (logged 2 8).log.oldest == some 1,
       (logged 2 8).log.newest == some 2, (logged 2 8).log.window.isSome,
       ((logged 2 8).log.records.filter fun r => decide (1 < r.sequence)).length == 1, fits full, full.heldOutlets == [.a], full.log.hasRoom,
       full.log.closed != [], h.ready, h.sound, h.accounts, h.heldOutlets == [.a], decide (h.log.closed.length < 8),
       h.log.next.isSome]) = true := by decide +kernel

/-- A link test of an age in ticks. -/
def inTestFor (age : Nat) (x : Outlet) : Outlet := { x with link := { x.link with testAge := some age } }

def inTest : Outlet → Outlet := inTestFor 0

/-- The link test's characters as they come back, the first `n` of them. -/
def comeBack (n : Nat) : List Received := (testFrame.take n).map fun b => { byte := b, framingError := false }

theorem witness_ShipLinkOrdersAct :
    all ([berth .shoreSupply (linkUp 0), berth .shoreSupply (linkUp 3), berth .shoreSupply (linkUp 4),
        berth .shoreSupply id].map (fun s => s.ready && s.bounded && (s.outlet .a).state == .shoreSupply) ++
      [((berth .shoreSupply (linkUp 0)).outlet .a).link.up, ((berth .shoreSupply (linkUp 3)).outlet .a).link.hasRoom,
        !((berth .shoreSupply (linkUp 4)).outlet .a).link.hasRoom, !((berth .shoreSupply id).outlet .a).link.up,
        (berth .vacant id).ready, (berth .announced id).ready, (berth .vacant inTest).ready,
        (berth .vacant (inTestFor 480000)).ready, (berth .vacant (inTestFor 480001)).ready,
        !((berth .vacant id).outlet .a).link.testing,
        (berth .cabled fun x => inTest (linkUp 1 x)).ready,
        ((berth .cabled fun x => inTest (linkUp 1 x)).outlet .a).link.queue != [],
        ({ berth .vacant inTest with terminal := { Terminal.reset with awaiting := some .a } } : State).ready,
        testFrame.length == 64, (testFrame[0]?).any (· != 0x00#8), (testFrame[63]?).any (· != 0x00#8),
        (comeBack 64).length == 64, judgeTest (comeBack 64) testFrame == .pass, judgeTest (comeBack 63) testFrame == .noEcho,
        judgeTest [] testFrame == .noEcho,
        judgeTest (comeBack 63 ++ [{ byte := 0x00, framingError := true }]) testFrame == .framing,
        judgeTest (comeBack 63 ++ [{ byte := 0x00, framingError := false }]) testFrame == .mismatch]) = true := by
  decide +kernel

/-- R129: the 64 characters are back within 17 ms of a start (64 of 2,500 ticks, the last to its stop bit), still pass
at 50 ms, and no longer after it; with none back the test ends at 50 ms. -/
theorem test_linktest_bound :
    ([(0, comeBack 64, 159875, TestResult.pass), (480000, comeBack 64, 0, .pass), (480001, comeBack 64, 0, .noEcho),
      (1, [], 479999, .noEcho)].all fun k =>
        match exec (.linkTestResult .a k.2.1) (berth .vacant (inTestFor k.1)) with
        | .next t => t.timestamp == (berth .vacant id).timestamp + BitVec.ofNat 32 k.2.2.1 &&
            (t.outlet .a).link.lastTest == some k.2.2.2 && !(t.outlet .a).link.testing
        | _ => false) = true := by decide +kernel

theorem witness_StatusOrdersReplaceAndClear :
    all [started.ready, Item.isCondition .held, Group.part.items.contains .clockUnset, (withErrors 1).ready,
      started.status.errors == [], (withErrors 1).status.errors != []] = true := by decide +kernel

theorem witness_InterlockMadeClosesNothing :
    all [fits started, fits (berth .cabled id), ((berth .cabled id).outlet .a).interlocks.get .plug,
      !(started.outlet .a).interlocks.get .plug, (started.outlet .a).state == .vacant, !started.estopAllMade] = true := by
  decide +kernel

theorem witness_InterlockLossOpensAndTrips :
    all ((([.cabled, .announced, .admitted, .energising, .cableLive, .synchronising, .transferIn, .shoreSupply,
        .transferOut, .separating, .deEnergising, .tripped] : List OutletState).map fun st =>
        fits (berth st (linkUp 1)) && ((berth st id).outlet .a).interlocks.get .plug &&
          ((berth st id).outlet .a).interlocks.get .estop && (berth st id).estopAllMade) ++
      [fits (heldBerth started), fits (berth .vacant fun x => { x with interlocks := { allMade with plug := false } })]) =
      true := by decide +kernel

/-- Outlet A in phase CLOSING with its close command given and its member standing by. -/
def closingBerth : State :=
  withModule (berth .energising fun x =>
    { x with phase := some .closing, sb := { x.sb with channel := .closing, closeTimer := some 9600 } }) 0
    fun m => { m with state := .standby, precharge := none }

theorem witness_ShoreBreakerCloses :
    all [fits started, (started.outlet .a).sb.channel == .opened, fits (berth .cableLive id),
      ((berth .cableLive id).outlet .a).sb.feedback, fits closingBerth,
      (closingBerth.outlet .a).sb.channel == .closing, (closingBerth.outlet .a).phase == some .closing,
      fits (berth .cabled fun x => { x with sb := { x.sb with channel := .closing, closeTimer := some 1 } })] = true := by
  decide +kernel

def opening (x : Outlet) : Outlet :=
  { x with sb := { x.sb with feedback := true, channel := .opening, openTimer := some 1 } }

def stuckOpen (x : Outlet) : Outlet :=
  { x with sb := { x.sb with feedback := true, channel := .stuck, stuckSet := true } }

/-- Outlet A in phase CLOSING whose SB has yet to open before the close request can be made. -/
def closingAgain (f : Outlet → Outlet) : State :=
  withModule (berth .energising fun x => { f x with phase := some .closing, closeWanted := true }) 0
    fun m => { m with state := .standby, precharge := none }

theorem witness_ShoreBreakerOpens :
    all [fits (closingAgain opening), fits (closingAgain stuckOpen), (closingAgain opening).blocking .a == none,
      fits (closingAgain fun x => { opening x with interlocks := { allMade with earth := false } }),
      fits started, !(started.outlet .a).sb.feedback, fits (berth .cableLive id), fits (berth .tripped opening),
      fits (berth .tripped stuckOpen), fits (berth .deEnergising id), fits closingBerth,
      (closingBerth.outlet .a).sb.closeTimer.isSome, ((berth .deEnergising id).outlet .a).session.isSome,
      ((berth .deEnergising id).outlet .a).sb.openTimer.isSome, ((berth .tripped opening).outlet .a).sb.openTimer.isSome,
      (started.outlet .a).sb.closeTimer.isNone, (started.outlet .a).sb.openTimer.isNone] = true := by decide +kernel

/-- A check in CLOSING with its pulse running. -/
def pulsing (x : Outlet) : Outlet :=
  { x with
    pb := { x.pb with channel := .closePulse, closeTimer := some 9600 }
    check := { x.check with state := .closing, attempts := 1, feedbackTimer := some 9600 } }

/-- A check in RECOVERING with the trip pulse after a close pulse. -/
def recovering (x : Outlet) : Outlet :=
  { x with
    pb := { x.pb with channel := .tripPulse, tripTimer := some 9600, afterClose := true }
    check := { x.check with state := .recovering, attempts := 1 } }

theorem witness_ParallelBreakerCloses :
    all ((([.admitted, .energising, .cableLive, .synchronising, .deEnergising, .tripped, .cabled, .vacant] :
        List OutletState).map fun st =>
        fits (berth st id) && !((berth st id).outlet .a).pb.feedback && ((berth st id).outlet .a).pb.channel == .idle) ++
      [fits (berth .transferIn id), ((berth .transferIn id).outlet .a).pb.feedback,
        fits (berth .synchronising pulsing), fits (berth .synchronising recovering),
        ((berth .synchronising pulsing).outlet .a).session.isSome,
        fits (berth .synchronising fun x => { pulsing x with check := x.check }), fits (heldBerth started)]) = true := by
  decide +kernel

def pbStuck (x : Outlet) : Outlet :=
  { x with pb := { x.pb with feedback := true, channel := .stuck, stuckSet := true } }

def recoveringClosed (out : Option SyncOutcome) (x : Outlet) : Outlet :=
  { recovering x with
    pb := { (recovering x).pb with feedback := true }
    check := { (recovering x).check with notedExit := out } }

theorem witness_ParallelBreakerOpens :
    all [fits started, !(started.outlet .a).pb.feedback, fits (berth .tripped pbStuck), fits (berth .separating id),
      ((berth .separating id).outlet .a).pb.channel == .tripPulse, ((berth .separating id).outlet .a).pb.feedback,
      fits (berth .synchronising (recoveringClosed none)),
      fits (berth .synchronising (recoveringClosed (some .syncFailed))), fits (berth .transferOut id),
      ((berth .transferOut id).outlet .a).pb.channel == .idle, fits (berth .synchronising pulsing),
      fits (berth .synchronising fun x => { pulsing x with check := { (pulsing x).check with attempts := 3 } }),
      fits (berth .synchronising fun x => { pulsing x with check := { (pulsing x).check with notedExpiry := true } }),
      fits (berth .synchronising fun x => { pulsing x with check := x.check }),
      fits (berth .synchronising recovering), ((berth .synchronising recovering).outlet .a).pb.tripTimer.isSome,
      (started.outlet .a).pb.closeTimer.isNone, (started.outlet .a).pb.tripTimer.isNone] = true := by decide +kernel

def parallelFor (x : Outlet) : Outlet := { x with handover := { x.handover with parallelTimer := some 9600 } }

def overloaded (x : Outlet) : Outlet := { x with handover := { x.handover with overloadTimer := some 9600 } }

theorem witness_OutletTimersAct :
    all [fits started, (started.outlet .a).check.feedbackTimer.isNone, (started.outlet .a).check.syncTimer.isNone,
      (started.outlet .a).energiseTimer.isNone, fits (berth .synchronising pulsing),
      ((berth .synchronising pulsing).outlet .a).check.syncTimer.isSome,
      ((berth .synchronising pulsing).outlet .a).check.feedbackTimer.isSome, fits (berth .synchronising recovering),
      fits (berth .synchronising id), fits (berth .energising fun x => { x with energiseTimer := some 9600 }),
      fits (berth .transferIn parallelFor), fits (berth .transferOut parallelFor), fits (berth .transferIn overloaded),
      fits (berth .transferOut overloaded), fits (berth .shoreSupply overloaded)] = true := by decide +kernel

/-- Outlet A in PREPARE with its one member in SELF_TEST. -/
def testing (sig : Nat) : State :=
  withModule (berth .energising id) 0 fun m =>
    { m with state := .selfTest, initial := true, precharge := none, selfTest := some 9600, signature := sig }

theorem witness_ModuleReportsMoveLifecycle :
    all [fits started, (started.module 0).state == .off, !(started.module 0).answering, fits (berth .energising id),
      ((berth .energising id).module 0).state == .precharging, fits (testing 0), fits (testing 5),
      ((testing 5).module 0).group == some .a, ((testing 5).module 0).state == .selfTest,
      (testing 0).blocking .a == none, ((testing 0).outlet .a).sb.channel == .opened,
      ((testing 0).module 0).initial] = true := by decide +kernel

/-- The part of `testing` with a second member in PRECHARGING, of the initial grant or of a top-up. -/
def testingPair (initial : Bool) : State :=
  withModule (testing 0) 1 fun m =>
    { m with
      state := .precharging, group := some .a, initial := initial, rest := none, answering := true
      precharge := some 9600 }

/-- R11: PREPARE waits for the modules of the initial grant, and for no module of a top-up. -/
theorem test_prepare_waits :
    all ([(false, EnergisePhase.closing), (true, .prepare)].map fun k =>
      match exec (.moduleResult 0 true 0) (testingPair k.1) with
      | .next t => fits (testingPair k.1) && (t.outlet .a).phase == some k.2
      | _ => false) = true := by decide +kernel

def silent (m : Module) : Module := { m with silence := some 9600 }

theorem witness_FaultsRemoveMembers :
    all [fits (twoMembers silent), ((twoMembers silent).module 1).group.isSome,
      ((twoMembers silent).module 1).silence.isSome, fits (berth .energising id),
      ((berth .energising id).module 0).precharge.isSome, fits (testing 0), ((testing 0).module 0).selfTest.isSome,
      fits started, (started.module 0).group.isNone, fits (withModule started 0 silent),
      ((withModule started 0 silent).module 0).silence.isSome, (started.module 0).silence.isNone,
      (started.module 0).precharge.isNone, (started.module 0).selfTest.isNone] = true := by decide +kernel

def waitingFor (kind : RequestKind) (st : OutletState) (kW : Nat) : State :=
  let s := berth st fun x => { x with session := x.session.map fun r => { r with admitted := kW } }
  { s with grants := [{ outlet := .a, kind := kind, wanted := 2500, wait := 9600 }] }.finish

/-- An initial request of outlet A whose SB still reports closed. -/
def waitingOn (f : Outlet → Outlet) : State := (waitingFor .initial .admitted 2500).modify .a f |>.finish

theorem witness_PoolTimersRun :
    all [fits (twoMembers releasing), ((twoMembers releasing).module 1).drain.isSome,
      fits started, (started.module 0).rest.isSome, (started.module 0).drain.isNone,
      fits (berth .shoreSupply id), ((berth .shoreSupply id).module 0).rest.isNone, (started.request .a).isNone,
      fits (waitingFor .topUp .shoreSupply 5000), ((waitingFor .topUp .shoreSupply 5000).request .a).isSome,
      fits (waitingFor .initial .admitted 2500), ((waitingFor .initial .admitted 2500).request .a).isSome,
      !((waitingFor .initial .admitted 2500).outlet .a).sb.feedback,
      fits (waitingOn opening), ((waitingOn opening).request .a).isSome, fits (waitingOn stuckOpen),
      ((waitingOn stuckOpen).request .a).isSome] = true := by decide +kernel

theorem witness_PeriodicTimersAdvance :
    all [started.ready, started.grid.overTimer.isNone,
      ({ started with grid := { started.grid with overTimer := some 9600 } } : State).ready,
      (berth .shoreSupply metered).ready] = true := by decide +kernel

def pendingMode (m : Mode) (x : Outlet) : Outlet := { x with reference := { x.reference with pending := some m } }

def measured (x : Outlet) : Outlet := { x with power := { p := 1000000, q := 0, validity := .valid } }

/-- A check about to close: the example of section 6.4. -/
def matched (ts : Timestamp) (x : Outlet) : Outlet :=
  { linkUp 1 x with
    session := x.session.map fun r => { r with snapshot := { r.snapshot with closeTime := 120 } }
    cable := { x.cable with record := { exampleRecord 60000 160000 6650 with crossing := some 0 } }
    ship := { x.ship with record := { exampleRecord 59940 160160 6600 with crossing := some ts } } }

def shipReady (x : Outlet) : Outlet :=
  let r : ShipStatus :=
    { generators := 1, busLoad := 100, generatorLoad := 100, ready := true, droop := true, panelClosed := true
      age := 0 }
  { x with handover := { x.handover with shipStatus := some r } }

/-- A reference far from its targets, its setpoint rising or falling. -/
def far (rising : Bool) (x : Outlet) : Outlet :=
  { x with reference := { x.reference with setFreq := 58000, setVolt := 6000, setpoint := 1000, rising := rising } }

theorem witness_ControlStepMovesReference :
    all [started.ready, (berth .shoreSupply (inMode .island)).ready, (berth .transferIn (inMode .parallel)).ready,
      (berth .synchronising (inMode .track)).ready, (berth .synchronising fun x => matched 0 (inMode .track x)).ready,
      (berth .synchronising fun x => pendingMode .track (inMode .island x)).ready,
      (berth .transferIn fun x => matched 0 (inMode .parallel x)).ready,
      (berth .transferIn fun x => measured (inMode .parallel x)).ready,
      (berth .energising (pendingMode .softStart)).ready, (berth .energising (inMode .softStart)).ready,
      (berth .shoreSupply fun x => far true (inMode .island x)).ready,
      (berth .transferIn fun x => far true (inMode .parallel x)).ready,
      (berth .transferIn fun x => far true (shipReady (inMode .parallel x))).ready,
      (berth .transferOut fun x => far false (shipReady (inMode .parallel x))).ready,
      (twoMembers releasing).ready, ((twoMembers releasing).module 1).state == .releasing,
      ((twoMembers releasing).outlet .a).session.isSome] = true := by decide +kernel

theorem witness_SamplesFeedChannels :
    all [fits started,
      (((started.elapse 1000).outlet .a).cable.take 400 1000 (cableSample ⟨0, 0, 0, 0, 0⟩)).2 == none,
      (((started.elapse 1000).outlet .a).ship.take 400 1000 (shipSample ⟨0, 0, 0, 0, 0⟩)).2 == none] = true := by
  decide +kernel

def cycleOf (count squares : Nat) : CycleSums := { CycleSums.zero with count := count, squares := squares }

/-- Every channel at 100 V, the GRID channel at 0. -/
def quietSet : SampleSet :=
  { a := ⟨100, 0, 0, 0, 100⟩, b := ⟨0, 0, 0, 0, 0⟩, c := ⟨0, 0, 0, 0, 0⟩, gridVoltage := 0, gridPower := 0 }

/-- A channel whose candidate the next sample set accepts, its cycle opened at `opened` with `sums`. -/
def aboutToCross (opened : Option Timestamp) (sums : CycleSums) (c : Channel) : Channel :=
  { c with
    armed := true, previous := some 100, lastCrossing := opened, sums := sums
    candidate := some
      { before := -100, beforeTime := 159500
        after := { wave := 100, product1 := 0, product2 := 0, power := 0, clipped := false } } }

/-- The sums of a cycle of 60 Hz at 6,600 V with a power in W. -/
def cycleAt (watts : Int) : CycleSums := { cycleOf 160 (160 * 6600 * 6600) with product1 := 160 * watts, power := 160 * watts }

def cableCrosses (opened : Option Timestamp) (watts : Int) (x : Outlet) : Outlet :=
  { x with cable := aboutToCross opened (cycleAt watts) x.cable }

def shipCrosses (opened : Option Timestamp) (x : Outlet) : Outlet :=
  { x with ship := aboutToCross opened (cycleAt 0) x.ship }

def nowAborting (x : Outlet) : Outlet := { x with handover := { x.handover with aborting := true } }

def notedExit (out : SyncOutcome) (x : Outlet) : Outlet := { x with check := { x.check with notedExit := some out } }

/-- The channels that accept a crossing at the quiet sample set. -/
def crossingChannels (s : State) : List ChannelId :=
  let u := s.elapse s.due.sample
  let taken (c : Channel) (nominal : Nat) (k : ChannelSample) : Bool := (c.take nominal u.timestamp k).2.isSome
  (allOutlets.flatMap fun q =>
    let x := u.outlet q
    (if taken x.cable x.nominalVoltage (cableSample (samplesOf quietSet q)) then [.cable q] else []) ++
      (if taken x.ship x.nominalVoltage (shipSample (samplesOf quietSet q)) then [.ship q] else [])) ++
    (if taken u.grid.channel 1000 (gridSample quietSet) then [.grid] else [])

def delivers (ch : ChannelId) (s : State) : Bool := fits s && crossingChannels s == [ch]

/-- Outlet A in phase RAMP with its ramp complete and its member running. -/
def ramping (f : Outlet → Outlet) : State :=
  withModule (berth .energising fun x => f
    { x with
      phase := some .ramp, rampComplete := true, energiseTimer := some 9600
      sb := { x.sb with feedback := true, channel := .closed } }) 0
    fun m => { m with state := .running, precharge := none }

def unwound (x : Outlet) : Outlet := { x with pb := ParallelBreaker.reset }

/-- Outlet A in SHORE_SUPPLY with its second member marked for release. -/
def markedMember (watts : Int) (opened : Option Timestamp) : State :=
  (withModule (twoMembers fun m => { m with releasePending := true }) 0 id).modify .a (cableCrosses opened watts)

/-- The started part with its GRID channel about to cross and a limit. -/
def gridCrosses (opened : Option Timestamp) (power : Int) (f : GridUnit → GridUnit) : State :=
  let s := { started with gridLimit := 2500 }
  { s with grid := f { s.grid with channel := aboutToCross opened (cycleAt power) s.grid.channel } }.finish

theorem witness_DeliveriesAct :
    all ((([ramping (cableCrosses (some 0) 0), ramping (cableCrosses none 0),
        berth .separating (cableCrosses (some 0) 0), berth .separating fun x => unwound (cableCrosses (some 0) 0 x),
        berth .transferOut (cableCrosses (some 0) 1000), berth .transferOut (cableCrosses (some 0) 1000000),
        berth .transferIn fun x => nowAborting (cableCrosses (some 0) 1000 x), berth .transferIn (cableCrosses (some 0) 1000),
        berth .shoreSupply (cableCrosses (some 0) 6000000), berth .shoreSupply (cableCrosses none 6000000),
        berth .shoreSupply fun x => overloaded (cableCrosses (some 0) 6000000 x),
        berth .shoreSupply fun x => overloaded (cableCrosses (some 0) 0 x),
        markedMember 2250000 (some 0), markedMember 2250001 (some 0), markedMember 0 none] : List State).map fun s =>
        delivers (.cable .a) s && (s.outlet .a).session.isSome) ++
      ([berth .cableLive (shipCrosses (some 0)), berth .synchronising (shipCrosses (some 0)),
        berth .synchronising (shipCrosses none), berth .synchronising fun x => pulsing (shipCrosses (some 0) x),
        berth .synchronising fun x => pulsing (shipCrosses none x),
        berth .synchronising fun x => recovering (shipCrosses (some 0) x),
        berth .synchronising fun x => unwound (recovering (shipCrosses (some 0) x)),
        berth .synchronising fun x => unwound (recovering (shipCrosses none x)),
        berth .synchronising fun x => unwound (notedExit .syncFailed (recovering (shipCrosses (some 0) x)))].map
          (delivers (.ship .a))) ++
      ([gridCrosses none 2600 id, gridCrosses (some 0) 2500 id, gridCrosses (some 0) 2501 id,
        gridCrosses (some 159999) 2501 id, gridCrosses (some 0) 2501 fun g => { g with overTimer := some 9600 },
        gridCrosses (some 0) 2500 fun g => { g with overSet := true }].map (delivers .grid)) ++
      [((markedMember 0 none).module 1).releasePending]) = true := by decide +kernel

/-- A channel that took a sample below 0 and one at or above 0, armed or not. -/
def crossing (armed : Bool) (opened : Option Timestamp) : Channel :=
  { aboutToCross opened (cycleAt 0) (started.outlet .a).cable with armed := armed }

def sampleOf (wave : Int) : ChannelSample := { wave := wave, product1 := wave, product2 := 1, power := 2, clipped := false }

theorem witness_SamplesFeedChannels_crossings :
    all [((crossing true none).take 6600 160500 (sampleOf 5)).2 == some .opened,
      ((crossing true (some 0)).take 6600 160500 (sampleOf 0)).2 == some (.closed true (cycleAt 0)),
      ((crossing true (some 0)).take 7500 160500 (sampleOf 0)).2 == some (.closed true (cycleAt 0)),
      ((crossing true (some 0)).take 60000 160500 (sampleOf 0)).2 == some (.closed false (cycleAt 0)),
      ((crossing false (some 0)).take 6600 160500 (sampleOf 5)).2 == none,
      ((crossing true (some 0)).take 6600 160500 (sampleOf (-1))).2 == none,
      (started.outlet .a).cable.candidate == none, (started.outlet .a).cable.previous == none,
      ({ crossing true none with candidate := none, previous := some (-5) } : Channel).candidate == none] = true := by
  decide +kernel

/-- A cycle of six samples: the two of the crossing that opens it, three below 0 and the one that crosses is not in
it. -/
theorem witness_SamplesFeedChannels_cycle :
    (let c := ((crossing true none).take 6600 160500 (sampleOf 5)).1
     let r := c.takes 6600 [(161500, sampleOf (-500)), (162500, sampleOf (-600)), (163500, sampleOf 7)]
     all [(crossing true none).candidate.isSome, r.2,
       (match (r.1.take 6600 164500 (sampleOf 8)).2 with
        | some (.closed _ sums) => sums.count == 4 && sums.product1 == -1095
        | _ => false)]) = true := by decide +kernel

theorem witness_SamplesFeedChannels_power :
    all [decide (0 < (cycleAt 1000).count), !(cycleAt 1000).clipped, !(cycleAt (-1000)).clipped,
      ({ cycleAt 1000 with clipped := true } : CycleSums).clipped] = true := by decide +kernel

/-- Outlet A in SHORE_SUPPLY with its second member marked and a power record. -/
def markedHeld (watts : Int) (v : Validity) : State :=
  (twoMembers fun m => { m with releasePending := true }).modify .a fun x =>
    { x with power := { p := watts, q := 0, validity := v } }

theorem witness_LossTimersAct :
    all ((([berth .separating id, berth .separating unwound, berth .shoreSupply id, berth .shoreSupply overloaded,
        markedHeld 2250000 .valid, markedHeld 2250001 .valid, markedHeld 0 (.held 3)] : List State).map fun s =>
        fits s && (s.lossTimer (.cable .a)).isSome) ++
      (([berth .cableLive id, berth .synchronising id, berth .synchronising pulsing, berth .synchronising recovering,
        berth .synchronising fun x => unwound (recovering x),
        berth .synchronising fun x => unwound (notedExit .syncFailed (recovering x))] : List State).map fun s =>
        fits s && (s.lossTimer (.ship .a)).isSome) ++
      [((markedHeld 0 .valid).module 1).releasePending, fits started, (started.lossTimer .grid).isSome,
        fits ({ started with grid := { started.grid with channel := { started.grid.channel with
          lossTimer := none } } } : State),
        fits ({ started with grid := { started.grid with channel := { started.grid.channel with
          record := { started.grid.channel.record with validity := .held 3 } } } } : State)]) = true := by decide +kernel

/-- Every channel of outlet A and of the grid about to cross, with the next sample set due in `due` ticks and loss
timers of 1,000 ticks. -/
def losing (due : Nat) : State :=
  let lose (c : Channel) : Channel := { aboutToCross (some 0) (cycleAt 0) c with lossTimer := some 1000 }
  let s := berth .shoreSupply fun x => { x with cable := lose x.cable, ship := lose x.ship }
  { s with due := { s.due with sample := due }, grid := { s.grid with channel := lose s.grid.channel } }

theorem witness_LossTimersAct_candidates :
    all (([1000, 1001].map fun due => fits (losing due)) ++
      [(crossing true (some 0)).candidate.isSome, (crossing true (some 0)).armed,
       (crossing true (some 0)).candidate.any fun k => decide (k.before < 0 ∧ 0 ≤ k.after.wave),
       decide (0 ≤ (crossing true (some 0)).previous.getD 0), decide (0 ≤ (sampleOf 0).wave)]) = true := by decide +kernel

/-- R90: a crossing in the set of an expiry taken first opens a cycle; one whose set is a later one is dropped with its
candidate. -/
theorem test_loss_then_crossing :
    all ([(1000, true), (1001, false)].map fun k =>
      match exec (.lossTimerExpiry (.cable .a)) (losing k.1) with
      | .next t =>
        match exec (.sampleSet quietSet) t with
        | .next u =>
          (u.outlet .a).cable.lastCrossing.isSome == k.2 && (u.outlet .a).cable.record.crossing.isSome == k.2 &&
            (u.outlet .a).cable.record.validity == (t.outlet .a).cable.record.validity
        | _ => false
      | _ => false) = true := by decide +kernel

/-- R63: the loss of a CABLE record releases what its held power allows. -/
theorem test_loss_releases :
    all (([(2250000, .valid, .releasing), (2250001, .valid, .running), (0, .held 3, .running)] :
        List (Int × Validity × ModuleState)).map fun k =>
      match exec (.lossTimerExpiry (.cable .a)) (markedHeld k.1 k.2.1) with
      | .next t => (t.module 1).state == k.2.2
      | _ => false) = true := by decide +kernel

/-- A power record of a ship that feeds the shore. -/
def delivering (x : Outlet) : Outlet := { x with power := { p := -1000000, q := 0, validity := .valid } }

theorem witness_MeteringTickCountsEnergy :
    all [started.ready, started.accounts, fits (berth .shoreSupply metered),
      fits (berth .shoreSupply fun x => measured (metered x)), fits (berth .shoreSupply fun x => delivering (metered x)),
      ((berth .shoreSupply metered).outlet .a).sb.feedback] =
      true := by decide +kernel

/-! ### Intervals, tariffs and closes: the example of section 9.7 and the clauses of the statements -/

def exampleTariff (price length : Nat) : Tariff :=
  { Tariff.blank with prices := { Bands.zero with b0 := price }, demandPrice := 120, length := length }

/-- A reading of 2025-06-01. -/
def reading (h m s t : Nat) : Clock :=
  { year := 2025, month := 6, day := 1, hour := h, minute := m, second := s, tenth := t }

/-- Outlet A in a state with an open interval, 8,437,500 W, a peak of 8,000 kW, a charge of band 0, and a ready
table for 30 minutes; its meter total is what the law of R158 asks. -/
def billing (st : OutletState) (c : Option Clock) (i : Option Interval) (charge : Nat) (f : Outlet → Outlet) : State :=
  let s := berth st fun x => f { x with
    interval := i
    power := { p := 8437500, q := 0, validity := .valid }
    session := x.session.map fun r => { r with peak := 8000, charge := { Bands.zero with b0 := charge } } }
  let s := { s with
    clock := c, tariff := exampleTariff 1850 15
    pendingTariff := some { table := exampleTariff 1900 30, ready := true } }
  (s.modify .a fun x => { x with meter := { x.meter with
    importTotal := x.meter.releasedImport + s.standingImport .a } }).finish

def intervalOf (start : Option Clock) (ticks wh : Nat) (flags : List IntervalFlag) : Interval :=
  { start := start, length := 15, ticks := ticks, importWh := { Bands.zero with b0 := wh }, exportWh := 0, flags := flags }

def withRemainder (n : Nat) (x : Outlet) : Outlet := { x with meter := { x.meter with importAcc := n } }

/-- The tick before the 10:15 boundary of section 9.7: 8,999 ticks, 2,109,140 Wh and a remainder of 22,500. -/
def atBoundary : State :=
  billing .shoreSupply (some (reading 10 14 59 9)) (some (intervalOf (some (reading 10 0 0 0)) 8999 2109140 [])) 0
    (withRemainder 22500)

/-- The part with no sequence left, so that intervals merge and sessions are held (R171). -/
def exhausted (s : State) : State := ({ s with log := { s.log with next := none } } : State).finish

/-- An interval of an unset clock about to reach its full count. -/
def unsetFull : State := billing .shoreSupply none (some (intervalOf none 8999 2109140 [.timeUnset])) 0 id

/-- Outlet A before its last tick with a power record that is not VALID. -/
def notValid (held : Option Int) (x : Outlet) : Outlet :=
  { x with power := { x.power with validity := .invalid }, meter := { x.meter with heldPower := held } }

def billable (s : State) : Bool := fits s && s.tariffsSound && s.clock.all (·.isReading)

/-- Section 9.7, step 2: the boundary at 10:15. -/
theorem test_boundary_switch :
    (match exec .meteringTick atBoundary with
     | .next t => all [((t.outlet .a).session.map fun r => (r.charge.b0, r.peak, r.peakStart)) ==
           some (3902343750, 8438, some (reading 10 0 0 0)),
         (t.outlet .a).interval == some { start := some (reading 10 15 0 0), length := 30, ticks := 0
                                          importWh := Bands.zero, exportWh := 0, flags := [] },
         t.log.records.map (fun r => (r.importWh.b0, r.duration, r.flags)) == [(2109375, 900, [])],
         t.tariff == exampleTariff 1900 30, t.pendingTariff.isNone, (t.status.get .part).count .tariffSwitched == 1]
     | _ => false) = true := by decide +kernel

/-- Outlet A in DE_ENERGISING at the end of section 9.7, its SB about to open. -/
def lastOpening : State :=
  let s := billing .deEnergising (some (reading 10 27 0 0)) (some { intervalOf (some (reading 10 24 0 0)) 1800 421875 [] with
    length := 30 }) (3902343750 + 1335937500) fun x =>
      { x with session := x.session.map fun r => { r with peak := 8438 } }
  ({ s with tariff := exampleTariff 1900 30, pendingTariff := none } : State).finish

/-- Section 9.7, steps 4 and 5: the close at 10:27, 1,072,958 cents. -/
theorem test_close_priced :
    (match exec (.sbFeedbackOpens .a) lastOpening with
     | .next t => all [t.log.closed.map (fun k => (k.totalCharge, k.endTime)) ==
           [(some 1072958, some (reading 10 27 0 0))],
         t.log.records.map (fun r => (r.importWh.b0, r.duration, r.flags)) == [(421875, 180, [.short, .final])]]
     | _ => false) = true := by decide +kernel

theorem witness_MeteringTickCountsEnergy_completes :
    all ([atBoundary, exhausted atBoundary, unsetFull, exhausted unsetFull,
        billing .shoreSupply (some (reading 23 59 59 9)) none 0 id,
        billing .shoreSupply (some (reading 10 14 59 8)) (some (intervalOf none 8999 0 [])) 0 (notValid none),
        billing .tripped (some (reading 10 14 59 9)) (some (intervalOf none 8999 0 [])) 0 (notValid (some 7)),
        billing .shoreSupply (some (reading 10 14 59 8)) (some (intervalOf none 8999 0 [])) 0 (notValid (some 7))].map
          billable ++
      [atBoundary.log.takesAfter 0, !(exhausted atBoundary).log.takesAfter 0, atBoundary.pendingTariff.any (·.ready),
        (unsetFull.outlet .a).interval.any fun i => i.flags.contains .timeUnset && i.length * 600 ≤ i.ticks + 1]) =
      true := by decide +kernel

theorem witness_TimeSetsClock_bills :
    all ([atBoundary, exhausted atBoundary, unsetFull].map billable ++
      [atBoundary.pendingTariff.any (·.ready), ((exhausted atBoundary).outlet .a).session.isSome]) = true := by
  decide +kernel

/-- Outlet A in DE_ENERGISING before its first interval. -/
def neverOpened : State := billing .deEnergising none none 0 id

/-- Each close of the statements: placed, held, and of an interval never opened. -/
theorem witness_ShoreBreakerOpens_closes :
    all ([lastOpening, exhausted lastOpening, neverOpened].map (fun s =>
        fits s && (s.outlet .a).state == .deEnergising && (s.outlet .a).session.isSome) ++
      [lastOpening.log.placesAfter 0, !(exhausted lastOpening).log.placesAfter 0,
        (neverOpened.outlet .a).interval.isNone]) = true := by decide +kernel

/-- Two sessions left open, B's before A's, in a log that takes one more record. -/
def bothLeftOpen : State :=
  let s := State.reset.modify .a fun x => { x with session := some { someSession with number := 2 } }
  let s := s.modify .b fun x => { x with session := some { someSession with outlet := .b }, interval := some openInterval }
  { s with log := { s.log with next := some 4294967295 } }

theorem witness_StartUpClosesOpenSessions_order :
    all [bothLeftOpen.phase == .startingUp, bothLeftOpen.atRest, bothLeftOpen.accounts,
      (match exec .startUpComplete bothLeftOpen with
       | .next t => t.log.closed.map (·.outlet) == [.b] && (t.outlet .a).state == .held
       | _ => false)] = true := by decide +kernel

theorem witness_ReleasesMakeRoom_held :
    (let s := heldBerth (logged 2 8)
     let full := heldBerth (exhausted (logged 0 1))
     all [fits s, s.log.closed.length == 8, fits full, full.log.closed.length == 1, !full.log.placesAfter 0,
       (match exec .closedRelease s with
        | .next t => t.log.records.length == 3 && t.log.closed.length == 8 && (t.outlet .a).state == .cabled
        | _ => false)]) = true := by decide +kernel

/-- A delimiter that has taken some bytes after the start byte. -/
def assembling (l : List Byte) (x : Outlet) : Outlet :=
  { x with link := { x.link with assembling := some l, gapTimer := some 5000 } }

/-- A frame with its check. -/
def framed (type : Byte) (payload : List Byte) : RawFrame :=
  let n := BitVec.ofNat 8 (payload.length + 1)
  { length := n, type := type, payload := payload, crc := crc16 (n :: type :: payload) }

def withFifo (n : Nat) (x : Outlet) : Outlet :=
  { linkUp 1 x with link := { (linkUp 1 x).link with fifo := List.replicate n { type := 3, payload := [] } } }

/-- The part in start-up with one receiver at work. -/
def receiving (f : Outlet → Outlet) : State := State.reset.modify .a f

theorem witness_FramesAssembledAndChecked_startUp :
    all ((([receiving id, receiving (assembling []), receiving (assembling [1, 3])] : List State).map fun s =>
        s.phase == .startingUp && s.atRest && s.bounded) ++
      [((receiving (assembling [1, 3])).outlet .a).link.gapTimer.isSome,
        ((receiving id).outlet .a).link.gapTimer.isNone]) = true := by decide +kernel

/-- R130: a frame completed in start-up is counted as received, and joins no FIFO while PLUG is lost. -/
theorem test_start_up_frame :
    (match exec (.frameComplete .a (framed 3 [])) State.reset with
     | .next t => (t.outlet .a).link.counts.framesReceived == 1 && (t.outlet .a).link.fifo == [] && t.phase == .startingUp
     | _ => false) = true := by decide +kernel

theorem witness_FramesAssembledAndChecked :
    all [started.ready, started.bounded, (berth .cabled (assembling [])).ready,
      (berth .cabled (assembling [1, 3, 0])).ready, (berth .cabled (assembling [1, 3])).ready, (berth .vacant inTest).ready,
      (framed 3 []).wellFormed, (framed 3 (List.replicate 59 0)).wellFormed, (framed 9 []).wellFormed,
      !({ framed 3 [] with crc := 0 } == framed 3 []), (berth .cabled id).ready, (berth .cabled id).bounded,
      ((berth .cabled id).outlet .a).interlocks.plug, !(started.outlet .a).interlocks.plug,
      (berth .cabled (withFifo 7)).ready, (berth .cabled (withFifo 8)).ready, (berth .cabled (withFifo 8)).bounded] =
      true := by decide +kernel

theorem witness_TransmitterRuns :
    all [started.ready, !(started.outlet .a).link.up, (berth .cabled (linkUp 3)).ready, (berth .cabled (linkUp 4)).ready,
      (berth .cabled (linkUp 0)).ready, ((berth .cabled (linkUp 0)).outlet .a).link.queue == [],
      ((berth .cabled (linkUp 3)).outlet .a).link.sending, ((berth .cabled (linkUp 4)).outlet .a).link.statusTimer.isSome,
      (berth .cabled (assembling [1])).ready, (started.outlet .a).link.gapTimer.isNone] = true := by decide +kernel

theorem witness_LinkGoesDown :
    all ((([.cabled, .announced, .admitted, .synchronising, .transferIn, .shoreSupply] : List OutletState).map fun st =>
        fits (berth st (linkUp 1)) && ((berth st (linkUp 1)).outlet .a).link.up &&
          ((berth st (linkUp 1)).outlet .a).link.watchdog.isSome) ++
      [fits started, (started.outlet .a).link.watchdog.isNone, fits (berth .vacant inTest)]) = true := by decide +kernel

/-- A frame at the head of the FIFO. -/
def sent (type : Byte) (payload : List Byte) (x : Outlet) : Outlet :=
  { linkUp 1 x with link := { (linkUp 1 x).link with fifo := [{ type := type, payload := payload }] } }

theorem witness_UnacceptedFramesRefused :
    all [(berth .cabled (sent 3 [])).ready, (berth .vacant (sent 3 [])).ready,
      ((berth .cabled (sent 3 [])).outlet .a).link.fifo == [{ type := 3, payload := [] }]] = true := by decide +kernel

/-- The payload of a HELLO: vessel, profile, capacity, voltage, frequency. -/
def helloPayload (kW : Nat) : List Byte :=
  0x41#8 :: List.replicate 15 0#8 ++ [0#8] ++ beBytes 2 kW ++ beBytes 2 6600 ++ beBytes 2 60000

theorem witness_AnnouncementAndStatusTaken :
    all [fits (berth .cabled (sent 1 (helloPayload 2500))), fits (berth .announced (sent 1 (helloPayload 0))),
      (decodeHello (helloPayload 2500)).any (·.isValid), (decodeHello (helloPayload 0)).any (!·.isValid),
      (decodeHello (0#8 :: helloPayload 1).dropLast).isNone,
      fits (berth .cabled (sent 1 (0#8 :: helloPayload 1).dropLast)), fits (berth .admitted (sent 1 (helloPayload 2500))),
      ((berth .admitted id).outlet .a).session.isSome, (berth .cabled (sent 2 [16, 0, 1, 0, 2, 7])).ready,
      ((berth .cabled (sent 2 [16, 0, 1, 0, 2, 7])).outlet .a).state != .vacant] = true := by decide +kernel

theorem witness_SynchronisingEntersAndAborts :
    all [(berth .cableLive (sent 3 [])).ready, (berth .cableLive fun x => shipReady (sent 3 [] x)).ready,
      ((berth .cableLive id).outlet .a).session.isSome, (berth .synchronising (sent 7 [])).ready,
      (berth .synchronising fun x => pulsing (sent 7 [] x)).ready,
      (berth .synchronising fun x => recovering (sent 7 [] x)).ready] = true := by decide +kernel

theorem witness_TransferFramesAct :
    all [(berth .transferIn (sent 4 [])).ready, !((berth .transferIn id).outlet .a).handover.aborting,
      (berth .shoreSupply (sent 5 [])).ready, (berth .shoreSupply (sent 6 [])).ready,
      (berth .shoreSupply fun x => measured (sent 6 [] x)).ready,
      ((berth .shoreSupply id).outlet .a).session.isSome, (berth .transferIn (sent 7 [])).ready,
      (berth .transferIn fun x => nowAborting (sent 7 [] x)).ready, (berth .transferOut (sent 7 [])).ready] = true := by
  decide +kernel

theorem witness_ByeEndsSession :
    all [fits (berth .announced (sent 8 [])), fits (berth .admitted (sent 8 [])), fits (berth .energising (sent 8 [])),
      fits (berth .cableLive (sent 8 []))] = true := by decide +kernel

/-! ### Laws -/

theorem witness_CyclesMoveValidity :
    all [isValidCycle 6600 (frequencyOf 160000) (rootMeanSquare (160 * 6600 * 6600) 160),
      !isValidCycle 6600 (frequencyOf 160000) (rootMeanSquare (160 * 1100 * 1100) 160),
      Candidate.time { before := -412, beforeTime := 5000000
                       after := { wave := 517, product1 := 0, product2 := 0, power := 0, clipped := false } } ==
        5000443] = true := by decide +kernel

theorem witness_AnglesLieWithinATurn :
    (let f := figuresOf Profile.default (exampleRecord 59940 160160 6600) (exampleRecord 60000 160000 6650) 158698 0
     all [decide (-36000 ≤ f.alpha), decide (f.alpha ≤ 36000),
       (figuresOf Profile.default (exampleRecord 60000 160000 6600) (exampleRecord 60000 160000 6600) 5 0).slip == 0]) =
      true := by decide +kernel

theorem witness_SharesComeToThousand :
    (let s := (twoMembers releasing).modify .a (inMode .island)
     all [s.members .a [.running] == [0], s.members .a [.releasing] == [1], (s.outlet .a).reference.mode != .stopped,
       decide (((s.members .a [.releasing]).map fun m => (s.module m).share).sum ≤ 1000),
       (started.outlet .a).reference.mode == .stopped]) = true := by decide +kernel

theorem witness_EvaluationRequestsPulse :
    (let s := berth .synchronising (matched 158698)
     let t := berth .synchronising fun x => { matched 158698 x with pb := { x.pb with feedback := true } }
     all [(s.outlet .a).session.isSome, (s.outlet .a).check.state == .evaluating, s.pbRefusal .a == none,
       ((s.evaluate .a).outlet .a).check.result == some .close, t.pbRefusal .a == some .pbNotOpen,
       (((berth .synchronising (matched 158538)).evaluate .a).outlet .a).check.result == some .wait,
       (((berth .synchronising id).evaluate .a).outlet .a).check.result == some .records,
       ((berth .synchronising pulsing).outlet .a).check.state != .evaluating]) = true := by decide +kernel

/-- The example of section 6.4 with its second ship crossing a candidate of the next sample set. -/
def crossingNext (x : Outlet) : Outlet :=
  { matched 0 x with
    cable := { (matched 0 x).cable with record := { exampleRecord 60000 160000 6650 with crossing := some 1302 } }
    ship := { x.ship with
      armed := true, previous := some 100, lastCrossing := some (160000 - 160160), sums := cycleOf 160 (160 * 6600 * 6600)
      candidate := some
        { before := -100, beforeTime := 159500
          after := { wave := 100, product1 := 0, product2 := 0, power := 0, clipped := false } } } }

theorem witness_BreakersCloseOnlyByRule :
    (let s := berth .synchronising crossingNext
     all [fits s, (s.outlet .a).pb.channel != .closePulse,
       (match exec (.sampleSet quietSet) s with
        | .next t => (t.outlet .a).pb.channel == .closePulse
        | _ => false),
       fits (testing 0), ((testing 0).outlet .a).sb.channel != .closing,
       (match exec (.moduleResult 0 true 0) (testing 0) with
        | .next t => (t.outlet .a).sb.channel == .closing
        | _ => false)]) = true := by decide +kernel

theorem witness_FramesArriveAsSent :
    all [started.ready, !(started.outlet .a).link.testing, (started.outlet .a).link.assembling.isNone] = true := by
  decide +kernel

/-- The started part about to take a command. -/
def withFront (c : Instr) (s : State) : State := { s with pending := [c] }

theorem witness_StepKeeps :
    (let s := withFront .gridQuery started
     all [s.sound, s.timersSound, s.accounts, s.referencesSound, s.bounded, s.log.wellFormed, s.tariffsSound,
       clocked.clock.all (·.isReading), s.atRest && (s.phase != .running || s.settled),
       (match step s with
        | .next _ => true
        | _ => false)]) = true := by decide +kernel

end Sys2Proof.Tests
end

section
/-! The end of an event settles the part: what the allocator's figures read, and what each stage
of the settling leaves. -/

namespace Sys2Proof.Machine

/-! ### What the allocator reads -/

/-- What the allocator's figures read of a module: its group, its rating, whether it is free, whether it counts in the
committed rating, and whether it counts in the group capacity (R44, R52). -/
def Module.pooled (m : Module) : Option OutletId × Nat × Bool × Bool × Bool :=
  (m.group, m.rating, m.isFree, committedStates.contains m.state,
    [ModuleState.standby, .running].contains m.state)

/-- Two states whose allocator figures agree, but for the limits and BUDGET_OVER. -/
structure SamePool (s t : State) : Prop where
  grants : t.grants = s.grants
  gridLimit : t.gridLimit = s.gridLimit
  admitted : ∀ o, t.admitted o = s.admitted o
  modules : ∀ m, (t.module m).pooled = (s.module m).pooled

theorem SamePool.refl (s : State) : SamePool s s := ⟨rfl, rfl, fun _ => rfl, fun _ => rfl⟩

theorem SamePool.trans {s t u : State} (h : SamePool s t) (k : SamePool t u) : SamePool s u :=
  ⟨k.grants.trans h.grants, k.gridLimit.trans h.gridLimit, fun o => (k.admitted o).trans (h.admitted o),
    fun m => (k.modules m).trans (h.modules m)⟩

/-- The members of a group in given states, from what each module holds. -/
theorem State.members_congr {s t : State} {o : OutletId} {sts : List ModuleState}
    (h : ∀ m, ((t.module m).group = some o ∧ (t.module m).state ∈ sts) ↔
      ((s.module m).group = some o ∧ (s.module m).state ∈ sts)) : t.members o sts = s.members o sts := by
  simp only [State.members, State.group, List.filter_filter]
  refine List.filter_congr fun m _ => ?_
  rw [Bool.eq_iff_iff]
  simpa [and_comm] using h m

theorem State.ratings_congr {s t : State} {ms : List (Fin 8)}
    (h : ∀ m ∈ ms, (t.module m).rating = (s.module m).rating) : t.ratings ms = s.ratings ms := by
  rw [State.ratings, State.ratings, List.map_congr_left h]

namespace SamePool

variable {s t : State}

theorem group_eq (h : SamePool s t) (m : Fin 8) : (t.module m).group = (s.module m).group :=
  congrArg (·.1) (h.modules m)

theorem rating_eq (h : SamePool s t) (m : Fin 8) : (t.module m).rating = (s.module m).rating :=
  congrArg (·.2.1) (h.modules m)

theorem isFree_eq (h : SamePool s t) (m : Fin 8) : (t.module m).isFree = (s.module m).isFree :=
  congrArg (·.2.2.1) (h.modules m)

theorem committed_mem (h : SamePool s t) (m : Fin 8) :
    (t.module m).state ∈ committedStates ↔ (s.module m).state ∈ committedStates := by
  have e : committedStates.contains (t.module m).state = committedStates.contains (s.module m).state :=
    congrArg (·.2.2.2.1) (h.modules m)
  rw [← List.contains_iff_mem, e, List.contains_iff_mem]

theorem supplying_mem (h : SamePool s t) (m : Fin 8) :
    (t.module m).state ∈ [ModuleState.standby, .running] ↔ (s.module m).state ∈ [ModuleState.standby, .running] := by
  have e : [ModuleState.standby, .running].contains (t.module m).state =
      [ModuleState.standby, .running].contains (s.module m).state := congrArg (·.2.2.2.2) (h.modules m)
  rw [← List.contains_iff_mem, e, List.contains_iff_mem]

theorem ratings_eq (h : SamePool s t) (ms : List (Fin 8)) : t.ratings ms = s.ratings ms :=
  State.ratings_congr fun m _ => h.rating_eq m

theorem committed_eq (h : SamePool s t) (o : OutletId) : t.committed o = s.committed o := by
  rw [State.committed, State.committed, h.ratings_eq,
    State.members_congr fun m => and_congr (by rw [h.group_eq]) (h.committed_mem m)]

theorem groupCapacity_eq (h : SamePool s t) (o : OutletId) : t.groupCapacity o = s.groupCapacity o := by
  rw [State.groupCapacity, State.groupCapacity, h.ratings_eq,
    State.members_congr fun m => and_congr (by rw [h.group_eq]) (h.supplying_mem m)]

theorem claim_eq (h : SamePool s t) (o : OutletId) : t.claim o = s.claim o := by
  rw [State.claim, State.claim, h.admitted, h.committed_eq]

theorem claims_eq (h : SamePool s t) : t.claims = s.claims := by
  simp only [State.claims, h.claim_eq]

theorem take_eq (h : SamePool s t) (ms : List (Fin 8)) (n : Nat) : t.take ms n = s.take ms n := by
  induction ms generalizing n with
  | nil => rfl
  | cons m ms ih => simp only [State.take, h.isFree_eq, h.rating_eq, ih]

theorem grantable_eq (h : SamePool s t) (r : Request) : t.grantable r = s.grantable r := by
  simp only [State.grantable, h.take_eq, State.claimsWith, h.claims_eq, h.claim_eq, h.admitted, h.committed_eq,
    h.ratings_eq, h.gridLimit]
  rfl

theorem queueWaits_eq (h : SamePool s t) : t.queueWaits = s.queueWaits := by
  simp only [State.queueWaits, h.grants, h.grantable_eq]

/-- The limit a recomputation gives reads the outlet's own limit and BUDGET_OVER besides. -/
theorem newLimit_eq (h : SamePool s t) (hb : t.budgetOver = s.budgetOver) {o : OutletId}
    (hl : (t.outlet o).limit = (s.outlet o).limit) : t.newLimit o = s.newLimit o := by
  simp only [State.newLimit, h.admitted, h.groupCapacity_eq, hb, hl]

end SamePool

/-- A state that differs in the outlets alone, no admitted capacity among them, has the same pool. -/
theorem SamePool.of_outlets {s t : State} (hm : t.modules = s.modules) (hg : t.grants = s.grants)
    (hl : t.gridLimit = s.gridLimit) (ho : ∀ o, (t.outlet o).session = (s.outlet o).session) : SamePool s t :=
  ⟨hg, hl, fun o => by simp only [State.admitted, ho], fun m => by simp only [State.module, hm]⟩

/-! ### The stages of the settling -/

/-- Every limit is what a recomputation gives (R52). -/
def State.limitsStand (s : State) : Prop := ∀ o, (s.outlet o).limit = s.newLimit o

/-- No outlet's DE_ENERGISING is complete (R21). -/
def State.noneEnds (s : State) : Prop := ∀ o, s.endsNow o = false

theorem State.endsNow_congr {s t : State} {o : OutletId} (hst : (t.outlet o).state = (s.outlet o).state)
    (hsb : (t.outlet o).sb = (s.outlet o).sb) : t.endsNow o = s.endsNow o := by
  simp only [State.endsNow, hst, hsb]

theorem State.endsNow_of_state {s : State} {o : OutletId} (h : (s.outlet o).state ≠ .deEnergising) :
    s.endsNow o = false := by
  simp [State.endsNow, h]

theorem State.recomputeLimit_self (s : State) (o : OutletId) :
    ∃ l, (s.outlet o).link.sentAs l ∧ (s.recomputeLimit o).outlet o =
      { s.outlet o with limit := s.newLimit o, reference := ((s.recomputeLimit o).outlet o).reference, link := l } :=
  (s.recomputeLimit_frame o).2.2.2.1

theorem State.recomputeLimit_state (s : State) (o q : OutletId) :
    ((s.recomputeLimit o).outlet q).state = (s.outlet q).state := by
  obtain ⟨_, hne, _⟩ := s.recomputeLimit_frame o
  by_cases h : q = o
  · subst h
    obtain ⟨l, _, e⟩ := s.recomputeLimit_self q
    rw [e]
  · rw [hne q h]

theorem State.recomputeLimit_sb (s : State) (o q : OutletId) :
    ((s.recomputeLimit o).outlet q).sb = (s.outlet q).sb := by
  obtain ⟨_, hne, _⟩ := s.recomputeLimit_frame o
  by_cases h : q = o
  · subst h
    obtain ⟨l, _, e⟩ := s.recomputeLimit_self q
    rw [e]
  · rw [hne q h]

theorem State.recomputeLimit_session (s : State) (o q : OutletId) :
    ((s.recomputeLimit o).outlet q).session = (s.outlet q).session := by
  obtain ⟨_, hne, _⟩ := s.recomputeLimit_frame o
  by_cases h : q = o
  · subst h
    obtain ⟨l, _, e⟩ := s.recomputeLimit_self q
    rw [e]
  · rw [hne q h]

theorem State.samePool_recomputeLimit (s : State) (o : OutletId) : SamePool s (s.recomputeLimit o) := by
  have e := (s.recomputeLimit_frame o).1
  exact .of_outlets (by rw [e]) (by rw [e]) (by rw [e]) (s.recomputeLimit_session o)

theorem State.recomputeLimit_budget (s : State) (o : OutletId) : (s.recomputeLimit o).budgetOver = s.budgetOver := by
  rw [(s.recomputeLimit_frame o).1]

/-- A limit just recomputed is what a recomputation gives. -/
theorem State.limit_recomputeLimit (s : State) (o : OutletId) :
    ((s.recomputeLimit o).outlet o).limit = (s.recomputeLimit o).newLimit o := by
  have hl := (s.recomputeLimit_frame o).2.2.1
  rw [hl]
  simp only [State.newLimit, (s.samePool_recomputeLimit o).admitted, (s.samePool_recomputeLimit o).groupCapacity_eq,
    s.recomputeLimit_budget, hl]
  split
  · rw [Nat.min_assoc, Nat.min_self]
  · rfl

/-- The recomputation of one limit leaves the others as they stand. -/
theorem State.limit_recomputeLimit_ne {s : State} {o q : OutletId} (hq : q ≠ o)
    (h : (s.outlet q).limit = s.newLimit q) :
    ((s.recomputeLimit o).outlet q).limit = (s.recomputeLimit o).newLimit q := by
  have e := (s.recomputeLimit_frame o).2.1 q hq
  rw [(s.samePool_recomputeLimit o).newLimit_eq (s.recomputeLimit_budget o) (by rw [e]), e, h]

theorem State.limitsStand_recomputeLimits (s : State) : s.recomputeLimits.limitsStand := by
  intro o
  cases o with
  | a =>
    exact State.limit_recomputeLimit_ne (by decide) (State.limit_recomputeLimit_ne (by decide)
      (State.limit_recomputeLimit _ _))
  | b => exact State.limit_recomputeLimit_ne (by decide) (State.limit_recomputeLimit _ _)
  | c => exact State.limit_recomputeLimit _ _

theorem State.samePool_recomputeLimits (s : State) : SamePool s s.recomputeLimits :=
  ((s.samePool_recomputeLimit .a).trans (State.samePool_recomputeLimit _ .b)).trans (State.samePool_recomputeLimit _ .c)

theorem State.recomputeLimits_state (s : State) (q : OutletId) :
    (s.recomputeLimits.outlet q).state = (s.outlet q).state := by
  simp only [State.recomputeLimits, State.recomputeLimit_state]

theorem State.recomputeLimits_sb (s : State) (q : OutletId) : (s.recomputeLimits.outlet q).sb = (s.outlet q).sb := by
  simp only [State.recomputeLimits, State.recomputeLimit_sb]

theorem State.recomputeLimits_budget (s : State) : s.recomputeLimits.budgetOver = s.budgetOver := by
  simp only [State.recomputeLimits, State.recomputeLimit_budget]

theorem State.noneEnds_recomputeLimits {s : State} (h : s.noneEnds) : s.recomputeLimits.noneEnds := fun o => by
  rw [State.endsNow_congr (s.recomputeLimits_state o) (s.recomputeLimits_sb o)]
  exact h o

/-! ### A grant -/

/-- The modules of a grant: off and free before it, precharging after it (R46). -/
theorem State.module_grantTo {s : State} {r : Request} {rest : List Request} {ms : List (Fin 8)} (hms : ms.Nodup)
    (m : Fin 8) :
    (({ s with grants := rest } : State).modifyModules ms (·.grantTo r.outlet r.kind)).module m =
      if m ∈ ms then (s.module m).grantTo r.outlet r.kind else s.module m :=
  State.module_modifyModules _ _ _ _ hms

/-- What a grant leaves of the outlets: the state and phase of the outlet of an initial request, with the reference and
the overload timer that the entry to ENERGISING stops, and nothing of the others. -/
theorem State.grant_outlet (s : State) (r : Request) (rest : List Request) (ms : List (Fin 8)) (q : OutletId) :
    ((s.grant r rest ms).outlet q).limit = (s.outlet q).limit ∧
      ((s.grant r rest ms).outlet q).session = (s.outlet q).session ∧
      ((s.grant r rest ms).outlet q).sb = (s.outlet q).sb ∧
      (((s.grant r rest ms).outlet q).state = (s.outlet q).state ∨
        ((s.grant r rest ms).outlet q).state = .energising) := by
  unfold State.grant
  dsimp only
  split
  · unfold State.startEnergising
    generalize hu : ({ s with grants := rest } : State).modifyModules ms (·.grantTo r.outlet r.kind) = u
    have huo : ∀ q, u.outlet q = s.outlet q := fun q => by rw [← hu, State.outlet_modifyModules]; rfl
    obtain ⟨_, hst, hne, he, _⟩ := u.enter_frame r.outlet .energising
    by_cases hq : q = r.outlet
    · subst hq
      simp only [State.outlet_modify_self, hst, or_true, and_true]
      rw [he, huo]
      exact ⟨rfl, rfl, rfl⟩
    · rw [State.outlet_modify_ne _ _ hq, hne q hq, huo]
      exact ⟨rfl, rfl, rfl, .inl rfl⟩
  · rw [State.outlet_modifyModules]
    exact ⟨rfl, rfl, rfl, .inl rfl⟩

/-- A grant changes no more of the part than the outlets, the modules, the queue and the status unit. -/
theorem State.grant_frame (s : State) (r : Request) (rest : List Request) (ms : List (Fin 8)) :
    s.grant r rest ms = { s with
      grants := rest, outlets := (s.grant r rest ms).outlets, modules := (s.grant r rest ms).modules
      status := (s.grant r rest ms).status } := by
  unfold State.grant
  dsimp only
  rw [State.modifyModules_eq]
  split
  · unfold State.startEnergising
    rw [(State.enter_frame _ _ _).1]
    rfl
  · rfl

/-- The shares aside, the modules of a grant are those it takes. -/
theorem State.grant_module {s : State} {r : Request} {ms : List (Fin 8)} (rest : List Request) (hms : ms.Nodup)
    (m : Fin 8) :
    { (s.grant r rest ms).module m with share := 0 } =
      { if m ∈ ms then (s.module m).grantTo r.outlet r.kind else s.module m with share := 0 } := by
  unfold State.grant
  dsimp only
  split
  · rw [← State.module_grantTo (rest := rest) hms]
    exact (State.enter_frame _ _ _).2.2.2.2.1 m
  · rw [State.module_grantTo hms]

/-- A grant brings no module to STANDBY or RUNNING: the group capacities stand. -/
theorem State.grant_groupCapacity {s : State} {r : Request} {ms : List (Fin 8)} (rest : List Request)
    (h : s.grantable r = some ms) (q : OutletId) : (s.grant r rest ms).groupCapacity q = s.groupCapacity q := by
  obtain ⟨hnd, hfree, _⟩ := State.grantable_spec h
  have hm (m : Fin 8) := State.grant_module rest hnd m (s := s) (r := r)
  have hst (m : Fin 8) : ((s.grant r rest ms).module m).state =
      if m ∈ ms then .precharging else (s.module m).state := by
    have := congrArg Module.state (hm m)
    split at this <;> simpa [*, Module.grantTo] using this
  have hgr (m : Fin 8) (hn : m ∉ ms) : ((s.grant r rest ms).module m).group = (s.module m).group := by
    have := congrArg Module.group (hm m)
    simpa [hn] using this
  have hrt (m : Fin 8) : ((s.grant r rest ms).module m).rating = (s.module m).rating := by
    have := congrArg Module.rating (hm m)
    split at this <;> simpa [Module.grantTo] using this
  rw [State.groupCapacity, State.groupCapacity, State.ratings_congr fun m _ => hrt m]
  congr 1
  refine State.members_congr fun m => ?_
  by_cases hmem : m ∈ ms
  · have := Module.isFree_off (hfree m hmem)
    simp [hst, hmem, this]
  · rw [hst, hgr m hmem, if_neg hmem]

theorem State.limitsStand_grant {s : State} {r : Request} {rest : List Request} {ms : List (Fin 8)}
    (h : s.grantable r = some ms) (hl : s.limitsStand) : (s.grant r rest ms).limitsStand := fun q => by
  obtain ⟨h1, h2, _⟩ := s.grant_outlet r rest ms q
  have hb : (s.grant r rest ms).budgetOver = s.budgetOver := by rw [State.grant_frame]
  simp only [State.newLimit, State.grant_groupCapacity rest h, State.admitted, hb, h1, h2]
  exact hl q

theorem State.noneEnds_grant {s : State} (r : Request) (rest : List Request) (ms : List (Fin 8)) (he : s.noneEnds) :
    (s.grant r rest ms).noneEnds := fun q => by
  obtain ⟨_, _, h3, h4⟩ := s.grant_outlet r rest ms q
  rcases h4 with h4 | h4
  · rw [State.endsNow_congr h4 h3]; exact he q
  · exact State.endsNow_of_state (by rw [h4]; decide)

/-- The examination of the queue ends with a head that waits, the limits and the endings as they stood (R56). -/
theorem State.examine_spec (n : Nat) (s : State) (hn : s.grants.length ≤ n) :
    (s.examine n).queueWaits = true ∧ (s.limitsStand → (s.examine n).limitsStand) ∧
      (s.noneEnds → (s.examine n).noneEnds) := by
  induction n generalizing s with
  | zero =>
    have hg : s.grants = [] := List.length_eq_zero_iff.1 (Nat.le_zero.1 hn)
    exact ⟨by simp [State.examine, State.queueWaits, hg], id, id⟩
  | succ n ih =>
    cases hg : s.grants with
    | nil =>
      have e : s.examine (n + 1) = s := by simp only [State.examine, hg]
      rw [e]
      exact ⟨by simp [State.queueWaits, hg], id, id⟩
    | cons r rest =>
      cases hr : s.grantable r with
      | none =>
        have e : s.examine (n + 1) = s := by simp only [State.examine, hg, hr]
        rw [e]
        exact ⟨by simp [State.queueWaits, hg, hr], id, id⟩
      | some ms =>
        have e : s.examine (n + 1) = (s.grant r rest ms).examine n := by simp only [State.examine, hg, hr]
        have hlen : (s.grant r rest ms).grants.length ≤ n := by
          rw [State.grant_frame]
          simpa [hg] using hn
        obtain ⟨h1, h2, h3⟩ := ih _ hlen
        rw [e]
        exact ⟨h1, fun h => h2 (State.limitsStand_grant hr h), fun h => h3 (State.noneEnds_grant r rest ms h)⟩

/-! ### BUDGET_OVER and the end of PREPARE -/

theorem SamePool.of_budget (s : State) (b : Bool) : SamePool s { s with budgetOver := b } :=
  ⟨rfl, rfl, fun _ => rfl, fun _ => rfl⟩

theorem State.samePool_settleBudget (s : State) : SamePool s s.settleBudget := by
  simp only [State.settleBudget]
  split
  · exact (SamePool.of_budget s false).trans (State.samePool_recomputeLimits _)
  · exact .of_budget s _

/-- BUDGET_OVER follows the claims, and the limits stand (R52, R55). -/
theorem State.settleBudget_spec (s : State) (hl : s.limitsStand) :
    s.settleBudget.budgetOver = decide (s.settleBudget.gridLimit < s.settleBudget.claims) ∧
      s.settleBudget.limitsStand := by
  rw [(s.samePool_settleBudget).claims_eq, (s.samePool_settleBudget).gridLimit]
  simp only [State.settleBudget]
  split
  · next h =>
    refine ⟨?_, State.limitsStand_recomputeLimits _⟩
    rw [State.recomputeLimits_budget]
    simp only [Bool.and_eq_true, Bool.not_eq_true'] at h
    exact h.2.symm
  · next h =>
    refine ⟨rfl, fun o => ?_⟩
    have hn : (({ s with budgetOver := decide (s.gridLimit < s.claims) } : State).newLimit o) =
        if decide (s.gridLimit < s.claims) then min (s.outlet o).limit (min (s.admitted o) (s.groupCapacity o))
        else min (s.admitted o) (s.groupCapacity o) := rfl
    have hs := hl o
    simp only [State.newLimit] at hs
    rw [hn]
    show (s.outlet o).limit = _
    cases hb : s.budgetOver <;> cases hc : decide (s.gridLimit < s.claims)
    · simpa [hb] using hs
    · simp only [hb, Bool.false_eq_true, if_false] at hs
      simp [← hs]
    · simp [hb, hc] at h
    · simpa [hb] using hs

theorem State.noneEnds_settleBudget {s : State} (h : s.noneEnds) : s.settleBudget.noneEnds := by
  simp only [State.settleBudget]
  split
  · exact State.noneEnds_recomputeLimits h
  · exact h

/-- The end of PREPARE at an outlet (R11): its phase, the close request and its answer, and nothing else. -/
theorem State.endPrepare_spec (s : State) (o : OutletId) :
    let t := s.endPrepare o
    t = { s with outlets := t.outlets } ∧ (∀ q, q ≠ o → t.outlet q = s.outlet q) ∧
      t.outlet o = { s.outlet o with
        phase := (t.outlet o).phase, sb := (t.outlet o).sb, closeWanted := (t.outlet o).closeWanted } ∧
      (s.closesNow o = true → (t.outlet o).phase = some .closing) := by
  by_cases hc : s.closesNow o = true
  · generalize hu : (s.modify o fun x => { x with phase := some .closing }) = u
    have e : s.endPrepare o = u.requestSbClose o := by
      rw [← hu, State.endPrepare]
      apply if_pos
      simpa [State.closesNow, and_assoc] using hc
    have hf : u.requestSbClose o = { u with outlets := (u.requestSbClose o).outlets } := by
      unfold State.requestSbClose
      split
      · split <;> rfl
      all_goals rfl
    have huo : u.outlet o = { s.outlet o with phase := some .closing } := by rw [← hu, State.outlet_modify_self]
    obtain ⟨hy, _⟩ := u.requestSbClose_spec o
    have hne := (u.actsAt_requestSbClose o).outlets
    dsimp only
    rw [e]
    refine ⟨?_, fun q hq => ?_, ?_, fun _ => ?_⟩
    · rw [hf, ← hu]; rfl
    · rw [hne q hq, ← hu, State.outlet_modify_ne _ _ hq]
    · conv_lhs => rw [hy]
      rw [huo] at hy ⊢
      rw [hy]
    · rw [hy, huo]
  · have e : s.endPrepare o = s := State.endPrepare_of_not (by simpa using hc)
    dsimp only
    rw [e]
    exact ⟨rfl, fun _ _ => rfl, rfl, fun h => absurd h hc⟩

theorem State.closesNow_congr {s t : State} {o : OutletId} (hm : t.modules = s.modules)
    (hst : (t.outlet o).state = (s.outlet o).state) (hp : (t.outlet o).phase = (s.outlet o).phase) :
    t.closesNow o = s.closesNow o := by
  have hmod : t.module = s.module := by funext m; simp only [State.module, hm]
  simp only [State.closesNow, hst, hp, State.prepared, State.members, State.group, hmod]

/-- After the end of PREPARE at an outlet no PREPARE ends there; the other outlets, the limits, the queue and
BUDGET_OVER are as they were, and no outlet ends for it. -/
theorem State.endPrepare_settles (s : State) (o : OutletId) :
    (s.endPrepare o).closesNow o = false ∧ (∀ q, q ≠ o → (s.endPrepare o).closesNow q = s.closesNow q) ∧
      SamePool s (s.endPrepare o) ∧ (s.endPrepare o).budgetOver = s.budgetOver ∧
      (∀ q, ((s.endPrepare o).outlet q).limit = (s.outlet q).limit) ∧
      (s.noneEnds → (s.endPrepare o).noneEnds) := by
  by_cases hc : s.closesNow o = true
  · obtain ⟨hf, hne, hy, hph⟩ := s.endPrepare_spec o
    have hm : (s.endPrepare o).modules = s.modules := by rw [hf]
    have hst : (s.outlet o).state = .energising := by
      simp only [State.closesNow, Bool.and_eq_true, beq_iff_eq] at hc
      exact hc.1.1
    have hsto : ((s.endPrepare o).outlet o).state = .energising := by rw [hy]; exact hst
    refine ⟨?_, fun q hq => ?_, .of_outlets hm (by rw [hf]) (by rw [hf]) fun q => ?_, by rw [hf], fun q => ?_,
      fun h q => ?_⟩
    · simp [State.closesNow, hph hc]
    · exact State.closesNow_congr hm (by rw [hne q hq]) (by rw [hne q hq])
    all_goals by_cases hq : q = o
    · subst hq; rw [hy]
    · rw [hne q hq]
    · subst hq; rw [hy]
    · rw [hne q hq]
    · subst hq
      exact State.endsNow_of_state (by rw [hsto]; decide)
    · exact (State.endsNow_congr (by rw [hne q hq]) (by rw [hne q hq])).trans (h q)
  · have hc : s.closesNow o = false := by simpa using hc
    rw [State.endPrepare_of_not hc]
    exact ⟨hc, fun _ _ => rfl, .refl s, rfl, fun _ => rfl, id⟩

/-! ### The close of a session at the end of an event -/

/-- The placing of an outlet's held record leaves it at rest or HELD, and touches no other outlet, nor what the
allocator reads (R22, R174). -/
theorem State.tryPlace_frame (s : State) (o : OutletId) :
    let t := s.tryPlace o
    t = { s with log := t.log, outlets := t.outlets, modules := t.modules, status := t.status } ∧
      (∀ q, q ≠ o → t.outlet q = s.outlet q) ∧
      (∀ m, { t.module m with share := 0 } = { s.module m with share := 0 }) ∧
      (∀ m, (s.module m).group ≠ some o → t.module m = s.module m) ∧
      t.status.settings = s.status.settings ∧
      t.outlet o = { s.outlet o with
        state := (t.outlet o).state, held := (t.outlet o).held, phase := (t.outlet o).phase
        reference := (t.outlet o).reference
        handover := { (s.outlet o).handover with overloadTimer := (t.outlet o).handover.overloadTimer } } ∧
      ((s.outlet o).held.isSome → (t.outlet o).state ∈ [OutletState.cabled, .vacant, .held]) := by
  unfold State.tryPlace
  cases hh : (s.outlet o).held with
  | none => exact ⟨rfl, fun _ _ => rfl, fun _ => rfl, fun _ _ => rfl, rfl, rfl, by simp⟩
  | some h =>
    dsimp only
    split
    · generalize hu : (({ s with log := s.log.place h } : State).modify o fun x => { x with held := none }) = u
      obtain ⟨e1, e2, e3, e4, e5, e6, e7⟩ := u.enter_frame o (s.outlet o).restState
      have huo : u.outlet o = { s.outlet o with held := none } := by rw [← hu, State.outlet_modify_self]; rfl
      refine ⟨?_, fun q hq => ?_, fun m => ?_, fun m hm => ?_, ?_, ?_, fun _ => ?_⟩
      · rw [e1, ← hu]; rfl
      · rw [e3 q hq, ← hu, State.outlet_modify_ne _ _ hq]; rfl
      · rw [e5, ← hu]; rfl
      · rw [e6 m (by rw [← hu]; exact hm), ← hu]; rfl
      · rw [e7, ← hu]; rfl
      · rw [huo] at e4
        rw [e4]
      · rw [e2]
        unfold Outlet.restState
        split <;> decide
    · obtain ⟨e1, e2, e3, e4, e5, e6, e7⟩ := s.enter_frame o .held
      refine ⟨by rw [e1], e3, e5, e6, e7, ?_, fun _ => by rw [e2]; decide⟩
      rw [e4]

/-- A session that closes leaves its outlet without one, at rest or HELD, and touches no other outlet. -/
theorem State.closeSession_frame (s : State) (o : OutletId) (cause : EndCause) :
    let t := s.closeSession o cause
    t = { s with log := t.log, outlets := t.outlets, modules := t.modules, status := t.status } ∧
      (∀ q, q ≠ o → t.outlet q = s.outlet q) ∧
      (∀ m, { t.module m with share := 0 } = { s.module m with share := 0 }) ∧
      (∀ m, (s.module m).group ≠ some o → t.module m = s.module m) ∧
      t.status.settings = s.status.settings ∧ (t.outlet o).session = none ∧
      t.outlet o = { s.outlet o with
        state := (t.outlet o).state, held := (t.outlet o).held, phase := (t.outlet o).phase
        session := none, interval := (t.outlet o).interval, endCause := (t.outlet o).endCause
        meter := (t.outlet o).meter, reference := (t.outlet o).reference
        handover := { (s.outlet o).handover with overloadTimer := (t.outlet o).handover.overloadTimer } } ∧
      ((s.outlet o).session.isSome → (t.outlet o).state ∈ [OutletState.cabled, .vacant, .held]) := by
  cases hr : (s.outlet o).session with
  | none =>
    have e : s.closeSession o cause = s := by simp only [State.closeSession, hr]
    have hx (x : Outlet) (h : x.session = none) : x = { x with session := none } := by cases x; cases h; rfl
    dsimp only
    rw [e]
    exact ⟨rfl, fun _ _ => rfl, fun _ => rfl, fun _ _ => rfl, rfl, hr, hx _ hr, by simp⟩
  | some r =>
    simp only [State.closeSession, hr]
    generalize hu : (s.modify o fun x => { x with
      session := none, interval := none, endCause := none, held := some (s.closedRecord o r cause)
      meter := { x.meter with importAcc := 0, exportAcc := 0, heldPower := none } }) = u
    obtain ⟨e1, e2, e3, e4, e5, e6, e7⟩ := u.tryPlace_frame o
    have huo := congrArg (State.outlet · o) hu
    simp only [State.outlet_modify_self] at huo
    have hs : ((u.tryPlace o).outlet o).session = none := by rw [e6, ← huo]
    refine ⟨?_, fun q hq => ?_, fun m => ?_, fun m hm => ?_, ?_, hs, ?_, fun _ => e7 (by rw [← huo]; rfl)⟩
    · rw [e1, ← hu]; rfl
    · rw [e2 q hq, ← hu, State.outlet_modify_ne _ _ hq]
    · rw [e3, ← hu]; rfl
    · rw [e4 m (by rw [← hu]; exact hm), ← hu]; rfl
    · rw [e5, ← hu]; rfl
    · rw [e6, ← huo]

/-- An outlet in DE_ENERGISING has the session that it ends (R18, R21). -/
def State.endsOpen (s : State) : Prop :=
  ∀ o, (s.outlet o).state = .deEnergising → (s.outlet o).session.isSome = true

/-- The completion of an ending touches no other outlet (R21). -/
theorem State.completeEnd_outlet_ne (s : State) {o q : OutletId} (hq : q ≠ o) :
    (s.completeEnd o).outlet q = s.outlet q := by
  simp only [State.completeEnd]
  split
  · rw [(State.closeSession_frame _ _ _).2.1 q hq]
    exact State.outlet_modifyModules _ _ _ _
  · rfl

/-- Where an ending outlet has its session, its ending completes whole (R21). -/
theorem State.completeEnd_spec (s : State) (o : OutletId)
    (h : (s.outlet o).state = .deEnergising → (s.outlet o).session.isSome = true) :
    (s.completeEnd o).endsNow o = false := by
  cases he : s.endsNow o with
  | false => rw [State.completeEnd_of_not he, he]
  | true =>
    simp only [State.endsNow, Bool.and_eq_true, beq_iff_eq, Bool.or_eq_true, Bool.not_eq_true'] at he
    have e : s.completeEnd o = (s.stopGroup o).closeSession o ((s.outlet o).endCause.getD .ended) := if_pos he
    have ho : (s.stopGroup o).outlet o = s.outlet o := State.outlet_modifyModules _ _ _ _
    have hst := ((s.stopGroup o).closeSession_frame o ((s.outlet o).endCause.getD .ended)).2.2.2.2.2.2.2
      (by rw [ho]; exact h he.1)
    rw [e]
    refine State.endsNow_of_state fun hd => ?_
    rw [hd] at hst
    exact absurd hst (by decide)

/-- Every ending that is due completes (R21). -/
def State.completeEnds (s : State) : State := ((s.completeEnd .a).completeEnd .b).completeEnd .c

theorem State.noneEnds_completeEnds {s : State} (h : s.endsOpen) : s.completeEnds.noneEnds := by
  have keep (u : State) {o q : OutletId} (hq : q ≠ o) : (u.completeEnd o).endsNow q = u.endsNow q :=
    State.endsNow_congr (by rw [u.completeEnd_outlet_ne hq]) (by rw [u.completeEnd_outlet_ne hq])
  intro o
  unfold State.completeEnds
  cases o with
  | a =>
    rw [keep _ (by decide), keep _ (by decide)]
    exact s.completeEnd_spec .a (h .a)
  | b =>
    rw [keep _ (by decide)]
    refine State.completeEnd_spec _ .b ?_
    rw [s.completeEnd_outlet_ne (by decide)]
    exact h .b
  | c =>
    refine State.completeEnd_spec _ .c ?_
    rw [State.completeEnd_outlet_ne _ (by decide), State.completeEnd_outlet_ne _ (by decide)]
    exact h .c

/-! ### The settled part -/

/-- The capacity limits, the queue and BUDGET_OVER settle (R52, R55, R56). -/
theorem State.reallocate_settles {s : State} (he : s.noneEnds) :
    s.reallocate.limitsStand ∧ s.reallocate.queueWaits = true ∧ s.reallocate.noneEnds ∧
      s.reallocate.budgetOver = decide (s.reallocate.gridLimit < s.reallocate.claims) := by
  obtain ⟨q1, q2, q3⟩ := State.examine_spec s.recomputeLimits.grants.length s.recomputeLimits (Nat.le_refl _)
  obtain ⟨b1, b2⟩ := State.settleBudget_spec _ (q2 s.limitsStand_recomputeLimits)
  refine ⟨b2, ?_, State.noneEnds_settleBudget (q3 (State.noneEnds_recomputeLimits he)), b1⟩
  show State.queueWaits (State.settleBudget _) = true
  rw [(State.samePool_settleBudget _).queueWaits_eq]
  exact q1

/-- What an event settles is settled, but for the conditions that are yet to be reported (R11, R21, R52, R55, R56). -/
theorem State.settle_settles {s : State} (h : s.endsOpen) :
    (∀ o, s.settle.endsNow o = false ∧ (s.settle.outlet o).limit = s.settle.newLimit o ∧
        s.settle.closesNow o = false) ∧
      s.settle.queueWaits = true ∧ s.settle.budgetOver = decide (s.settle.gridLimit < s.settle.claims) := by
  obtain ⟨hl, hq, he, hb⟩ := State.reallocate_settles (State.noneEnds_completeEnds h)
  have hset : s.settle = ((s.completeEnds.reallocate.endPrepare .a).endPrepare .b).endPrepare .c := rfl
  generalize s.completeEnds.reallocate = u at hl hq he hb hset
  obtain ⟨a1, a2, a3, a4, a5, a6⟩ := u.endPrepare_settles .a
  obtain ⟨b1, b2, b3, b4, b5, b6⟩ := (u.endPrepare .a).endPrepare_settles .b
  obtain ⟨c1, c2, c3, c4, c5, c6⟩ := ((u.endPrepare .a).endPrepare .b).endPrepare_settles .c
  rw [← hset] at c1 c2 c3 c4 c5 c6
  have pool : SamePool u s.settle := (a3.trans b3).trans c3
  have budget : s.settle.budgetOver = u.budgetOver := (c4.trans b4).trans a4
  have limit (o : OutletId) : (s.settle.outlet o).limit = (u.outlet o).limit := ((c5 o).trans (b5 o)).trans (a5 o)
  refine ⟨fun o => ⟨c6 (b6 (a6 he)) o, ?_, ?_⟩, by rw [pool.queueWaits_eq, hq], ?_⟩
  · rw [pool.newLimit_eq budget (limit o), limit, hl o]
  · cases o with
    | a => rw [c2 .a (by decide), b2 .a (by decide), a1]
    | b => rw [c2 .b (by decide), b1]
    | c => exact c1
  · rw [budget, pool.claims_eq, pool.gridLimit, hb]

/-- What stands settled but for the status unit's levels is settled once the owners have reported (R193). -/
theorem State.settled_reportAll {s : State}
    (h : ∀ o, s.endsNow o = false ∧ (s.outlet o).limit = s.newLimit o ∧ s.closesNow o = false)
    (hq : s.queueWaits = true) (hb : s.budgetOver = decide (s.gridLimit < s.claims)) : s.reportAll.settled = true := by
  obtain ⟨e, hst, _⟩ := s.reportAll_spec
  generalize hu : s.reportAll.status = u at e
  rw [State.settled_iff]
  refine ⟨?_, ?_, ?_, hst⟩ <;> rw [e]
  · exact h
  · exact hq
  · exact hb

theorem State.reportAll_phase (s : State) : s.reportAll.phase = s.phase := by rw [s.reportAll_spec.1]

/-- The end of an event in a running part leaves it settled, where each ending outlet has its session. -/
theorem State.finish_settled {s : State} (hp : s.phase = .running) (h : s.endsOpen) : s.finish.settled = true := by
  obtain ⟨h1, h2, h3⟩ := State.settle_settles h
  rw [State.finish, whenRunning_of_running hp]
  exact State.settled_reportAll h1 h2 h3

end Sys2Proof.Machine
end

section
/-! Which acts keep the session of an ending outlet: every shared operation but the endings themselves enters no
DE_ENERGISING and closes no session. -/

namespace Sys2Proof.Machine

/-- Between `s` and `t` no outlet has entered DE_ENERGISING and no session has closed, in the same phase of the part. -/
structure Calm (s t : State) : Prop where
  phase : t.phase = s.phase
  ends : ∀ o, (t.outlet o).state = .deEnergising → (s.outlet o).state = .deEnergising
  session : ∀ o, (s.outlet o).session.isSome = true → (t.outlet o).session.isSome = true

theorem Calm.refl (s : State) : Calm s s := ⟨rfl, fun _ => id, fun _ => id⟩

theorem Calm.trans {s t u : State} (h : Calm s t) (k : Calm t u) : Calm s u :=
  ⟨k.phase.trans h.phase, fun o ho => h.ends o (k.ends o ho), fun o ho => k.session o (h.session o ho)⟩

theorem Calm.ite {s a b : State} {p : Prop} [Decidable p] (h : p → Calm s a) (k : ¬p → Calm s b) :
    Calm s (if p then a else b) := by
  split
  · next e => exact h e
  · next e => exact k e

theorem Calm.foldl {α : Type} {f : State → α → State} (h : ∀ s a, Calm s (f s a)) (xs : List α) (s : State) :
    Calm s (xs.foldl f s) := by
  induction xs generalizing s with
  | nil => exact .refl s
  | cons x xs ih => exact (h s x).trans (ih _)

/-- An act that touches no outlet. -/
theorem Calm.of_outlets {s t : State} (hp : t.phase = s.phase) (h : ∀ o, t.outlet o = s.outlet o) : Calm s t :=
  ⟨hp, fun o ho => by rwa [h] at ho, fun o ho => by rwa [h]⟩

theorem Calm.endsOpen {s t : State} (h : Calm s t) (hs : s.endsOpen) : t.endsOpen :=
  fun o ho => h.session o (hs o (h.ends o ho))

/-! ### Updates -/

theorem State.calm_modify (s : State) (o : OutletId) (f : Outlet → Outlet)
    (hst : (f (s.outlet o)).state = (s.outlet o).state)
    (hse : (f (s.outlet o)).session.isSome = (s.outlet o).session.isSome) : Calm s (s.modify o f) := by
  refine ⟨rfl, fun q hq => ?_, fun q hq => ?_⟩
  all_goals by_cases h : q = o
  · subst h; simpa [hst] using hq
  · simpa [h] using hq
  · subst h; simpa [hse] using hq
  · simpa [h] using hq

theorem State.calm_modifyPb (s : State) (o : OutletId) (f : ParallelBreaker → ParallelBreaker) :
    Calm s (s.modifyPb o f) := s.calm_modify o _ rfl rfl

theorem State.calm_modifySb (s : State) (o : OutletId) (f : ShoreBreaker → ShoreBreaker) :
    Calm s (s.modifySb o f) := s.calm_modify o _ rfl rfl

theorem State.calm_modifyLink (s : State) (o : OutletId) (f : ShipLink → ShipLink) :
    Calm s (s.modifyLink o f) := s.calm_modify o _ rfl rfl

theorem State.calm_modifyRef (s : State) (o : OutletId) (f : Reference → Reference) :
    Calm s (s.modifyRef o f) := s.calm_modify o _ rfl rfl

theorem State.calm_modifyCheck (s : State) (o : OutletId) (f : SyncCheck → SyncCheck) :
    Calm s (s.modifyCheck o f) := s.calm_modify o _ rfl rfl

theorem State.calm_modifyHandover (s : State) (o : OutletId) (f : Handover → Handover) :
    Calm s (s.modifyHandover o f) := s.calm_modify o _ rfl rfl

theorem State.calm_modifySession (s : State) (o : OutletId) (f : Session → Session) :
    Calm s (s.modifySession o f) := s.calm_modify o _ rfl (by simp)

theorem State.calm_modifyModule (s : State) (m : Fin 8) (f : Module → Module) : Calm s (s.modifyModule m f) :=
  .of_outlets rfl fun _ => rfl

theorem State.calm_modifyModules (s : State) (ms : List (Fin 8)) (f : Module → Module) :
    Calm s (s.modifyModules ms f) :=
  .of_outlets (by rw [State.modifyModules_eq]) fun _ => State.outlet_modifyModules _ _ _ _

theorem State.calm_elapse (s : State) (n : Nat) : Calm s (s.elapse n) :=
  ⟨rfl, fun o ho => by simpa [Outlet.elapse] using ho, fun o ho => by simpa [Outlet.elapse] using ho⟩

theorem State.calm_atExpiry (s : State) (t : Timer) (act : State → State) (h : ∀ u, Calm u (act u)) :
    Calm s (s.atExpiry t act) := by
  cases t with
  | none => exact .refl s
  | some n => exact (s.calm_elapse n).trans (h _)

/-! ### The status unit and the replies -/

theorem State.calm_raiseAt (s : State) (o : OutletId) (x : Item) : Calm s (s.raiseAt o x) :=
  .of_outlets rfl fun _ => rfl

theorem State.calm_raiseSome (s : State) (o : OutletId) (x : Option Item) : Calm s (s.raiseSome o x) := by
  cases x with
  | none => exact .refl s
  | some x => exact s.calm_raiseAt o x

theorem State.calm_reportAll (s : State) : Calm s s.reportAll := by
  obtain ⟨e, _⟩ := s.reportAll_spec
  generalize s.reportAll.status = u at e
  rw [e]
  exact .of_outlets rfl fun _ => rfl

theorem State.calm_answer (s : State) (r : Reply) : Calm s (s.answer r) := .of_outlets rfl fun _ => rfl

theorem State.calm_pushError (s : State) (code : Nat) (text : String) : Calm s (s.pushError code text) :=
  .of_outlets rfl fun _ => rfl

theorem State.calm_refuse (s : State) (code : Nat) (text : String) : Calm s (s.refuse code text) :=
  .of_outlets rfl fun _ => rfl

theorem State.calm_no (s : State) (code : Nat) : Calm s (s.no code) := s.calm_refuse code _

/-! ### The ship link's transmit queue -/

theorem State.calm_send (s : State) (o : OutletId) (f : ShoreFrame) : Calm s (s.send o f) := by
  obtain ⟨l, e, _⟩ := s.send_spec o f
  rw [e]; exact s.calm_modifyLink o _

theorem State.calm_sendStatus (s : State) (o : OutletId) : Calm s (s.sendStatus o) := by
  obtain ⟨l, e, _⟩ := s.sendStatus_spec o
  rw [e]; exact s.calm_modifyLink o _

theorem State.calm_sendRefuse (s : State) (o : OutletId) (type : Byte) (cause : RefuseCause) :
    Calm s (s.sendRefuse o type cause) := by
  obtain ⟨l, e, _⟩ := s.sendRefuse_spec o type cause
  rw [e]; exact s.calm_modifyLink o _

theorem State.calm_startSending (s : State) (o : OutletId) : Calm s (s.startSending o) := by
  obtain ⟨l, e, _⟩ := s.startSending_spec o
  rw [e]; exact s.calm_modifyLink o _

/-! ### States, shares, limits and the queue -/

theorem State.calm_enter (s : State) (o : OutletId) {st : OutletState} (h : st ≠ .deEnergising) :
    Calm s (s.enter o st) := by
  obtain ⟨e, hst, hne, ho, _⟩ := s.enter_frame o st
  refine ⟨by rw [e], fun q hq => ?_, fun q hq => ?_⟩
  all_goals by_cases hqo : q = o
  · subst hqo; rw [hst] at hq; exact absurd hq h
  · rwa [hne q hqo] at hq
  · subst hqo; rw [ho]; exact hq
  · rwa [hne q hqo]

theorem State.calm_computeShares (s : State) (o : OutletId) : Calm s (s.computeShares o) :=
  .of_outlets (by rw [(s.computeShares_frame o).1]) fun _ => s.outlet_computeShares o _

theorem State.calm_recomputeLimit (s : State) (o : OutletId) : Calm s (s.recomputeLimit o) :=
  ⟨by rw [(s.recomputeLimit_frame o).1], fun q hq => by rwa [s.recomputeLimit_state] at hq,
    fun q hq => by rwa [s.recomputeLimit_session]⟩

theorem State.calm_recomputeLimits (s : State) : Calm s s.recomputeLimits :=
  ((s.calm_recomputeLimit .a).trans (State.calm_recomputeLimit _ .b)).trans (State.calm_recomputeLimit _ .c)

theorem State.calm_grant (s : State) (r : Request) (rest : List Request) (ms : List (Fin 8)) :
    Calm s (s.grant r rest ms) := by
  refine ⟨by rw [s.grant_frame], fun q hq => ?_, fun q hq => ?_⟩
  · rcases (s.grant_outlet r rest ms q).2.2.2 with h | h
    · rwa [h] at hq
    · rw [h] at hq; cases hq
  · rwa [(s.grant_outlet r rest ms q).2.1]

theorem State.calm_examine (n : Nat) (s : State) : Calm s (s.examine n) := by
  induction n generalizing s with
  | zero => exact .refl s
  | succ n ih =>
    simp only [State.examine]
    split
    · exact .refl s
    · split
      · exact .refl s
      · exact (s.calm_grant _ _ _).trans (ih _)

theorem State.calm_settleBudget (s : State) : Calm s s.settleBudget := by
  simp only [State.settleBudget]
  refine .ite (fun _ => .trans ?_ (State.calm_recomputeLimits _)) fun _ => .of_outlets rfl fun _ => rfl
  exact .of_outlets rfl fun _ => rfl

theorem State.calm_reallocate (s : State) : Calm s s.reallocate :=
  (s.calm_recomputeLimits.trans (State.calm_examine _ _)).trans (State.calm_settleBudget _)

theorem State.calm_ask (s : State) (o : OutletId) (kind : RequestKind) (wanted : Nat) :
    Calm s (s.ask o kind wanted) := by
  unfold State.ask
  exact .ite (fun _ => .of_outlets rfl fun _ => rfl) fun _ => .of_outlets rfl fun _ => rfl

theorem State.calm_withdraw (s : State) (o : OutletId) : Calm s (s.withdraw o) := .of_outlets rfl fun _ => rfl

theorem State.calm_topUp (s : State) (o : OutletId) : Calm s (s.topUp o) := by
  unfold State.topUp
  exact .ite (fun _ => s.calm_ask _ _ _) fun _ => s.calm_withdraw o

theorem State.calm_adjustTopUp (s : State) (o : OutletId) : Calm s (s.adjustTopUp o) := by
  unfold State.adjustTopUp
  exact .ite (fun _ => s.calm_topUp o) fun _ => .refl s

theorem State.calm_stopGroup (s : State) (o : OutletId) : Calm s (s.stopGroup o) := s.calm_modifyModules _ _

theorem State.calm_runGroup (s : State) (o : OutletId) : Calm s (s.runGroup o) :=
  (s.calm_modifyModules _ _).trans (State.calm_computeShares _ o)

theorem State.calm_testRelease (s : State) (o : OutletId) : Calm s (s.testRelease o) := by
  simp only [State.testRelease]
  exact .ite (fun _ => (s.calm_modifyModules _ _).trans (State.calm_computeShares _ o)) fun _ => .refl s

theorem State.calm_markSurplus (s : State) (o : OutletId) : Calm s (s.markSurplus o) :=
  (s.calm_modifyModules _ _).trans (State.calm_modifyModules _ _ _)

theorem State.calm_decrease (s : State) (o : OutletId) (kW : Nat) : Calm s (s.decrease o kW) :=
  (((((((s.calm_modifySession o _).trans (State.calm_recomputeLimit _ o)).trans (State.calm_markSurplus _ o)).trans
    (State.calm_modifyModules _ _ _)).trans (State.calm_adjustTopUp _ o)).trans (State.calm_testRelease _ o)).trans
      (State.calm_recomputeLimit _ o))

/-! ### The breakers and the trips -/

theorem State.calm_requestPbTrip (s : State) (o : OutletId) : Calm s (s.requestPbTrip o) := s.calm_modifyPb o _

theorem State.calm_requestSbClose (s : State) (o : OutletId) : Calm s (s.requestSbClose o) := by
  unfold State.requestSbClose
  split
  · exact .ite (fun _ => s.calm_modify o _ rfl rfl) fun _ => s.calm_modify o _ rfl rfl
  all_goals exact s.calm_modify o _ rfl rfl

theorem State.calm_sbOpenReport (s : State) (o : OutletId) : Calm s (s.sbOpenReport o) := by
  simp only [State.sbOpenReport]
  exact .ite (fun _ => s.calm_requestSbClose o) fun _ => .refl s

theorem State.calm_requestSbOpen (s : State) (o : OutletId) : Calm s (s.requestSbOpen o) := by
  simp only [State.requestSbOpen]
  have h : Calm s (if (s.outlet o).sb.channel = .closed then
      (s.modifySb o ShoreBreaker.requestOpen).modifyPb o ParallelBreaker.cancelClose
      else s.modifySb o ShoreBreaker.requestOpen) :=
    .ite (fun _ => (s.calm_modifySb o _).trans (State.calm_modifyPb _ o _)) fun _ => s.calm_modifySb o _
  exact .ite (fun _ => h.trans (State.calm_sbOpenReport _ o)) fun _ => h

theorem State.calm_openBreakers (s : State) (o : OutletId) : Calm s (s.openBreakers o) :=
  (s.calm_requestSbOpen o).trans (State.calm_requestPbTrip _ o)

theorem State.calm_openOnLoss (s : State) (o : OutletId) : Calm s (s.openOnLoss o) := by
  unfold State.openOnLoss
  refine Calm.trans ?_ (State.calm_modifyPb _ o _)
  split
  · exact s.calm_requestSbOpen o
  · exact s.calm_requestSbOpen o
  · exact .refl s

theorem State.calm_tripNotice (s : State) (o : OutletId) (cause : TripCause) : Calm s (s.tripNotice o cause) :=
  (s.calm_modifySession o _).trans (State.calm_send _ o _)

theorem State.calm_halt (s : State) (o : OutletId) : Calm s (s.modify o Outlet.halt) := s.calm_modify o _ rfl rfl

theorem State.calm_trip (s : State) (o : OutletId) (cause : TripCause) : Calm s (s.trip o cause) := by
  simp only [State.trip]
  refine .ite (fun _ => ?_) fun _ => .ite (fun _ => .trans ?_ (State.calm_tripNotice _ o _)) fun _ => .refl s
  · have h : Calm s (if cause.commandsBoth then (s.modify o Outlet.halt).openBreakers o else s.modify o Outlet.halt) :=
      .ite (fun _ => (s.calm_halt o).trans (State.calm_openBreakers _ o)) fun _ => s.calm_halt o
    exact ((((h.trans (State.calm_withdraw _ o)).trans (State.calm_tripNotice _ o _)).trans
      (State.calm_stopGroup _ o)).trans (State.calm_recomputeLimit _ o)).trans (State.calm_enter _ o (by decide))
  · exact .ite (fun _ => s.calm_openBreakers o) fun _ => .refl s

theorem State.calm_survive (s : State) (o : OutletId) (marks : Bool) : Calm s (s.survive o marks) := by
  simp only [State.survive]
  exact (s.calm_recomputeLimit o).trans (.trans (.ite (fun _ => State.calm_markSurplus _ o) fun _ => .refl _)
    (State.calm_topUp _ o))

theorem State.calm_memberLost (s : State) (o : OutletId) (marks : Bool) : Calm s (s.memberLost o marks) := by
  simp only [State.memberLost]
  refine (s.calm_computeShares o).trans (.ite (fun _ => .ite (fun _ => State.calm_trip _ o _)
    fun _ => State.calm_survive _ o _) fun _ => .ite (fun _ => .ite (fun _ => ?_)
    fun _ => State.calm_survive _ o _) fun _ => State.calm_recomputeLimit _ o)
  exact (State.calm_stopGroup _ o).trans (State.calm_trip _ o _)

theorem State.calm_faultModule (s : State) (m : Fin 8) (code : FaultCode) : Calm s (s.faultModule m code) := by
  unfold State.faultModule
  split
  · exact (s.calm_modifyModule m _).trans (State.calm_memberLost _ _ _)
  · exact .ite (fun _ => s.calm_modifyModule m _) fun _ => s.calm_modifyModule m _

/-! ### The synchronising check and the handover -/

theorem State.calm_leaveSync (s : State) (o : OutletId) (out : SyncOutcome) : Calm s (s.leaveSync o out) := by
  simp only [State.leaveSync]
  refine Calm.trans (Calm.trans ?_ (State.calm_raiseSome _ o _)) (State.calm_enter _ o (by decide))
  exact s.calm_modify o _ rfl rfl

theorem State.calm_abandonSync (s : State) (o : OutletId) (out : SyncOutcome) : Calm s (s.abandonSync o out) := by
  unfold State.abandonSync
  split
  · exact s.calm_leaveSync o out
  · exact (s.calm_requestPbTrip o).trans (State.calm_modifyCheck _ o _)
  · exact s.calm_modifyCheck o _
  · exact .refl s

theorem State.calm_failAttempt (s : State) (o : OutletId) : Calm s (s.failAttempt o) :=
  (s.calm_modifyCheck o _).trans (State.calm_raiseAt _ o _)

theorem State.calm_requestClose (s : State) (o : OutletId) (p : Profile) : Calm s (s.requestClose o p) := by
  unfold State.requestClose
  split
  · refine Calm.trans ?_ (State.calm_modifySession _ o _)
    exact s.calm_modify o _ rfl rfl
  · exact s.calm_modifyCheck o _

theorem State.calm_evaluate (s : State) (o : OutletId) : Calm s (s.evaluate o) := by
  simp only [State.evaluate]
  split
  · exact .refl s
  · split
    · exact s.calm_modifyCheck o _
    · exact (s.calm_modifyCheck o _).trans (.ite (fun _ => State.calm_requestClose _ o _) fun _ => .refl _)

theorem State.calm_endRecovery (s : State) (o : OutletId) : Calm s (s.endRecovery o).1 := by
  unfold State.endRecovery
  split
  · exact s.calm_leaveSync o _
  · exact s.calm_modifyCheck o fun r => { r with state := .evaluating }

theorem State.calm_deliverShip (s : State) (o : OutletId) (d : Delivery) : Calm s (s.deliverShip o d) := by
  unfold State.deliverShip
  split
  · exact .refl s
  · refine .ite (fun _ => ?_) fun _ => .refl s
    exact (s.calm_endRecovery o).trans (.ite (fun _ => State.calm_evaluate _ o) fun _ => .refl _)
  · exact .ite (fun _ => s.calm_evaluate o) fun _ => s.calm_modifyCheck o _

theorem State.calm_separate (s : State) (o : OutletId) (cause : SeparationCause) (event : Option Item) :
    Calm s (s.separate o cause event) := by
  simp only [State.separate]
  exact (((s.calm_requestPbTrip o).trans (State.calm_modifyHandover _ o _)).trans
    (State.calm_raiseSome _ o _)).trans (State.calm_enter _ o (by decide))

theorem State.calm_completeSeparation (s : State) (o : OutletId) : Calm s (s.completeSeparation o) := by
  unfold State.completeSeparation
  exact .ite (fun _ => (s.calm_raiseAt o _).trans (State.calm_enter _ o (by decide))) fun _ => .refl s

theorem State.calm_closeMade (s : State) (o : OutletId) : Calm s (s.closeMade o) := by
  simp only [State.closeMade]
  refine Calm.trans (Calm.trans ?_ (State.calm_raiseAt _ o _)) (State.calm_enter _ o (by decide))
  exact s.calm_modify o _ rfl rfl

theorem State.calm_lateClosure (s : State) (o : OutletId) : Calm s (s.lateClosure o) := by
  simp only [State.lateClosure]
  refine Calm.trans (Calm.trans ?_ (State.calm_raiseAt _ o _)) (State.calm_enter _ o (by decide))
  exact s.calm_modify o _ rfl rfl

theorem State.calm_judgeClosure (s : State) (o : OutletId) : Calm s (s.judgeClosure o) := by
  simp only [State.judgeClosure]
  exact .ite (fun _ => s.calm_lateClosure o) fun _ => .ite (fun _ => s.calm_trip o _) fun _ =>
    .ite (fun _ => s.calm_requestPbTrip o) fun _ => .refl s

theorem State.calm_pbOpenReport (s : State) (o : OutletId) : Calm s (s.pbOpenReport o) := by
  unfold State.pbOpenReport
  exact .ite (fun _ => s.calm_endRecovery o) fun _ => s.calm_completeSeparation o

theorem State.calm_pbOpenedReport (s : State) (o : OutletId) : Calm s (s.pbOpenedReport o) := by
  simp only [State.pbOpenedReport]
  exact .ite (fun _ => ((s.calm_modifyHandover o _).trans (State.calm_raiseAt _ o _)).trans
    (State.calm_enter _ o (by decide))) fun _ => .refl s

theorem Outlet.monitorOverload_frame (x : Outlet) :
    x.monitorOverload = { x with
      handover := { x.handover with overloadTimer := x.monitorOverload.handover.overloadTimer } } := by
  unfold Outlet.monitorOverload
  split
  · rfl
  · split <;> rfl

theorem State.calm_monitorOverload (s : State) (o : OutletId) : Calm s (s.modify o Outlet.monitorOverload) :=
  s.calm_modify o _ (by rw [Outlet.monitorOverload_frame]) (by rw [Outlet.monitorOverload_frame])

theorem State.calm_deliverPower (s : State) (o : OutletId) (d : Delivery) : Calm s (s.deliverPower o d) := by
  simp only [State.deliverPower]
  exact (s.calm_monitorOverload o).trans (.trans (.ite (fun _ => State.calm_separate _ o _ _) fun _ => .refl _)
    (State.calm_testRelease _ o))

theorem State.calm_deliverCable (s : State) (o : OutletId) (d : Delivery) : Calm s (s.deliverCable o d) := by
  simp only [State.deliverCable]
  have h : Calm s (if (s.outlet o).isVerified then
      (s.modify o fun x => { x with energiseTimer := none }).enter o .cableLive else s.completeSeparation o) := by
    refine .ite (fun _ => Calm.trans ?_ (State.calm_enter _ o (by decide))) fun _ => s.calm_completeSeparation o
    exact s.calm_modify o _ rfl rfl
  exact .ite (fun _ => h) fun _ => h.trans (State.calm_deliverPower _ o d)

/-! ### Interlocks, breaker feedback and timers -/

theorem State.calm_movePlug (s : State) (o : OutletId) (made : Bool) : Calm s (s.movePlug o made) := by
  unfold State.movePlug
  split
  · exact s.calm_enter o (by decide)
  · exact s.calm_enter o (by decide)
  · refine Calm.trans ?_ (State.calm_enter _ o (by decide))
    exact s.calm_modify o _ rfl rfl
  · exact .refl s

theorem State.calm_takeLinkDown (s : State) (o : OutletId) : Calm s (s.takeLinkDown o) := by
  have h := s.calm_modifyHandover o fun h => { h with shipStatus := none }
  simp only [State.takeLinkDown]
  split
  · refine Calm.trans (h.trans ?_) (State.calm_enter _ o (by decide))
    exact State.calm_modify _ o _ rfl rfl
  · exact h.trans (State.calm_abandonSync _ o _)
  · exact h.trans (State.calm_separate _ o _ _)
  · exact h

theorem State.calm_linkDown (s : State) (o : OutletId) (cause : DownCause) : Calm s (s.linkDown o cause) := by
  unfold State.linkDown
  exact .ite (fun _ => (s.calm_modifyLink o _).trans (State.calm_takeLinkDown _ o)) fun _ => .refl s

theorem State.calm_deliverInterlock (s : State) (o : OutletId) (input : InterlockInput) (made : Bool) :
    Calm s (s.deliverInterlock o input made) := by
  unfold State.deliverInterlock
  exact .ite (fun _ => .refl s) fun _ => s.calm_trip o _

theorem State.calm_changeInput (s : State) (o : OutletId) (i : Interlock) (made : Bool) :
    Calm s (s.changeInput o i made) := by
  simp only [State.changeInput]
  refine .ite (fun _ => .refl s) fun _ => ?_
  have h : Calm s (s.modify o fun x => { x with interlocks := x.interlocks.set i made }) := s.calm_modify o _ rfl rfl
  generalize (s.modify o fun x => { x with interlocks := x.interlocks.set i made }) = u at h ⊢
  have h : Calm s ((if made then u else u.openOnLoss o).deliverInterlock o (.ofOutlet o i) made) :=
    h.trans (.trans (.ite (fun _ => .refl _) fun _ => u.calm_openOnLoss o) (State.calm_deliverInterlock _ o _ _))
  refine .ite (fun _ => ?_) fun _ => h
  have k := h.trans (State.calm_movePlug _ o made)
  exact .ite (fun _ => k) fun _ => k.trans (State.calm_linkDown _ o _)

theorem State.calm_changeEstopAll (s : State) (made : Bool) : Calm s (s.changeEstopAll made) := by
  simp only [State.changeEstopAll]
  refine .ite (fun _ => .refl s) fun _ => ?_
  have h : Calm s { s with estopAllMade := made } := .of_outlets rfl fun _ => rfl
  refine (h.trans (.ite (fun _ => .refl _) fun _ => ?_)).trans (.foldl (fun u o => u.calm_deliverInterlock o _ _) _ _)
  exact .foldl (fun u o => u.calm_openOnLoss o) _ _

theorem State.calm_enterRamp (s : State) (o : OutletId) : Calm s (s.enterRamp o) :=
  (s.calm_runGroup o).trans (State.calm_modify _ o _ rfl rfl)

theorem State.calm_sbClosedReport (s : State) (o : OutletId) : Calm s (s.sbClosedReport o) := by
  unfold State.sbClosedReport
  exact .ite (fun _ => s.calm_enterRamp o) fun _ => .refl s

theorem State.calm_sbCloses (s : State) (o : OutletId) : Calm s (s.sbCloses o) := by
  simp only [State.sbCloses]
  have h := s.calm_modifySb o fun b => { b with feedback := true }
  split
  · exact h.trans ((State.calm_modifySb _ o _).trans (State.calm_sbClosedReport _ o))
  · exact h.trans (State.calm_modifySb _ o _)
  · exact h

theorem State.calm_sbOpens (s : State) (o : OutletId) : Calm s (s.sbOpens o) := by
  simp only [State.sbOpens]
  have h := s.calm_modifySb o fun b => { b with feedback := false }
  split
  · exact h.trans (((State.calm_modifySb _ o _).trans (State.calm_requestPbTrip _ o)).trans (State.calm_trip _ o _))
  · exact h.trans ((State.calm_modifySb _ o _).trans (State.calm_sbOpenReport _ o))
  · exact h.trans ((State.calm_modifySb _ o _).trans (State.calm_sbOpenReport _ o))
  · exact h

theorem State.calm_pbCloses (s : State) (o : OutletId) : Calm s (s.pbCloses o) := by
  simp only [State.pbCloses]
  have h := s.calm_modifyPb o fun b => { b with feedback := true }
  split
  · exact h.trans ((State.calm_modifyPb _ o _).trans (.ite (fun _ => State.calm_closeMade _ o) fun _ => .refl _))
  · exact h
  · exact h.trans (State.calm_judgeClosure _ o)

theorem State.calm_pbOpens (s : State) (o : OutletId) : Calm s (s.pbOpens o) := by
  simp only [State.pbOpens]
  have h := s.calm_modifyPb o fun b => { b with feedback := false, stuckSet := false }
  split
  · exact h.trans ((State.calm_modifyPb _ o _).trans (State.calm_pbOpenReport _ o))
  · exact h.trans ((State.calm_modifyPb _ o _).trans (State.calm_pbOpenReport _ o))
  · exact h.trans (State.calm_pbOpenedReport _ o)
  · exact h

theorem State.calm_syncExpires (s : State) (o : OutletId) : Calm s (s.syncExpires o) := by
  simp only [State.syncExpires]
  have h := s.calm_modifyCheck o fun r => { r with syncTimer := none }
  split
  · exact h.trans (State.calm_leaveSync _ o _)
  · exact h.trans (State.calm_modifyCheck _ o _)
  · exact h.trans (State.calm_modifyCheck _ o _)
  · exact h

/-! ### The modules -/

theorem State.calm_moduleAnswers (s : State) (m : Fin 8) : Calm s (s.moduleAnswers m) := s.calm_modifyModule m _

theorem State.calm_standBy (s : State) (m : Fin 8) : Calm s (s.standBy m) := by
  unfold State.standBy
  dsimp only
  have h := s.calm_modifyModule m fun x => { x with state := .standby, selfTest := none }
  split
  · exact h
  · exact .ite (fun _ => h.trans (State.calm_runGroup _ _)) fun _ => h

theorem State.calm_takeCharged (s : State) (m : Fin 8) : Calm s (s.takeCharged m) := by
  unfold State.takeCharged
  exact .ite (fun _ => s.calm_modifyModule m _) fun _ => .refl s

theorem State.calm_takeResult (s : State) (m : Fin 8) (pass : Bool) (sig : BitVec 32) :
    Calm s (s.takeResult m pass sig) := by
  unfold State.takeResult
  exact .ite (fun _ => .ite (fun _ => s.calm_faultModule m _) fun _ => .ite (fun _ => s.calm_faultModule m _)
    fun _ => s.calm_standBy m) fun _ => .refl s

theorem State.calm_endDrain (s : State) (m : Fin 8) : Calm s (s.endDrain m) := by
  unfold State.endDrain
  split
  · exact .refl s
  · exact (s.calm_modifyModule m _).trans (State.calm_computeShares _ _)

/-! ### The ship link's receiver -/

theorem State.calm_takeLinkUp (s : State) (o : OutletId) : Calm s (s.takeLinkUp o) := by
  unfold State.takeLinkUp
  exact .ite (fun _ => (s.calm_modifyHandover o _).trans (State.calm_send _ o _)) fun _ => .refl s

theorem State.calm_linkUp (s : State) (o : OutletId) : Calm s (s.linkUp o) := by
  simp only [State.linkUp]
  exact ((s.calm_modifyLink o _).trans (State.calm_sendStatus _ o)).trans (State.calm_takeLinkUp _ o)

theorem State.calm_restartWatchdog (s : State) (o : OutletId) : Calm s (s.restartWatchdog o) :=
  s.calm_modify o _ rfl rfl

theorem State.calm_refuseFormat (s : State) (o : OutletId) (type : Byte) (cause : RefuseCause) :
    Calm s (s.refuseFormat o type cause) :=
  (s.calm_sendRefuse o type cause).trans (State.calm_modifyLink _ o _)

theorem State.calm_sortFrame (s : State) (o : OutletId) (f : RawFrame) : Calm s (s.sortFrame o f) := by
  unfold State.sortFrame
  split
  · exact s.calm_refuseFormat o _ _
  · exact .ite (fun _ => s.calm_modifyLink o _) fun _ => s.calm_refuseFormat o _ _

theorem State.calm_validFrame (s : State) (o : OutletId) (f : RawFrame) : Calm s (s.validFrame o f) := by
  simp only [State.validFrame]
  refine (s.calm_modifyLink o _).trans (.ite (fun _ => ?_) fun _ => .refl _)
  exact (State.calm_restartWatchdog _ o).trans (.trans (.ite (fun _ => .refl _) fun _ => State.calm_linkUp _ o)
    (State.calm_sortFrame _ o f))

theorem State.calm_completeFrame (s : State) (o : OutletId) (f : RawFrame) : Calm s (s.completeFrame o f) := by
  simp only [State.completeFrame]
  exact (s.calm_modifyLink o _).trans (.ite (fun _ => State.calm_validFrame _ o f)
    fun _ => State.calm_modifyLink _ o _)

theorem State.calm_takeByte (s : State) (o : OutletId) (b : Byte) : Calm s (s.takeByte o b) := by
  unfold State.takeByte
  split
  · exact .ite (fun _ => s.calm_modifyLink o _) fun _ => s.calm_modifyLink o _
  · exact .ite (fun _ => s.calm_modifyLink o _) fun _ => s.calm_modifyLink o _
  · exact .ite (fun _ => s.calm_completeFrame o _) fun _ => s.calm_modifyLink o _

theorem State.calm_takeCharacter (s : State) (o : OutletId) (ch : Received) : Calm s (s.takeCharacter o ch) := by
  unfold State.takeCharacter
  exact .ite (fun _ => s.calm_modifyLink o _) fun _ => s.calm_takeByte o _

theorem Calm.whenConnected {o : OutletId} {act : State → State} {s : State} (h : Calm s (act s)) :
    Calm s (whenConnected o act s) := by
  unfold Machine.whenConnected
  exact .ite (fun _ => .refl s) fun _ => h

theorem State.calm_breakLine (s : State) (o : OutletId) :
    Calm s ((s.modifyLink o fun l => { l with
      assembling := none, gapTimer := none
      counts := { l.counts with breaks := count16 l.counts.breaks } }).linkDown o .lineBreak) :=
  (s.calm_modifyLink o _).trans (State.calm_linkDown _ o _)

theorem State.calm_dropAtGap (s : State) (o : OutletId) : Calm s (s.dropAtGap o) := s.calm_modifyLink o _

/-! ### The frame services -/

/-- A frame service keeps what its frame's effect keeps. -/
theorem State.calm_serve (s : State) (o : OutletId) (type : Byte) (act : List Byte → State → State)
    (h : ∀ p u, Calm u (act p u)) : Calm s (s.serve o type act) := by
  unfold State.serve
  split
  · exact .refl s
  · refine .ite (fun _ => ?_) fun _ => .refl s
    exact (s.calm_modifyLink o _).trans (.ite (fun _ => .refl _) fun _ => h _ _)

theorem State.calm_welcome (s : State) (o : OutletId) : Calm s (s.welcome o) := by
  unfold State.welcome
  split
  · exact .refl s
  · exact s.calm_send o _

theorem State.calm_takeAnnouncement (s : State) (o : OutletId) (payload : List Byte) :
    Calm s (s.takeAnnouncement o payload) := by
  unfold State.takeAnnouncement
  split
  · exact s.calm_sendRefuse o _ _
  · refine .ite (fun _ => Calm.trans ?_ (State.calm_enter _ o (by decide))) fun _ => s.calm_sendRefuse o _ _
    exact s.calm_modify o _ rfl rfl

theorem State.calm_takeHello (s : State) (o : OutletId) (payload : List Byte) : Calm s (s.takeHello o payload) := by
  unfold State.takeHello
  split
  · exact s.calm_takeAnnouncement o payload
  · exact s.calm_takeAnnouncement o payload
  · exact s.calm_sendRefuse o _ _
  · exact s.calm_welcome o

theorem State.calm_takeStatus (s : State) (o : OutletId) (payload : List Byte) : Calm s (s.takeStatus o payload) := by
  unfold State.takeStatus
  split
  · exact .refl s
  · exact s.calm_modifyHandover o _

theorem State.calm_enterSync (s : State) (o : OutletId) : Calm s (s.enterSync o) := by
  unfold State.enterSync
  split
  · exact .refl s
  · exact (s.calm_modifyCheck o _).trans (State.calm_enter _ o (by decide))

theorem State.calm_takeParallelRequest (s : State) (o : OutletId) : Calm s (s.takeParallelRequest o) := by
  unfold State.takeParallelRequest
  exact .ite (fun _ => .ite (fun _ => s.calm_enterSync o) fun _ => s.calm_sendRefuse o _ _)
    fun _ => s.calm_sendRefuse o _ _

theorem State.calm_takeGeneratorsOff (s : State) (o : OutletId) : Calm s (s.takeGeneratorsOff o) := by
  unfold State.takeGeneratorsOff
  exact .ite (fun _ => ((s.calm_modifyHandover o _).trans (State.calm_raiseAt _ o _)).trans
    (State.calm_enter _ o (by decide))) fun _ => s.calm_sendRefuse o _ _

theorem State.calm_takeReturnRequest (s : State) (o : OutletId) : Calm s (s.takeReturnRequest o) := by
  unfold State.takeReturnRequest
  exact .ite (fun _ => (s.calm_modifyHandover o _).trans (State.calm_raiseAt _ o _))
    fun _ => s.calm_sendRefuse o _ _

theorem State.calm_takeGeneratorsOn (s : State) (o : OutletId) : Calm s (s.takeGeneratorsOn o) := by
  unfold State.takeGeneratorsOn
  refine .ite (fun _ => Calm.trans (Calm.trans ?_ (State.calm_raiseAt _ o _)) (State.calm_enter _ o (by decide)))
    fun _ => s.calm_sendRefuse o _ _
  exact s.calm_modify o _ rfl rfl

theorem State.calm_takeAbort (s : State) (o : OutletId) : Calm s (s.takeAbort o) := by
  unfold State.takeAbort
  split
  · exact s.calm_abandonSync o _
  · refine .ite (fun _ => .refl s) fun _ => Calm.trans ?_ (State.calm_raiseAt _ o _)
    exact s.calm_modify o _ rfl rfl
  · exact .refl s
  · exact s.calm_sendRefuse o _ _

/-! ### Periodic events, measurement and metering -/

theorem State.calm_controlOutlet (s : State) (o : OutletId) : Calm s (s.controlOutlet o) := by
  simp only [State.controlOutlet]
  split
  · exact .refl s
  · refine .ite (fun _ => .refl s) fun _ => ?_
    unfold State.stepShares
    refine Calm.trans (Calm.trans ?_ (State.calm_modifyModules _ _ _)) (State.calm_computeShares _ o)
    exact s.calm_modify o _ rfl rfl

theorem State.calm_controlStep (s : State) : Calm s s.controlStep := by
  unfold State.controlStep
  refine Calm.trans (((s.calm_controlOutlet .a).trans (State.calm_controlOutlet _ .b)).trans
    (State.calm_controlOutlet _ .c)) ?_
  exact .of_outlets rfl fun _ => rfl

theorem State.calm_deliverOutlet (s : State) (o : OutletId) (cable ship : Option Passage) :
    Calm s (s.deliverOutlet o cable ship) := by
  simp only [State.deliverOutlet]
  have h : Calm s (match cable with
      | some p => s.deliverCable o p.delivery
      | none => s) := by
    split
    · exact s.calm_deliverCable o _
    · exact .refl s
  split
  · exact h.trans (State.calm_deliverShip _ o _)
  · exact h

theorem State.calm_deliverGrid (s : State) : Calm s s.deliverGrid := .of_outlets rfl fun _ => rfl

theorem State.calm_takeSet (s : State) (k : SampleSet) : Calm s (s.takeSet k) := by
  simp only [State.takeSet]
  refine Calm.trans (Calm.trans (Calm.trans (Calm.trans ?_ (State.calm_deliverOutlet _ .a _ _))
    (State.calm_deliverOutlet _ .b _ _)) (State.calm_deliverOutlet _ .c _ _))
    (.ite (fun _ => State.calm_deliverGrid _) fun _ => .refl _)
  refine ⟨rfl, fun o ho => ?_, fun o ho => ?_⟩
  · cases o <;> exact ho
  · cases o <;> exact ho

theorem State.calm_loseChannel (s : State) (ch : ChannelId) : Calm s (s.loseChannel ch) := by
  unfold State.loseChannel
  split
  · refine Calm.trans ?_ (State.calm_deliverCable _ _ _)
    exact s.calm_modify _ _ rfl rfl
  · refine Calm.trans ?_ (State.calm_deliverShip _ _ _)
    exact s.calm_modify _ _ rfl rfl
  · exact .of_outlets rfl fun _ => rfl

theorem State.calm_handInterval (s : State) (o : OutletId) (f : IntervalFigures) : Calm s (s.handInterval o f) := by
  unfold State.handInterval
  split
  · exact .refl s
  · refine .ite (fun _ => Calm.trans ?_ (State.calm_modifySession _ o _)) fun _ => s.calm_modifySession o _
    exact .of_outlets rfl fun _ => rfl

theorem State.calm_closeInterval (s : State) (more : List IntervalFlag) (o : OutletId) :
    Calm s (s.closeInterval more o) := by
  unfold State.closeInterval
  split
  · exact .refl s
  · refine Calm.trans ?_ (State.calm_handInterval _ o _)
    exact s.calm_modify o _ rfl (by simp)

theorem State.calm_openInterval (s : State) (o : OutletId) : Calm s (s.openInterval o) := s.calm_modify o _ rfl rfl

theorem State.calm_switchTariff (s : State) : Calm s s.switchTariff := by
  unfold State.switchTariff
  split
  · exact .refl s
  · exact .ite (fun _ => .of_outlets rfl fun _ => rfl) fun _ => .refl s

theorem Outlet.meterTick_state (x : Outlet) (band : Nat) : (x.meterTick band).state = x.state := by
  unfold Outlet.meterTick
  split
  · dsimp only
    split
    · rfl
    · split <;> rfl
  · rfl

theorem Outlet.meterTick_session (x : Outlet) (band : Nat) : (x.meterTick band).session.isSome = x.session.isSome := by
  unfold Outlet.meterTick
  split
  · dsimp only
    split
    · simp [Outlet.takeImport]
    · split
      · simp [Outlet.takeExport]
      · rfl
  · rfl

theorem State.calm_completeIntervals (s : State) : Calm s s.completeIntervals := by
  unfold State.completeIntervals
  split
  · exact .ite (fun _ => (Calm.foldl (fun u o => u.calm_closeInterval _ o) _ s).trans (State.calm_switchTariff _))
      fun _ => .refl s
  · exact .foldl (fun u o => u.calm_closeInterval _ o) _ s

theorem State.calm_meterTick (s : State) : Calm s s.meterTick := by
  simp only [State.meterTick]
  refine Calm.trans (Calm.trans (Calm.trans (Calm.trans ?_ (.foldl (fun u o => ?_) _ _)) (.foldl (fun u o => ?_) _ _))
    (State.calm_completeIntervals _)) (.foldl (fun u o => u.calm_openInterval o) _ _)
  · exact .of_outlets rfl fun _ => rfl
  · exact u.calm_modify o _ (Outlet.meterTick_state _ _) (Outlet.meterTick_session _ _)
  · exact u.calm_modify o _ rfl rfl

/-! ### The orders -/

theorem State.calm_forOutlet (s : State) (letter : Option OutletId) (act : OutletId → State → State)
    (h : ∀ o, Calm s (act o s)) : Calm s (s.forOutlet letter act) := by
  cases letter with
  | none => exact s.calm_no 120
  | some o => exact h o

theorem State.calm_forModule (s : State) (n : Nat) (act : Fin 8 → State → State) (h : ∀ m, Calm s (act m s)) :
    Calm s (s.forModule n act) := by
  unfold State.forModule
  split
  · exact s.calm_no 120
  · exact h _

theorem State.calm_forProfile (s : State) (n : Nat) (act : Fin 10 → State → State) (h : ∀ m, Calm s (act m s)) :
    Calm s (s.forProfile n act) := by
  unfold State.forProfile
  split
  · exact h _
  · exact s.calm_no 120

theorem State.calm_orderOutletQuery (s : State) (letter : Option OutletId) : Calm s (s.orderOutletQuery letter) :=
  s.calm_forOutlet letter _ fun _ => s.calm_answer _

theorem State.calm_orderMeasQuery (s : State) (letter : Option OutletId) : Calm s (s.orderMeasQuery letter) :=
  s.calm_forOutlet letter _ fun _ => s.calm_answer _

theorem State.calm_orderLinkQuery (s : State) (letter : Option OutletId) : Calm s (s.orderLinkQuery letter) :=
  s.calm_forOutlet letter _ fun _ => s.calm_answer _

theorem State.calm_orderModuleQuery (s : State) (n : Nat) : Calm s (s.orderModuleQuery n) :=
  s.calm_forModule n _ fun _ => s.calm_answer _

theorem State.calm_orderProfileDefault (s : State) (n : Nat) : Calm s (s.orderProfileDefault n) :=
  s.calm_forProfile n _ fun _ => .of_outlets rfl fun _ => rfl

theorem State.calm_orderProfileQuery (s : State) (n : Nat) : Calm s (s.orderProfileQuery n) :=
  s.calm_forProfile n _ fun _ => s.calm_answer _

theorem State.calm_openSession (s : State) (o : OutletId) (n kW : Nat) (v a : Option Text) :
    Calm s (s.openSession o n kW v a) := by
  simp only [State.openSession]
  refine Calm.trans (Calm.trans (Calm.trans ?_ (State.calm_ask _ o _ _)) (State.calm_welcome _ o))
    (State.calm_enter _ o (by decide))
  refine ⟨rfl, fun q hq => ?_, fun q hq => ?_⟩
  all_goals by_cases h : q = o
  · subst h; rw [State.outlet_modify_self] at hq; exact hq
  · rw [State.outlet_modify_ne _ _ h] at hq; exact hq
  · subst h; rw [State.outlet_modify_self]; rfl
  · rw [State.outlet_modify_ne _ _ h]; exact hq

theorem State.calm_orderAdmit (s : State) (letter : Option OutletId) (p : Option Nat) (kW : Nat) (v a : Option Text) :
    Calm s (s.orderAdmit letter p kW v a) := by
  refine s.calm_forOutlet letter _ fun o => .ite (fun _ => s.calm_no _) fun _ => ?_
  simp only [State.admitTo]
  refine .ite (fun _ => s.calm_no _) fun _ => .ite (fun _ => s.calm_no _) fun _ => .ite (fun _ => s.calm_no _) fun _ =>
    .ite (fun _ => s.calm_no _) fun _ => .ite (fun _ => s.calm_refuse _ _) fun _ => ?_
  exact (s.calm_openSession o _ _ _ _).trans (State.calm_answer _ _)

theorem State.calm_orderResume (s : State) (letter : Option OutletId) : Calm s (s.orderResume letter) := by
  refine s.calm_forOutlet letter _ fun o => .ite (fun _ => s.calm_no _) fun _ => .ite (fun _ => s.calm_no _) fun _ =>
    .ite (fun _ => s.calm_no _) fun _ => .ite (fun _ => s.calm_no _) fun _ => ?_
  exact (((s.calm_ask o _ _).trans (State.calm_welcome _ o)).trans (State.calm_enter _ o (by decide))).trans
    (State.calm_answer _ _)

theorem State.calm_okCapacity (s : State) (o : OutletId) (clamped : Bool) : Calm s (s.okCapacity o clamped) :=
  s.calm_answer _

theorem State.calm_changeCapacity (s : State) (o : OutletId) (kW : Nat) (clamped : Bool) :
    Calm s (s.changeCapacity o kW clamped) := by
  unfold State.changeCapacity
  refine .ite (fun _ => s.calm_okCapacity o _) fun _ => .ite (fun _ => ?_) fun _ => .ite (fun _ => ?_)
    fun _ => s.calm_refuse _ _
  · exact ((s.calm_decrease o kW).trans (State.calm_reallocate _)).trans (State.calm_okCapacity _ o _)
  · unfold State.raiseCapacity
    exact (((((s.calm_modifySession o _).trans (State.calm_recomputeLimit _ o)).trans
      (State.calm_markSurplus _ o)).trans (State.calm_topUp _ o)).trans (State.calm_reallocate _)).trans
        (State.calm_okCapacity _ o _)

theorem State.calm_orderCapacity (s : State) (letter : Option OutletId) (kW : Nat) :
    Calm s (s.orderCapacity letter kW) := by
  refine s.calm_forOutlet letter _ fun o => .ite (fun _ => s.calm_no _) fun _ => .ite (fun _ => s.calm_no _) fun _ =>
    .ite (fun _ => ?_) fun _ => .ite (fun _ => s.calm_changeCapacity o _ _) fun _ => s.calm_no _
  exact ((s.calm_modifySession o _).trans (State.calm_ask _ o _ _)).trans (State.calm_okCapacity _ o _)

theorem State.calm_orderShipback (s : State) (letter : Option OutletId) : Calm s (s.orderShipback letter) := by
  refine s.calm_forOutlet letter _ fun o => .ite (fun _ => s.calm_no _) fun _ => .ite (fun _ => s.calm_no _) fun _ =>
    .ite (fun _ => s.calm_no _) fun _ => .ite (fun _ => ?_) fun _ => ?_
  · exact (s.calm_send o _).trans (State.calm_answer _ _)
  · exact (s.calm_modifyHandover o _).trans (State.calm_answer _ _)

theorem State.calm_orderGrid (s : State) (kW : Nat) : Calm s (s.orderGrid kW) := by
  simp only [State.orderGrid]
  have h : Calm s { s with gridLimit := min kW 60000 } := .of_outlets rfl fun _ => rfl
  refine (h.trans (.ite (fun _ => .foldl (fun u o => ?_) _ _) fun _ => .refl _)).trans (State.calm_answer _ _)
  simp only [State.cutOne]
  exact .ite (fun _ => .refl u) fun _ => u.calm_decrease o _

theorem State.calm_orderService (s : State) (n : Nat) : Calm s (s.orderService n) := by
  refine s.calm_forModule n _ fun m => .ite (fun _ => s.calm_no _) fun _ => Calm.trans ?_ (State.calm_answer _ _)
  simp only [State.serviceModule]
  have h := s.calm_modifyModule m Module.toService
  split
  · exact .ite (fun _ => h) fun _ => h.trans (State.calm_memberLost _ _ _)
  · exact h

theorem State.calm_orderReturn (s : State) (n : Nat) : Calm s (s.orderReturn n) :=
  s.calm_forModule n _ fun m => .ite (fun _ => (s.calm_modifyModule m _).trans (State.calm_answer _ _)) fun _ =>
    .ite (fun _ => (s.calm_modifyModule m _).trans (State.calm_answer _ _)) fun _ => s.calm_no _

theorem State.calm_orderSignature (s : State) (n sig rating : Nat) : Calm s (s.orderSignature n sig rating) :=
  s.calm_forModule n _ fun m => .ite (fun _ => s.calm_no _) fun _ => .ite (fun _ => s.calm_no _) fun _ =>
    (s.calm_modifyModule m _).trans (State.calm_answer _ _)

theorem State.calm_orderProfileSet (s : State) (n : Nat) (f : Option ProfileField) (x : Nat) :
    Calm s (s.orderProfileSet n f x) := by
  unfold State.orderProfileSet
  split
  · exact s.calm_no _
  · exact s.calm_forProfile n _ fun _ => .of_outlets rfl fun _ => rfl

theorem State.calm_orderTime (s : State) (y m d h i j : Nat) : Calm s (s.orderTime y m d h i j) := by
  simp only [State.orderTime]
  refine .ite (fun _ => Calm.trans ?_ (State.calm_answer _ _)) fun _ => s.calm_no _
  simp only [State.setClock]
  refine Calm.trans (Calm.trans (Calm.trans ?_ (.foldl (fun u o => u.calm_closeInterval _ o) _ _))
    (State.calm_switchTariff _)) (.foldl (fun u o => u.calm_openInterval o) _ _)
  exact .of_outlets rfl fun _ => rfl

theorem State.calm_orderTariffBand (s : State) (b p : Nat) (w : WindowArg) : Calm s (s.orderTariffBand b p w) := by
  unfold State.orderTariffBand
  exact .ite (fun _ => .of_outlets rfl fun _ => rfl) fun _ => s.calm_no _

theorem State.calm_orderTariffInterval (s : State) (n : Nat) : Calm s (s.orderTariffInterval n) := by
  unfold State.orderTariffInterval
  exact .ite (fun _ => .of_outlets rfl fun _ => rfl) fun _ => s.calm_no _

theorem State.calm_orderTariffSchedule (s : State) : Calm s s.orderTariffSchedule := by
  unfold State.orderTariffSchedule
  split
  · exact s.calm_no _
  · exact .of_outlets rfl fun _ => rfl

theorem State.calm_orderTariffDiscard (s : State) : Calm s s.orderTariffDiscard := by
  unfold State.orderTariffDiscard
  split <;> exact .of_outlets rfl fun _ => rfl

theorem State.calm_orderLogWindow (s : State) (a b : Nat) : Calm s (s.orderLogWindow a b) := by
  unfold State.orderLogWindow
  refine .ite (fun _ => ?_) fun _ => s.calm_no _
  unfold State.setWindow
  split
  · exact .ite (fun _ => s.calm_no _) fun _ => .of_outlets rfl fun _ => rfl
  · exact s.calm_no _

theorem State.calm_orderLogRead (s : State) : Calm s s.orderLogRead := by
  unfold State.orderLogRead
  split
  · exact s.calm_refuse _ _
  · refine .ite (fun _ => s.calm_answer _) fun _ => ?_
    split
    · exact s.calm_no _
    · exact .of_outlets rfl fun _ => rfl

/-- A held record placed leaves HELD for the state at rest (R23). -/
theorem State.calm_tryPlace (s : State) (o : OutletId) : Calm s (s.tryPlace o) := by
  obtain ⟨e, hne, _, _, _, ho, hst⟩ := s.tryPlace_frame o
  refine ⟨by rw [e], fun q hq => ?_, fun q hq => ?_⟩
  all_goals by_cases hqo : q = o
  · subst hqo
    cases hh : (s.outlet q).held with
    | none =>
      have : s.tryPlace q = s := by simp only [State.tryPlace, hh]
      rwa [this] at hq
    | some h =>
      have hmem := hst (by rw [hh]; rfl)
      rw [hq] at hmem
      exact absurd hmem (by decide)
  · rwa [hne q hqo] at hq
  · subst hqo; rw [ho]; exact hq
  · rwa [hne q hqo]

theorem State.calm_placeHeld (s : State) : Calm s s.placeHeld := .foldl (fun u o => u.calm_tryPlace o) _ s

theorem State.calm_releaseRecords (s : State) (seq : Nat) : Calm s (s.releaseRecords seq) := by
  have h : Calm s (allOutlets.foldl (fun s o =>
      s.modify o (Outlet.addReleased o (s.log.records.filter (·.sequence ≤ seq)))) s) :=
    .foldl (fun u o => u.calm_modify o _ rfl rfl) _ s
  exact h.trans (.of_outlets rfl fun _ => rfl)

theorem State.calm_orderLogRelease (s : State) (n : Nat) : Calm s (s.orderLogRelease n) := by
  unfold State.orderLogRelease
  refine .ite (fun _ => s.calm_no _) fun _ => ?_
  split
  · refine .ite (fun _ => s.calm_no _) fun _ => ?_
    exact (((s.calm_releaseRecords n).trans (State.calm_reportAll _)).trans (State.calm_placeHeld _)).trans
      (State.calm_answer _ _)
  · exact s.calm_no _

theorem State.calm_orderClosedRelease (s : State) : Calm s s.orderClosedRelease := by
  unfold State.orderClosedRelease
  split
  · exact s.calm_no _
  · refine Calm.trans (Calm.trans (Calm.trans ?_ (State.calm_reportAll _)) (State.calm_placeHeld _))
      (State.calm_answer _ _)
    exact .of_outlets rfl fun _ => rfl

theorem State.calm_orderLinkTest (s : State) (letter : Option OutletId) : Calm s (s.orderLinkTest letter) := by
  have h (o : OutletId) : Calm s (s.startTest o) :=
    (s.calm_modifyLink o fun l => { l.stopSending with assembling := none, gapTimer := none, testAge := some 0 }).trans
      (.of_outlets rfl fun _ => rfl)
  exact s.calm_forOutlet letter _ fun o => .ite (fun _ => h o) fun _ => .ite (fun _ => s.calm_no _) fun _ => s.calm_no _

theorem State.calm_resolveTest (s : State) (o : OutletId) (returned : List Received) (age : Nat) :
    Calm s (s.resolveTest o returned age) := by
  refine (s.calm_elapse (testTime returned - age)).trans ?_
  simp only [State.resolveTest, State.endTest]
  refine Calm.trans ((State.calm_modifyLink _ o _).trans (State.calm_startSending _ o)) (.ite (fun _ => ?_) fun _ =>
    .refl _)
  exact .of_outlets rfl fun _ => rfl

theorem State.calm_orderLinkClear (s : State) (letter : Option OutletId) : Calm s (s.orderLinkClear letter) :=
  s.calm_forOutlet letter _ fun o => (s.calm_modifyLink o _).trans (State.calm_answer _ _)

theorem State.calm_orderFilter (s : State) (x : Option Item) (f : Filter) : Calm s (s.orderFilter x f) := by
  unfold State.orderFilter
  split
  · exact s.calm_no _
  · exact .ite (fun _ => .of_outlets rfl fun _ => rfl) fun _ => s.calm_no _

theorem State.calm_orderEnable (s : State) (g : Option Group) (xs : List (Option Item)) :
    Calm s (s.orderEnable g xs) := by
  unfold State.orderEnable
  split
  · exact s.calm_no _
  · exact .ite (fun _ => .of_outlets rfl fun _ => rfl) fun _ => s.calm_no _

theorem State.calm_orderAttn (s : State) (gs : List (Option Group)) : Calm s (s.orderAttn gs) := by
  unfold State.orderAttn
  exact .ite (fun _ => .of_outlets rfl fun _ => rfl) fun _ => s.calm_no _

theorem State.calm_orderErrQuery (s : State) : Calm s s.orderErrQuery := by
  unfold State.orderErrQuery
  split
  · exact s.calm_answer _
  · exact .of_outlets rfl fun _ => rfl

theorem State.calm_orderEvents (s : State) (g : Option Group) : Calm s (s.orderEvents g) := by
  unfold State.orderEvents
  split
  · exact s.calm_no _
  · exact .of_outlets rfl fun _ => rfl

theorem State.calm_orderTimeQuery (s : State) : Calm s s.orderTimeQuery := by
  unfold State.orderTimeQuery
  split <;> exact s.calm_answer _

theorem State.calm_orderSessionQuery (s : State) (letter : Option OutletId) : Calm s (s.orderSessionQuery letter) := by
  refine s.calm_forOutlet letter _ fun o => ?_
  split
  · exact s.calm_no _
  · exact s.calm_answer _

theorem State.calm_orderClosedRead (s : State) : Calm s s.orderClosedRead := by
  unfold State.orderClosedRead
  split
  · exact s.calm_no _
  · exact s.calm_answer _

end Sys2Proof.Machine
end

section
/-! Every step leaves the part settled: resets and start-up, the rows of the receiver before start-up is complete, and
the acts of the running part. -/

namespace Sys2Proof.Machine

/-! ### Blocks at their after-reset values -/

theorem State.isReset_iff (s : State) :
    s.isReset = true ↔ (∀ o, (s.outlet o).afterReset = s.outlet o) ∧
      s.modules.map (Module.afterReset (s.phase == .startingUp)) = s.modules ∧ s.grants = [] ∧ s.budgetOver = false ∧
      s.estopAllMade = false := by
  simp only [State.isReset, Bool.and_eq_true, allOutlets_all, beq_iff_eq, Bool.not_eq_true', and_assoc]

theorem Outlet.afterReset_afterReset (x : Outlet) : x.afterReset.afterReset = x.afterReset := rfl

theorem Module.afterReset_afterReset (m : Module) (b c : Bool) : (m.afterReset b).afterReset c = m.afterReset c := rfl

/-- A reset leaves every block at its after-reset values (R43, R66). -/
theorem State.isReset_afterReset (s : State) (p : Phase) : (s.afterReset p).isReset = true := by
  rw [State.isReset_iff]
  refine ⟨fun o => ?_, ?_, rfl, rfl, rfl⟩
  · rw [State.afterReset_outlet, Outlet.afterReset_afterReset]
  · simp [State.afterReset, Function.comp_def, Module.afterReset_afterReset]

/-- Start-up begun in reset leaves every block at its after-reset values, STOP sent (R43, R66). -/
theorem State.isReset_beginStartUp {s : State} (hp : s.phase = .inReset) (h : s.isReset = true) :
    s.beginStartUp.isReset = true := by
  obtain ⟨ho, hm, hg, hb, he⟩ := s.isReset_iff.1 h
  rw [State.isReset_iff]
  refine ⟨ho, ?_, hg, hb, he⟩
  have hm : s.modules.map (Module.afterReset false) = s.modules := by rw [hp] at hm; exact hm
  show (s.modules.map fun m => { m with message := some stopMessage }).map (Module.afterReset true) =
    s.modules.map fun m => { m with message := some stopMessage }
  rw [← hm]
  simp only [Vector.map_map]
  rfl

/-- A link at its reset values has taken nothing. -/
theorem State.beforeReception_of_isReset {s : State} (h : s.isReset = true) : s.beforeReception = s := by
  have hl (o : OutletId) : { s.outlet o with link := (s.outlet o).link.beforeReception } = s.outlet o := by
    rw [← (s.isReset_iff.1 h).1 o]
    rfl
  have ha := hl .a
  have hb := hl .b
  have hc := hl .c
  simp only [State.outlet, PerOutlet.get] at ha hb hc
  simp only [State.beforeReception, ha, hb, hc]

/-- Blocks at their after-reset values are at rest, start-up begun or not. -/
theorem State.atRest_of_isReset {s : State} (h : s.isReset = true) : s.atRest = true := by
  unfold State.atRest
  split
  · rw [State.beforeReception_of_isReset h, h, Bool.or_true]
  · rw [h, Bool.or_true]

theorem State.atRest_of_running {s : State} (h : s.phase = .running) : s.atRest = true := by
  simp [State.atRest, h]

/-- Rest by the phase the part is in. -/
theorem State.atRest_eq (s : State) :
    s.atRest = (s.phase == .running ||
      if s.phase == .startingUp then s.beforeReception.isReset else s.isReset) := by
  rw [State.atRest, apply_ite State.isReset]

/-- The commands waiting are outside the blocks of the part. -/
theorem State.atRest_pending (s : State) (w : List Instr) : ({ s with pending := w } : State).atRest = s.atRest := by
  rw [State.atRest_eq, State.atRest_eq]
  rfl

theorem State.atRest_rstLow (s : State) (b : Bool) : ({ s with rstLow := b } : State).atRest = s.atRest := by
  rw [State.atRest_eq, State.atRest_eq]
  rfl

theorem State.sound_pending (s : State) (w : List Instr) : ({ s with pending := w } : State).sound = s.sound := by
  rw [State.sound, State.sound, State.atRest_pending]
  rfl

theorem State.accounts_pending (s : State) (w : List Instr) :
    ({ s with pending := w } : State).accounts = s.accounts := by
  rw [State.accounts, State.accounts, State.atRest_pending]
  rfl

/-- What rest in start-up says of an outlet (R43, R66, R130). -/
theorem State.outlet_of_atRest {s : State} (hp : s.phase = .startingUp) (h : s.atRest = true) (o : OutletId) :
    { s.outlet o with link := (s.outlet o).link.beforeReception } = (s.outlet o).afterReset ∧ s.grants = [] ∧
      s.budgetOver = false := by
  have hr : s.beforeReception.isReset = true := by simpa [State.atRest, hp] using h
  obtain ⟨ho, _, hg, hb, _⟩ := s.beforeReception.isReset_iff.1 hr
  have hbo : s.beforeReception.outlet o = { s.outlet o with link := (s.outlet o).link.beforeReception } := by
    cases o <;> rfl
  have := ho o
  rw [hbo] at this
  exact ⟨this.symm.trans rfl, hg, hb⟩

/-! ### The rows of the receiver in start-up (R130) -/

/-- Between `s` and `t` the receiver of one outlet's link has taken something, and nothing else has happened. -/
def Takes (o : OutletId) (s t : State) : Prop :=
  ∃ l, t = s.modifyLink o (fun _ => l) ∧ l.beforeReception = (s.outlet o).link.beforeReception

theorem Takes.refl (o : OutletId) (s : State) : Takes o s s := ⟨_, (s.modifyLink_self o).symm, rfl⟩

theorem Takes.trans {o : OutletId} {s t u : State} (h : Takes o s t) (k : Takes o t u) : Takes o s u := by
  obtain ⟨l, rfl, hl⟩ := h
  obtain ⟨l', rfl, hl'⟩ := k
  rw [State.link_modifyLink] at hl'
  exact ⟨l', by rw [State.modifyLink_modifyLink], hl'.trans hl⟩

theorem Takes.of_modifyLink (s : State) (o : OutletId) (f : ShipLink → ShipLink)
    (h : (f (s.outlet o).link).beforeReception = (s.outlet o).link.beforeReception) : Takes o s (s.modifyLink o f) :=
  ⟨_, rfl, h⟩

theorem Takes.ite {o : OutletId} {s a b : State} {p : Prop} [Decidable p] (h : p → Takes o s a)
    (k : ¬p → Takes o s b) : Takes o s (if p then a else b) := by
  split
  · next e => exact h e
  · next e => exact k e

theorem Takes.interlocks {o : OutletId} {s t : State} (h : Takes o s t) :
    (t.outlet o).interlocks = (s.outlet o).interlocks := by
  obtain ⟨l, rfl, _⟩ := h
  simp [State.modifyLink]

/-- What the receiver takes leaves the part as it was before (R130). -/
theorem Takes.beforeReception {o : OutletId} {s t : State} (h : Takes o s t) :
    t.beforeReception = s.beforeReception := by
  obtain ⟨l, rfl, hl⟩ := h
  cases o <;> simp only [State.outlet, PerOutlet.get] at hl <;>
    simp [State.beforeReception, State.modifyLink, State.modify, PerOutlet.set, State.outlet, PerOutlet.get, hl]

theorem Takes.atRest {o : OutletId} {s t : State} (h : Takes o s t) (hp : s.phase = .startingUp)
    (hs : s.atRest = true) : t.phase = .startingUp ∧ t.atRest = true := by
  have ht : t.phase = .startingUp := by
    obtain ⟨l, rfl, _⟩ := h
    exact hp
  refine ⟨ht, ?_⟩
  simp only [State.atRest, hp] at hs
  simp only [State.atRest, ht]
  rw [h.beforeReception]
  exact hs

/-- Without a plug a complete frame is counted, and no more (R118). -/
theorem Takes.completeFrame {s : State} {o : OutletId} (hplug : (s.outlet o).interlocks.plug = false) (f : RawFrame) :
    Takes o s (s.completeFrame o f) := by
  have hunplugged (u : State) (h : (u.outlet o).interlocks.plug = false) : Takes o u (u.validFrame o f) := by
    simp only [State.validFrame]
    rw [if_neg (by simp [State.modifyLink, h])]
    exact .of_modifyLink u o _ rfl
  have hunder : Takes o s (s.modifyLink o fun l => { l with assembling := none, gapTimer := none }) :=
    .of_modifyLink s o _ rfl
  simp only [State.completeFrame]
  refine hunder.trans (.ite (fun _ => hunplugged _ ?_) fun _ => .of_modifyLink _ o _ rfl)
  rw [hunder.interlocks, hplug]

theorem Takes.takeByte {s : State} {o : OutletId} (hplug : (s.outlet o).interlocks.plug = false) (b : Byte) :
    Takes o s (s.takeByte o b) := by
  unfold State.takeByte
  split
  · exact .ite (fun _ => .of_modifyLink s o _ rfl) fun _ => .of_modifyLink s o _ rfl
  · exact .ite (fun _ => .of_modifyLink s o _ rfl) fun _ => .of_modifyLink s o _ rfl
  · exact .ite (fun _ => .completeFrame hplug _) fun _ => .of_modifyLink s o _ rfl

theorem Takes.takeCharacter {s : State} {o : OutletId} (hplug : (s.outlet o).interlocks.plug = false) (ch : Received) :
    Takes o s (s.takeCharacter o ch) := by
  unfold State.takeCharacter
  exact .ite (fun _ => .of_modifyLink s o _ rfl) fun _ => .takeByte hplug _

/-- A link that is DOWN goes no further down (R124). -/
theorem Takes.linkDown {s : State} {o : OutletId} (hup : (s.outlet o).link.up = false) (cause : DownCause) :
    Takes o s (s.linkDown o cause) := by
  unfold State.linkDown
  rw [if_neg (by simp [hup])]
  exact .refl o s

theorem Takes.whenConnected {o : OutletId} {act : State → State} {s : State} (h : Takes o s (act s)) :
    Takes o s (whenConnected o act s) := by
  unfold Machine.whenConnected
  exact .ite (fun _ => .refl o s) fun _ => h

/-! ### Start-up -/

theorem mem_insertBy (key : OutletId → Nat) (o q : OutletId) (os : List OutletId) :
    q ∈ insertBy key o os ↔ q = o ∨ q ∈ os := by
  induction os with
  | nil => simp [insertBy]
  | cons p os ih =>
    unfold insertBy
    split
    · simp
    · simp only [List.mem_cons, ih]
      tauto

theorem State.mem_bySession (s : State) (os : List OutletId) (q : OutletId) : q ∈ s.bySession os ↔ q ∈ os := by
  unfold State.bySession sortBy
  induction os with
  | nil => rfl
  | cons o os ih => rw [List.foldr_cons, mem_insertBy, ih, List.mem_cons]

/-- A part between its reset and the end of its start-up: nothing granted, no limit, no outlet in a session state. -/
structure State.Unstarted (s : State) : Prop where
  grants : s.grants = []
  budget : s.budgetOver = false
  limit : ∀ o, (s.outlet o).limit = 0
  state : ∀ o, (s.outlet o).state ∈ [OutletState.cabled, .vacant, .held]

theorem State.Unstarted.closeSession {s : State} (h : s.Unstarted) (o : OutletId) (cause : EndCause) :
    (s.closeSession o cause).Unstarted := by
  obtain ⟨e, hne, _, _, _, _, ho, hst⟩ := s.closeSession_frame o cause
  refine ⟨by rw [e]; exact h.grants, by rw [e]; exact h.budget, fun q => ?_, fun q => ?_⟩
  all_goals by_cases hq : q = o
  · subst hq; rw [ho]; exact h.limit q
  · rw [hne q hq]; exact h.limit q
  · subst hq
    cases hs : (s.outlet q).session with
    | none =>
      have : s.closeSession q cause = s := by simp only [State.closeSession, hs]
      rw [this]; exact h.state q
    | some r => exact hst (by rw [hs]; rfl)
  · rw [hne q hq]; exact h.state q

/-- The sessions of the listed outlets close, and no session opens (R24). -/
theorem State.Unstarted.closeAll {cause : EndCause} (os : List OutletId) (s : State) (h : s.Unstarted) :
    (os.foldl (fun s o => s.closeSession o cause) s).Unstarted ∧
      ∀ q, (q ∈ os ∨ (s.outlet q).session = none) →
        ((os.foldl (fun s o => s.closeSession o cause) s).outlet q).session = none := by
  induction os generalizing s with
  | nil => exact ⟨h, by simp⟩
  | cons o os ih =>
    obtain ⟨h1, h2⟩ := ih _ (h.closeSession o cause)
    refine ⟨h1, fun q hq => h2 q ?_⟩
    obtain ⟨_, hne, _, _, _, hn, _⟩ := s.closeSession_frame o cause
    by_cases hqo : q = o
    · subst hqo; exact .inr hn
    · rw [hne q hqo]
      simpa [hqo] using hq

theorem State.phase_closeAll {cause : EndCause} (os : List OutletId) (s : State) :
    (os.foldl (fun s o => s.closeSession o cause) s).phase = s.phase ∧
      (os.foldl (fun s o => s.closeSession o cause) s).restart = s.restart := by
  induction os generalizing s with
  | nil => exact ⟨rfl, rfl⟩
  | cons o os ih =>
    have e := (s.closeSession_frame o cause).1
    exact ⟨(ih _).1.trans (by dsimp only; rw [e]), (ih _).2.trans (by dsimp only; rw [e])⟩

/-- The start levels of some groups: each condition of theirs stands at its level, and nothing else has changed but the
status unit, of which no other group (R198). -/
theorem State.foldl_startLevels (gs : List Group) (s : State) :
    let t := gs.foldl State.startLevels s
    t = { s with status := t.status } ∧ t.level = s.level ∧
      (∀ g ∈ gs, (t.status.get g).conditions = g.conditions.filter (s.level g)) ∧
      ∀ g, g ∉ gs → t.status.get g = s.status.get g := by
  induction gs generalizing s with
  | nil => exact ⟨rfl, rfl, by simp, fun _ _ => rfl⟩
  | cons g gs ih =>
    obtain ⟨h1, h2, h3, h4⟩ := ih (s.startLevels g)
    have hl : (s.startLevels g).level = s.level := by
      funext k y
      exact s.level_of_status _ (StatusUnit.set_errors _ _ _) k y
    simp only [List.foldl_cons]
    refine ⟨h1.trans rfl, h2.trans hl, fun k hk => ?_, fun k hk => ?_⟩
    · by_cases hkg : k ∈ gs
      · rw [h3 k hkg, hl]
      · have : k = g := by simpa [hkg] using hk
        subst this
        rw [h4 k hkg]
        simp [State.startLevels]
    · have hk' : k ≠ g ∧ k ∉ gs := by simpa using hk
      rw [h4 k hk'.2]
      exact StatusUnit.get_set_ne _ _ hk'.1

theorem State.restate_frame (s : State) (o : OutletId) (before : Nat) :
    s.restate o before = { s with status := (s.restate o before).status } := by
  unfold State.restate
  split <;> rfl

theorem State.foldl_restate (codes : PerOutlet Nat) (os : List OutletId) (s : State) :
    os.foldl (fun s o => s.restate o (codes.get o)) s =
      { s with status := (os.foldl (fun s o => s.restate o (codes.get o)) s).status } := by
  induction os generalizing s with
  | nil => rfl
  | cons o os ih =>
    rw [List.foldl_cons, ih, s.restate_frame]

/-- When start-up is complete every condition stands at its level; nothing else moves (R198). -/
theorem State.stateConditions_spec (s : State) :
    s.stateConditions = { s with status := s.stateConditions.status } ∧ s.stateConditions.stated = true := by
  unfold State.stateConditions
  split
  · obtain ⟨h1, h2, h3, _⟩ := State.foldl_startLevels allGroups s
    refine ⟨h1, ?_⟩
    rw [State.stated_iff, h2]
    intro g x hx
    rw [h3 g (mem_allGroups g), Bool.eq_iff_iff, List.contains_iff_mem, List.mem_filter]
    exact and_iff_right hx
  · next codes _ =>
    generalize hu : allOutlets.foldl (fun s o => s.restate o (codes.get o)) s = u
    have hf := State.foldl_restate codes allOutlets s
    rw [hu] at hf
    obtain ⟨h1, h2, _⟩ := u.reportAll_spec
    refine ⟨?_, h2⟩
    generalize u.reportAll.status = v at h1
    rw [h1, hf]

/-- A part in which nothing has been granted and no session is open has nothing to settle but the conditions. -/
theorem State.Unstarted.settled {s : State} (h : s.Unstarted) (hs : ∀ o, (s.outlet o).session = none)
    (hst : s.stated = true) : s.settled = true := by
  have hne (o : OutletId) (st : OutletState) (h' : st ∉ [OutletState.cabled, .vacant, .held]) :
      (s.outlet o).state ≠ st := fun e => h' (e ▸ h.state o)
  have hadm (o : OutletId) : s.admitted o = 0 := by simp only [State.admitted, hs]
  rw [State.settled_iff]
  refine ⟨fun o => ⟨State.endsNow_of_state (hne o _ (by decide)), ?_, ?_⟩, ?_, ?_, hst⟩
  · simp [State.newLimit, hadm, h.budget, h.limit]
  · simp [State.closesNow, hne o .energising (by decide)]
  · simp [State.queueWaits, h.grants]
  · simp [h.budget, State.claims, State.claim, hadm]

/-- The completion of start-up leaves the part running and settled (R24, R198). -/
theorem State.startUp_settled {s : State} (hp : s.phase = .startingUp) (h : s.atRest = true) :
    s.startUp.phase = .running ∧ s.startUp.settled = true := by
  have hr (o : OutletId) := (State.outlet_of_atRest hp h o).1
  have hstart : ({ s with phase := .running } : State).startPolling.Unstarted := by
    refine ⟨(State.outlet_of_atRest hp h .a).2.1, (State.outlet_of_atRest hp h .a).2.2, fun o => ?_, fun o => ?_⟩
    · exact congrArg Outlet.limit (hr o)
    · have : (s.outlet o).state = if (s.outlet o).held.isSome then .held else .vacant := congrArg Outlet.state (hr o)
      show (s.outlet o).state ∈ _
      rw [this]
      split <;> decide
  generalize hu : ({ s with phase := .running } : State).startPolling = u at hstart
  have hup : u.phase = .running := by rw [← hu]; rfl
  obtain ⟨hc, hnone⟩ := hstart.closeAll (cause := .reset)
    (u.bySession (allOutlets.filter fun o => (u.outlet o).session.isSome))
  have hphase := (State.phase_closeAll (cause := .reset)
    (u.bySession (allOutlets.filter fun o => (u.outlet o).session.isSome)) u).1
  have hsess (o : OutletId) : (u.closeAtStartUp.outlet o).session = none := by
    refine hnone o ?_
    rw [State.mem_bySession, List.mem_filter]
    cases hso : (u.outlet o).session
    · exact .inr rfl
    · exact .inl ⟨mem_allOutlets o, rfl⟩
  obtain ⟨e, hst⟩ := ({ u.closeAtStartUp with status := s.status } : State).stateConditions_spec
  have ht : s.startUp = ({ u.closeAtStartUp with status := s.status } : State).stateConditions := by
    rw [← hu]; rfl
  rw [ht]
  generalize hv : ({ u.closeAtStartUp with status := s.status } : State).stateConditions = v at e hst
  refine ⟨by rw [e]; exact hphase.trans hup, State.Unstarted.settled ?_ (fun o => ?_) hst⟩
  · rw [e]; exact ⟨hc.grants, hc.budget, hc.limit, hc.state⟩
  · rw [e]; exact hsess o

/-! ### The acts of the running part -/

/-- A part whose event may end: it runs and each ending outlet has its session, or it has been reset (R191). -/
def State.endable (s : State) : Prop :=
  (s.phase = .running ∧ s.endsOpen) ∨ (s.phase ≠ .running ∧ s.isReset = true)

/-- A part that is at rest until start-up is complete, and settled once it runs. -/
def State.quiet (s : State) : Bool := s.atRest && (s.phase != .running || s.settled)

theorem State.quiet_pending (s : State) (w : List Instr) : ({ s with pending := w } : State).quiet = s.quiet := by
  rw [State.quiet, State.quiet, State.atRest_pending]
  rfl

theorem State.quiet_rstLow (s : State) (b : Bool) : ({ s with rstLow := b } : State).quiet = s.quiet := by
  rw [State.quiet, State.quiet, State.atRest_rstLow]
  rfl

theorem State.quiet_of_running {s : State} (hp : s.phase = .running) (h : s.settled = true) : s.quiet = true := by
  simp [State.quiet, State.atRest_of_running hp, h]

theorem State.quiet_of_ne {s : State} (hp : s.phase ≠ .running) (h : s.atRest = true) : s.quiet = true := by
  simp [State.quiet, h, hp]

/-- The end of an event leaves the part quiet. -/
theorem State.quiet_finish {s : State} (h : s.endable) : s.finish.quiet = true := by
  rcases h with ⟨hp, h⟩ | ⟨hp, h⟩
  · refine State.quiet_of_running ?_ (State.finish_settled hp h)
    have ha : s.finish.phase = s.phase := by
      rw [State.finish, whenRunning_of_running hp, State.reportAll_phase]
      have hr := State.calm_reallocate s.completeEnds
      have he (u : State) (o : OutletId) : (u.endPrepare o).phase = u.phase := by rw [(u.endPrepare_spec o).1]
      have hc (u : State) (o : OutletId) : (u.completeEnd o).phase = u.phase := by
        simp only [State.completeEnd]
        split
        · rw [(State.closeSession_frame _ _ _).1]
          exact (u.calm_stopGroup o).phase
        · rfl
      show ((((s.completeEnds.reallocate).endPrepare .a).endPrepare .b).endPrepare .c).phase = _
      rw [he, he, he, hr.phase, State.completeEnds, hc, hc, hc]
    rw [ha, hp]
  · rw [State.finish, whenRunning_of_ne hp]
    exact State.quiet_of_ne hp (State.atRest_of_isReset h)

theorem Calm.endable {s t : State} (h : Calm s t) (hp : s.phase = .running) (hs : s.endsOpen) : t.endable :=
  .inl ⟨h.phase.trans hp, h.endsOpen hs⟩

/-- The accounts give each outlet in a session state its session (R4). -/
theorem State.session_of_accounts {s : State} (hp : s.phase = .running) (h : s.accounts = true) (o : OutletId) :
    (s.outlet o).session.isSome = (s.outlet o).state.inSession := by
  simp only [State.accounts, Bool.and_eq_true, allOutlets_all] at h
  have hr := (h.2 o).1
  simp only [State.recordsSound, hp, Bool.and_eq_true, Bool.or_eq_true, beq_iff_eq] at hr
  rcases hr.2 with hn | hn
  · exact absurd hn (by decide)
  · exact hn.1.symm

theorem State.endsOpen_of_accounts {s : State} (hp : s.phase = .running) (h : s.accounts = true) : s.endsOpen :=
  fun o ho => by rw [State.session_of_accounts hp h, ho]; rfl

/-- The entry to DE_ENERGISING of an outlet with a session. -/
theorem State.endsOpen_enter {s : State} {o : OutletId} (h : s.endsOpen) (hs : (s.outlet o).session.isSome = true)
    (st : OutletState) : (s.enter o st).endsOpen := fun q hq => by
  obtain ⟨_, _, hne, ho, _⟩ := s.enter_frame o st
  by_cases hqo : q = o
  · subst hqo; rw [ho]; exact hs
  · rw [hne q hqo] at hq ⊢
    exact h q hq

/-- An act that keeps the sessions, then the entry of an outlet with a session. -/
theorem State.endable_enter {s u : State} {o : OutletId} (h : Calm s u) (hp : s.phase = .running) (hs : s.endsOpen)
    (ho : (s.outlet o).session.isSome = true) (st : OutletState) : (u.enter o st).endable := by
  refine .inl ⟨?_, State.endsOpen_enter (h.endsOpen hs) (h.session o ho) st⟩
  rw [(u.enter_frame o st).1]
  exact h.phase.trans hp

/-- An END of an open session leaves it open (R18). -/
theorem State.endable_deEnergise {s : State} {o : OutletId} (hp : s.phase = .running) (hs : s.endsOpen)
    (ho : (s.outlet o).session.isSome = true) (cause : EndCause) : (s.deEnergise o cause).endable := by
  simp only [State.deEnergise]
  refine State.endable_enter ?_ hp hs ho .deEnergising
  have h : Calm s ((s.modify o fun x => { x with
      energiseTimer := none, closeWanted := false, check := x.check.exit, endCause := some cause }).withdraw o) :=
    (s.calm_modify o _ rfl rfl).trans (State.calm_withdraw _ o)
  refine .ite (fun _ => ?_) fun _ => .ite (fun _ => h.trans (State.calm_requestSbOpen _ o)) fun _ =>
    .ite (fun _ => h.trans (State.calm_openBreakers _ o)) fun _ => h
  exact ((h.trans (State.calm_stopGroup _ o)).trans (State.calm_recomputeLimit _ o)).trans
    (State.calm_requestSbOpen _ o)

/-- An END FORCE of an open session leaves it open (R19). -/
theorem State.endable_force {s : State} {o : OutletId} (hp : s.phase = .running) (hs : s.endsOpen)
    (ho : (s.outlet o).session.isSome = true) : (s.force o).endable := by
  simp only [State.force]
  refine State.endable_enter ?_ hp hs ho .deEnergising
  have h : Calm s (s.modify o fun x => { x.halt with endCause := some .forced }) := s.calm_modify o _ rfl rfl
  exact (((h.trans (State.calm_withdraw _ o)).trans (State.calm_openBreakers _ o)).trans
    (State.calm_stopGroup _ o)).trans (State.calm_recomputeLimit _ o)

theorem State.endable_of_calm {s t : State} (hs : s.endable) (h : Calm s t) (hp : s.phase = .running) : t.endable := by
  rcases hs with ⟨_, hs⟩ | ⟨hn, _⟩
  · exact h.endable hp hs
  · exact absurd hp hn

theorem State.endable_ok {s : State} (hs : s.endable) (r : Reply) : (s.answer r).endable := by
  rcases hs with ⟨hp, hs⟩ | ⟨hn, hr⟩
  · exact (s.calm_answer r).endable hp hs
  · exact .inr ⟨hn, hr⟩

/-- The sessions that the orders need: each outlet in a session state has its session. -/
def State.sessionsOpen (s : State) : Prop := ∀ o, (s.outlet o).session.isSome = (s.outlet o).state.inSession

theorem State.sessionsOpen.ends {s : State} (h : s.sessionsOpen) : s.endsOpen := fun o ho => by rw [h o, ho]; rfl

/-- Every order leaves a part whose event may end. -/
theorem State.endable_handOver {s : State} (hp : s.phase = .running) (h : s.sessionsOpen) (c : Instr) :
    (s.handOver c).endable := by
  have calm {t : State} (k : Calm s t) : t.endable := k.endable hp h.ends
  have ends (o : OutletId) (hi : (s.outlet o).state.inSession = true) : (s.outlet o).session.isSome = true := by
    rw [h o, hi]
  cases c with
  | endSession letter =>
    cases letter with
    | none => exact calm (s.calm_no _)
    | some o =>
      show (s.orderEnd (some o)).endable
      unfold State.orderEnd State.forOutlet
      dsimp only
      split
      · exact calm (s.calm_no _)
      · split
        · next hst =>
          refine State.endable_ok (State.endable_deEnergise hp h.ends (ends o ?_) .ended) _
          rcases hst with hst | hst
          · revert hst; cases (s.outlet o).state <;> decide
          · rw [hst]; rfl
        · exact calm (.ite (fun _ => s.calm_no _) fun _ => .ite (fun _ => s.calm_no _) fun _ => s.calm_no _)
  | endForce letter =>
    cases letter with
    | none => exact calm (s.calm_no _)
    | some o =>
      show (s.orderForce (some o)).endable
      unfold State.orderForce State.forOutlet
      dsimp only
      split
      · exact calm (s.calm_no _)
      · next h1 =>
        split
        · exact calm (s.calm_no _)
        · next h2 =>
          refine State.endable_ok (State.endable_force hp h.ends (ends o ?_)) _
          revert h1 h2; cases (s.outlet o).state <;> decide
  | reset => exact .inr ⟨nofun, s.isReset_afterReset .startingUp⟩
  | time => exact calm (s.calm_orderTime ..)
  | timeQuery => exact calm s.calm_orderTimeQuery
  | grid => exact calm (s.calm_orderGrid _)
  | gridQuery => exact calm (s.calm_answer _)
  | admitVessel => exact calm (s.calm_orderAdmit ..)
  | resume => exact calm (s.calm_orderResume _)
  | capacity => exact calm (s.calm_orderCapacity ..)
  | shipback => exact calm (s.calm_orderShipback _)
  | outletQuery => exact calm (s.calm_orderOutletQuery _)
  | sessionQuery => exact calm (s.calm_orderSessionQuery _)
  | measQuery => exact calm (s.calm_orderMeasQuery _)
  | moduleService => exact calm (s.calm_orderService _)
  | moduleReturn => exact calm (s.calm_orderReturn _)
  | moduleQuery => exact calm (s.calm_orderModuleQuery _)
  | signature => exact calm (s.calm_orderSignature ..)
  | profileSet => exact calm (s.calm_orderProfileSet ..)
  | profileDefault => exact calm (s.calm_orderProfileDefault _)
  | profileQuery => exact calm (s.calm_orderProfileQuery _)
  | tariffBand => exact calm (s.calm_orderTariffBand ..)
  | tariffDemand => exact calm (.of_outlets rfl fun _ => rfl)
  | tariffInterval => exact calm (s.calm_orderTariffInterval _)
  | tariffSchedule => exact calm s.calm_orderTariffSchedule
  | tariffDiscard => exact calm s.calm_orderTariffDiscard
  | tariffQuery => exact calm (.of_outlets rfl fun _ => rfl)
  | logWindow => exact calm (s.calm_orderLogWindow ..)
  | logRead => exact calm s.calm_orderLogRead
  | logQuery => exact calm (s.calm_answer _)
  | logRelease => exact calm (s.calm_orderLogRelease _)
  | logThreshold => exact calm (.of_outlets rfl fun _ => rfl)
  | closedRead => exact calm s.calm_orderClosedRead
  | closedRelease => exact calm s.calm_orderClosedRelease
  | linkTest => exact calm (s.calm_orderLinkTest _)
  | linkQuery => exact calm (s.calm_orderLinkQuery _)
  | linkClear => exact calm (s.calm_orderLinkClear _)
  | statusQuery => exact calm (s.calm_answer _)
  | eventsQuery => exact calm (s.calm_orderEvents _)
  | filter => exact calm (s.calm_orderFilter ..)
  | enable => exact calm (s.calm_orderEnable ..)
  | attn => exact calm (s.calm_orderAttn _)
  | errQuery => exact calm s.calm_orderErrQuery
  | cls => exact calm (.of_outlets rfl fun _ => rfl)
  | _ => exact calm (.refl s)

/-- An order's row runs the order (log entry 8). -/
theorem exec_order (c : Instr) (s : State) (h : c.isOrder = true) :
    exec c s = atEvent (fun s => s.handOver c) s := by
  cases c <;> first | exact (Bool.false_ne_true h).elim | rfl

/-- A line taken by the interpreter leaves a part whose event may end. -/
theorem State.endable_takeNext {s : State} (hp : s.phase = .running) (h : s.sessionsOpen) : s.takeNext.endable := by
  unfold State.takeNext
  split
  · exact .inl ⟨hp, h.ends⟩
  · split
    · exact .inl ⟨hp, h.ends⟩
    · next l rest _ =>
      have h' : ({ s with terminal := { s.terminal with queue := rest } } : State).sessionsOpen := h
      generalize hu : ({ s with terminal := { s.terminal with queue := rest } } : State) = u at h'
      have hup : u.phase = .running := by rw [← hu]; exact hp
      unfold State.takeLine
      split
      · exact (u.calm_refuse _ _).endable hup h'.ends
      · split
        · exact (u.calm_refuse _ _).endable hup h'.ends
        · split
          · exact State.endable_handOver hup h' _
          · exact (u.calm_no _).endable hup h'.ends

theorem State.endable_endLine {s : State} (hp : s.phase = .running) (h : s.sessionsOpen) : s.endLine.endable := by
  simp only [State.endLine]
  split
  · exact .inl ⟨hp, h.ends⟩
  · split
    · exact State.endable_takeNext hp h
    · exact (State.calm_pushError _ _ _).endable hp h.ends

theorem State.endable_replyLeaves {s : State} (hp : s.phase = .running) (h : s.sessionsOpen) :
    s.replyLeaves.endable := by
  unfold State.replyLeaves
  split
  · exact State.endable_takeNext hp h
  · exact .inl ⟨hp, h.ends⟩

/-- BYE ends the session of an outlet that has one (R20). -/
theorem State.endable_takeBye {s : State} (hp : s.phase = .running) (h : s.sessionsOpen) (o : OutletId) :
    (s.takeBye o).endable := by
  have ends (hi : (s.outlet o).state.inSession = true) : (s.deEnergise o .bye).endable :=
    State.endable_deEnergise hp h.ends (by rw [h o, hi]) .bye
  unfold State.takeBye
  split
  · refine Calm.endable (Calm.trans ?_ (State.calm_enter _ o (by decide))) hp h.ends
    exact s.calm_modify o _ rfl rfl
  · next hst => exact ends (by rw [hst]; rfl)
  · next hst => exact ends (by rw [hst]; rfl)
  · next hst => exact ends (by rw [hst]; rfl)
  · exact (s.calm_sendRefuse o _ _).endable hp h.ends

theorem State.endable_serveBye {s : State} (hp : s.phase = .running) (h : s.sessionsOpen) (o : OutletId) :
    (s.serve o 0x08#8 fun _ s => s.takeBye o).endable := by
  have hl (f : ShipLink → ShipLink) : (s.modifyLink o f).sessionsOpen := fun q => by
    by_cases hq : q = o
    · subst hq; simpa [State.modifyLink] using h q
    · simpa [State.modifyLink, hq] using h q
  unfold State.serve
  split
  · exact .inl ⟨hp, h.ends⟩
  · split
    · dsimp only
      split
      · exact .inl ⟨hp, (hl _).ends⟩
      · refine State.endable_takeBye ?_ (hl _) o
        exact hp
    · exact .inl ⟨hp, h.ends⟩

/-- An initial request is one of an outlet in ADMITTED (R10). -/
theorem State.initial_admitted {s : State} (h : s.grantsSound = true) {r : Request} (hr : r ∈ s.grants)
    (hk : r.kind = .initial) : (s.outlet r.outlet).state = .admitted := by
  simp only [State.grantsSound, Bool.and_eq_true, List.all_eq_true] at h
  have := (h.2 r hr).2
  rw [hk] at this
  simpa using this

/-- The wait of a request runs out: an initial one ends the session (R10, R57). -/
theorem State.endable_expireRequest {s : State} (hp : s.phase = .running) (h : s.sessionsOpen)
    (hg : s.grantsSound = true) (o : OutletId) :
    (match s.request o with
      | none => s
      | some r => s.atExpiry (some r.wait) fun s => s.expireRequest r).endable := by
  split
  · exact .inl ⟨hp, h.ends⟩
  · next r hr =>
    rw [State.atExpiry_some]
    have he : Calm s ((s.elapse r.wait).withdraw r.outlet) := (s.calm_elapse r.wait).trans (State.calm_withdraw _ _)
    unfold State.expireRequest
    split
    · next hk =>
      have hst := State.initial_admitted hg (List.mem_of_find?_eq_some hr) hk
      exact State.endable_deEnergise (he.phase.trans hp) (he.endsOpen h.ends) (he.session _ (by rw [h, hst]; rfl)) _
    · exact (he.trans (State.calm_raiseAt _ _ _)).endable hp h.ends

/-- A well-formed command other than those of supply, RST#, start-up and the receiver is an event of the running part,
and leaves a part whose event may end. -/
theorem exec_atEvent (c : Instr) (s : State) (hc : c.isPowerRow = false) (hr : c.isReceiverRow = false)
    (hw : c.wellFormed = true) :
    ∃ act, exec c s = atEvent act s ∧
      (s.phase = .running → s.sessionsOpen → s.grantsSound = true → (act s).endable) := by
  by_cases ho : c.isOrder = true
  · exact ⟨_, exec_order c s ho, fun hp h _ => State.endable_handOver hp h c⟩
  have calm {u : State} (k : Calm s u) (hp : s.phase = .running) (h : s.sessionsOpen)
      (_ : s.grantsSound = true) : u.endable := k.endable hp h.ends
  cases c with
  | tlLineEnd => exact ⟨_, rfl, fun hp h _ => State.endable_endLine hp h⟩
  | replySent => exact ⟨_, rfl, fun hp h _ => State.endable_replyLeaves hp h⟩
  | linkTestResult o returned =>
    have e : exec (.linkTestResult o returned) s = execLinkTestResult o returned s := rfl
    rw [execLinkTestResult, if_pos (by simpa [Instr.wellFormed] using hw)] at e
    refine ⟨_, e, calm ?_⟩
    split
    · exact .refl s
    · exact s.calm_resolveTest o _ _
  | interlockChange input made =>
    refine ⟨_, rfl, calm ?_⟩
    split
    · exact s.calm_changeInput _ _ _
    · exact s.calm_changeEstopAll _
  | sbFeedbackCloses o => exact ⟨_, rfl, calm (.ite (fun _ => .refl s) fun _ => s.calm_sbCloses o)⟩
  | sbFeedbackOpens o => exact ⟨_, rfl, calm (.ite (fun _ => s.calm_sbOpens o) fun _ => .refl s)⟩
  | pbFeedbackCloses o => exact ⟨_, rfl, calm (.ite (fun _ => .refl s) fun _ => s.calm_pbCloses o)⟩
  | pbFeedbackOpens o => exact ⟨_, rfl, calm (.ite (fun _ => s.calm_pbOpens o) fun _ => .refl s)⟩
  | sbCloseTimerExpiry o =>
    exact ⟨_, rfl, calm (s.calm_atExpiry _ _ fun u => (u.calm_modifySb o _).trans (State.calm_trip _ o _))⟩
  | sbOpenTimerExpiry o =>
    exact ⟨_, rfl, calm (s.calm_atExpiry _ _ fun u => (u.calm_modifySb o _).trans (State.calm_trip _ o _))⟩
  | pbCloseTimerExpiry o =>
    exact ⟨_, rfl, calm (s.calm_atExpiry _ _ fun u => (u.calm_modifyPb o _).trans
      (.ite (fun _ => State.calm_failAttempt _ o) fun _ => .refl _))⟩
  | pbTripTimerExpiry o =>
    exact ⟨_, rfl, calm (s.calm_atExpiry _ _ fun u => .ite (fun _ => ((u.calm_modifyPb o _).trans
      (State.calm_requestSbOpen _ o)).trans (State.calm_trip _ o _)) fun _ => u.calm_modifyPb o _)⟩
  | closeFeedbackTimerExpiry o =>
    exact ⟨_, rfl, calm (s.calm_atExpiry _ _ fun u => (u.calm_requestPbTrip o).trans (State.calm_failAttempt _ o))⟩
  | syncTimerExpiry o => exact ⟨_, rfl, calm (s.calm_atExpiry _ _ fun u => u.calm_syncExpires o)⟩
  | energiseTimerExpiry o =>
    exact ⟨_, rfl, calm (s.calm_atExpiry _ _ fun u => (u.calm_modify o _ rfl rfl).trans (State.calm_trip _ o _))⟩
  | parallelTimerExpiry o => exact ⟨_, rfl, calm (s.calm_atExpiry _ _ fun u => u.calm_separate o _ _)⟩
  | overloadTimerExpiry o =>
    exact ⟨_, rfl, calm (s.calm_atExpiry _ _ fun u => .ite (fun _ => u.calm_trip o _) fun _ => u.calm_separate o _ _)⟩
  | moduleCharged m => exact ⟨_, rfl, calm ((s.calm_moduleAnswers m).trans (State.calm_takeCharged _ m))⟩
  | moduleResult m pass sig =>
    exact ⟨_, rfl, calm ((s.calm_moduleAnswers m).trans (State.calm_takeResult _ m pass sig))⟩
  | moduleFault m code =>
    have e : exec (.moduleFault m code) s = execModuleFault m code s := rfl
    rw [execModuleFault, if_neg (by simpa [Instr.wellFormed] using hw)] at e
    exact ⟨_, e, calm ((s.calm_moduleAnswers m).trans (State.calm_faultModule _ m _))⟩
  | moduleAnswer m => exact ⟨_, rfl, calm (s.calm_moduleAnswers m)⟩
  | moduleSilent m =>
    exact ⟨_, rfl, calm (s.calm_atExpiry _ _ fun u => (u.calm_modifyModule m _).trans
      (.ite (fun _ => State.calm_faultModule _ m _) fun _ => .refl _))⟩
  | prechargeTimerExpiry m => exact ⟨_, rfl, calm (s.calm_atExpiry _ _ fun u => u.calm_faultModule m _)⟩
  | selfTestTimerExpiry m => exact ⟨_, rfl, calm (s.calm_atExpiry _ _ fun u => u.calm_faultModule m _)⟩
  | drainTimerExpiry m => exact ⟨_, rfl, calm (s.calm_atExpiry _ _ fun u => u.calm_endDrain m)⟩
  | restTimeExpiry m => exact ⟨_, rfl, calm (s.calm_atExpiry _ _ fun u => u.calm_modifyModule m _)⟩
  | grantWaitExpiry o => exact ⟨_, rfl, fun hp h hg => State.endable_expireRequest hp h hg o⟩
  | referenceUpdate =>
    refine ⟨_, rfl, calm (Calm.trans (Calm.trans (s.calm_elapse s.due.reference) ?_)
      (.foldl (fun u o => u.calm_modifyRef o _) _ _))⟩
    exact .of_outlets rfl fun _ => rfl
  | controlStep =>
    refine ⟨_, rfl, calm (Calm.trans (Calm.trans (s.calm_elapse s.due.control) ?_) (State.calm_controlStep _))⟩
    exact .of_outlets rfl fun _ => rfl
  | sampleSet k =>
    refine ⟨_, rfl, calm (Calm.trans (Calm.trans (s.calm_elapse s.due.sample) ?_) (State.calm_takeSet _ k))⟩
    exact .of_outlets rfl fun _ => rfl
  | lossTimerExpiry ch => exact ⟨_, rfl, calm (s.calm_atExpiry _ _ fun u => u.calm_loseChannel ch)⟩
  | gridOverTimerExpiry =>
    refine ⟨_, rfl, calm (s.calm_atExpiry _ _ fun u => Calm.trans ?_
      (.foldl (fun v o => v.calm_modify o _ rfl rfl) _ _))⟩
    exact .of_outlets rfl fun _ => rfl
  | meteringTick =>
    refine ⟨_, rfl, calm (Calm.trans (Calm.trans (s.calm_elapse s.due.metering) ?_) (State.calm_meterTick _))⟩
    exact .of_outlets rfl fun _ => rfl
  | hello o => exact ⟨_, rfl, calm (s.calm_serve o _ _ fun p u => u.calm_takeHello o p)⟩
  | status o => exact ⟨_, rfl, calm (s.calm_serve o _ _ fun p u => u.calm_takeStatus o p)⟩
  | parallelRequest o => exact ⟨_, rfl, calm (s.calm_serve o _ _ fun _ u => u.calm_takeParallelRequest o)⟩
  | generatorsOff o => exact ⟨_, rfl, calm (s.calm_serve o _ _ fun _ u => u.calm_takeGeneratorsOff o)⟩
  | returnRequest o => exact ⟨_, rfl, calm (s.calm_serve o _ _ fun _ u => u.calm_takeReturnRequest o)⟩
  | generatorsOn o => exact ⟨_, rfl, calm (s.calm_serve o _ _ fun _ u => u.calm_takeGeneratorsOn o)⟩
  | abort o => exact ⟨_, rfl, calm (s.calm_serve o _ _ fun _ u => u.calm_takeAbort o)⟩
  | bye o => exact ⟨_, rfl, fun hp h _ => State.endable_serveBye hp h o⟩
  | shoreFrameSent o =>
    exact ⟨_, rfl, calm (.ite (fun _ => (s.calm_modifyLink o _).trans (State.calm_startSending _ o)) fun _ => .refl s)⟩
  | watchdogExpiry o =>
    exact ⟨_, rfl, calm (s.calm_atExpiry _ _ fun u => (u.calm_modifyLink o _).trans (State.calm_linkDown _ o _))⟩
  | statusTimerExpiry o =>
    exact ⟨_, rfl, calm (s.calm_atExpiry _ _ fun u => (u.calm_modifyLink o _).trans (State.calm_sendStatus _ o))⟩
  | tlCharacter ch =>
    have e : exec (.tlCharacter ch) s = execTlCharacter ch s := rfl
    rw [execTlCharacter, if_neg (by simpa [Instr.wellFormed] using hw)] at e
    exact ⟨_, e, calm (.of_outlets rfl fun _ => rfl)⟩
  | _ => first | exact (Bool.false_ne_true hc.symm).elim | exact (Bool.false_ne_true hr.symm).elim | exact (ho rfl).elim

/-- A well-formed row of the receiver acts at one link: calmly in the running part, and by the receiver alone where the
outlet is unplugged and its link DOWN. -/
theorem exec_atReceiver (c : Instr) (s : State) (hr : c.isReceiverRow = true) (hw : c.wellFormed = true) :
    ∃ act o, exec c s = atReceiver act s ∧ (s.phase = .running → Calm s (act s)) ∧
      (s.phase = .startingUp → (s.outlet o).interlocks.plug = false → (s.outlet o).link.up = false →
        Takes o s (act s)) := by
  cases c with
  | shipCharacter o ch =>
    exact ⟨_, o, rfl, fun _ => .whenConnected (s.calm_takeCharacter o ch),
      fun _ hplug _ => .whenConnected (.takeCharacter hplug ch)⟩
  | frameGapTimeout o =>
    refine ⟨_, o, rfl, fun hp => ?_, fun hp _ _ => ?_⟩
    · simp only [hp]
      exact s.calm_atExpiry _ _ fun u => u.calm_dropAtGap o
    · simp only [hp, ↓reduceIte]
      exact .ite (fun _ => .of_modifyLink s o _ rfl) fun _ => .refl o s
  | lineBreak o =>
    refine ⟨_, o, rfl, fun _ => .whenConnected (s.calm_breakLine o), fun _ _ hup => .whenConnected ?_⟩
    have h : Takes o s (s.modifyLink o fun l => { l with
        assembling := none, gapTimer := none, counts := { l.counts with breaks := count16 l.counts.breaks } }) :=
      .of_modifyLink s o _ rfl
    exact h.trans (.linkDown (by rw [State.link_modifyLink]; exact hup) _)
  | frameComplete o f =>
    have e : exec (.frameComplete o f) s = execFrameComplete o f s := rfl
    rw [execFrameComplete, if_pos (by simpa [Instr.wellFormed] using hw)] at e
    exact ⟨_, o, e, fun _ => .whenConnected (s.calm_completeFrame o f),
      fun _ hplug _ => .whenConnected (.completeFrame hplug f)⟩
  | _ => exact (Bool.false_ne_true hr).elim

/-! ### Every command -/

/-- An ill-formed command answers no next state (log entry 36). -/
theorem exec_illFormed {c : Instr} {s t : State} (hw : c.wellFormed = false) : exec c s ≠ .next t := by
  cases c with
  | frameComplete o f =>
    show execFrameComplete o f s ≠ _
    rw [execFrameComplete, if_neg (by simpa [Instr.wellFormed] using hw)]
    exact nofun
  | tlCharacter ch =>
    show execTlCharacter ch s ≠ _
    rw [execTlCharacter, if_pos (by simpa [Instr.wellFormed] using hw)]
    exact nofun
  | moduleFault m code =>
    show execModuleFault m code s ≠ _
    rw [execModuleFault, if_pos (by simpa [Instr.wellFormed] using hw)]
    exact nofun
  | linkTestResult o returned =>
    show execLinkTestResult o returned s ≠ _
    rw [execLinkTestResult, if_neg (by simpa [Instr.wellFormed] using hw)]
    exact nofun
  | _ => exact (Bool.false_ne_true hw.symm).elim

/-- The rows of supply, RST# and start-up leave the part quiet (R43, R66, R198). -/
theorem exec_powerRow {c : Instr} {s t : State} (hc : c.isPowerRow = true) (hq : s.quiet = true)
    (h : exec c s = .next t) : t.quiet = true := by
  have reset (u : State) {p : Phase} (hp : p ≠ .running) : (u.afterReset p).quiet = true :=
    State.quiet_of_ne hp (State.atRest_of_isReset (u.isReset_afterReset p))
  have rest (hp : s.phase ≠ .running) : s.atRest = true := by
    simp only [State.quiet, Bool.and_eq_true] at hq
    exact hq.1
  cases c with
  | powerOn =>
    cases h
    exact reset s (by split <;> decide)
  | powerLoss =>
    cases h
    exact reset s (by decide)
  | rstAsserted =>
    cases h
    dsimp only
    split
    · rw [State.quiet_rstLow]
      exact hq
    · exact reset _ (by decide)
  | rstReleased =>
    cases h
    dsimp only
    split
    · next hp =>
      have hr : s.isReset = true := by
        have := rest (by rw [show s.phase = .inReset from hp]; decide)
        simpa [State.atRest, show s.phase = .inReset from hp] using this
      exact State.quiet_of_ne (by rw [State.beginStartUp_phase]; decide)
        (State.atRest_of_isReset (State.isReset_beginStartUp hp hr))
    · rw [State.quiet_rstLow]
      exact hq
  | startUpComplete =>
    cases h
    split
    · next hp =>
      obtain ⟨h1, h2⟩ := State.startUp_settled hp (rest (by rw [hp]; decide))
      exact State.quiet_of_running h1 h2
    · exact hq
  | _ => exact (Bool.false_ne_true hc).elim

/-- Every command leaves a quiet part quiet. -/
theorem exec_keeps_quiet {c : Instr} {s t : State} (hs : s.sound = true) (ha : s.accounts = true)
    (hq : s.quiet = true) (h : exec c s = .next t) : t.quiet = true := by
  by_cases hc : c.isPowerRow = true
  · exact exec_powerRow hc hq h
  have hc : c.isPowerRow = false := by simpa using hc
  have hw : c.wellFormed = true := by
    by_contra hw
    exact exec_illFormed (by simpa using hw) h
  have hopen (hp : s.phase = .running) : s.sessionsOpen := State.session_of_accounts hp ha
  by_cases hr : c.isReceiverRow = true
  · obtain ⟨act, o, e, hrun, hstart⟩ := exec_atReceiver c s hr hw
    rw [e] at h
    by_cases hp : s.phase = .startingUp
    · rw [atReceiver_of_startingUp hp] at h
      cases h
      have hrest : s.atRest = true := by
        simp only [State.quiet, Bool.and_eq_true] at hq
        exact hq.1
      have ho := (State.outlet_of_atRest hp hrest o).1
      obtain ⟨h1, h2⟩ := (hstart hp (congrArg (·.interlocks.plug) ho) (congrArg (·.link.up) ho)).atRest hp hrest
      exact State.quiet_of_ne (by rw [h1]; decide) h2
    · by_cases hrunning : s.phase = .running
      · rw [atReceiver_of_running hrunning] at h
        cases h
        exact State.quiet_finish ((hrun hrunning).endable hrunning (hopen hrunning).ends)
      · rw [atReceiver_of_stopped hrunning hp] at h
        cases h
        exact hq
  · obtain ⟨act, e, hact⟩ := exec_atEvent c s hc (by simpa using hr) hw
    rw [e] at h
    by_cases hp : s.phase = .running
    · rw [atEvent_of_running hp] at h
      cases h
      have hg : s.grantsSound = true := by
        simp only [State.sound, Bool.and_eq_true] at hs
        exact hs.2
      exact State.quiet_finish (hact hp (hopen hp) hg)
    · rw [atEvent_of_ne hp] at h
      cases h
      exact hq

end Sys2Proof.Machine

open Sys2Proof.Machine in
/-- Settles O59: an idle step changes nothing, and every command leaves a quiet part quiet. -/
theorem stepLeavesPartSettled : Obligations.StepLeavesPartSettled := by
  intro s t hs ha hq h
  unfold step at h
  split at h
  · cases h
    exact hq
  · next c rest _ =>
    rw [← s.sound_pending rest] at hs
    rw [← s.accounts_pending rest] at ha
    exact exec_keeps_quiet hs ha ((s.quiet_pending rest).trans hq) h

end

section
/-! What the part holds after power-on on a blank store, and what the rows of supply, RST# and RESET leave of it. -/

namespace Sys2Proof.Machine

theorem State.reset_module (m : Fin 8) :
    State.reset.module m = { Module.blank with message := some stopMessage } := by
  simp [State.reset, State.module]

theorem State.reset_profile (n : Fin 10) : State.reset.profile n = Profile.default := by
  simp [State.reset, State.profile]

/-- No breaker's coil is energised after a reset (R43). -/
theorem State.afterReset_commands (s : State) (p : Phase) (o : OutletId) :
    (s.afterReset p).sbCommand o = false ∧ (s.afterReset p).pbClose o = false := by
  rw [State.sbCommand, State.pbClose, State.afterReset_outlet]
  exact ⟨rfl, rfl⟩

/-- STOP has been sent to every module where a reset begins start-up (R66). -/
theorem State.afterReset_stops (s : State) (m : Fin 8) :
    ((s.afterReset .startingUp).module m).message = some stopMessage := by
  rw [State.afterReset_message, if_pos rfl]

/-- The RESET order resets the running part (R191). -/
theorem exec_reset_of_ready {s : State} (h : s.ready = true) : exec .reset s = .next s.orderReset := by
  show atEvent State.orderReset s = _
  rw [atEvent_of_running (s.ready_iff.1 h).1, State.finish, whenRunning_of_ne (s := s.orderReset) nofun]

end Sys2Proof.Machine

open Sys2Proof.Machine in
/-- Settles O3: each outlet and each module is the blank one, and every other block is read off. -/
theorem resetState : Obligations.ResetState := by
  unfold Obligations.ResetState
  refine ⟨fun o => ?_, fun m => ?_, rfl, rfl, rfl, rfl, rfl, rfl, rfl, rfl, rfl, rfl, rfl, rfl,
    State.reset_profile, rfl, rfl, rfl, rfl, ?_, rfl⟩
  · cases o <;> decide
  · rw [State.reset_module]
    decide
  · decide

open Sys2Proof.Machine in
/-- Settles O5: each of the rows is a reset of the whole part, or moves the level of RST# and starts up. -/
theorem powerRowsKeepRetainedStore : Obligations.PowerRowsKeepRetainedStore := by
  refine ⟨fun s => ⟨?powerLoss, ?powerOn, ?rstAsserted, ?rstReleased, ?rstIgnored⟩, fun s hr => ?reset⟩
  case powerLoss =>
    exact ⟨_, rfl, rfl, s.afterReset_retained _, s.isReset_afterReset _, rfl, rfl, rfl, s.afterReset_commands _⟩
  case powerOn =>
    refine ⟨_, rfl, rfl, rfl, s.afterReset_retained _, s.isReset_afterReset _, rfl, rfl, rfl, fun hl m => ?_⟩
    rw [if_neg (by simp [hl])]
    exact s.afterReset_stops m
  case rstAsserted =>
    by_cases hp : s.phase = .off
    · exact ⟨{ s with rstLow := true }, congrArg Host.Outcome.next (if_pos hp), rfl,
        fun _ => rfl, fun hn => absurd hp hn⟩
    · refine ⟨({ s with rstLow := true } : State).afterReset .inReset, congrArg Host.Outcome.next (if_neg hp), rfl,
        fun h => absurd h hp, fun _ => ?_⟩
      exact ⟨rfl, rfl, State.afterReset_retained _ _, State.isReset_afterReset _ _, rfl, rfl, rfl,
        State.afterReset_commands _ _⟩
  case rstReleased => exact fun hp => congrArg Host.Outcome.next (if_pos hp)
  case rstIgnored => exact fun hp => congrArg Host.Outcome.next (if_neg hp)
  case reset =>
    exact ⟨_, exec_reset_of_ready hr, rfl, s.afterReset_retained .startingUp, s.isReset_afterReset .startingUp, rfl,
      rfl, rfl, rfl, s.afterReset_stops, s.afterReset_commands .startingUp⟩

end

section
/-! Replies: what a refusal and an answer leave of a ready part, the queries, and the orders that are refused. -/

namespace Sys2Proof.Machine

/-! ### A refusal leaves the part ready -/

@[simp] theorem StatusUnit.pushError_get (u : StatusUnit) (code : Nat) (text : String) (g : Group) :
    (u.pushError code text).get g = u.get g := by
  unfold StatusUnit.pushError
  split <;> cases g <;> rfl

theorem StatusUnit.pushError_errors_isEmpty (u : StatusUnit) (code : Nat) (text : String) :
    (u.pushError code text).errors.isEmpty = false := by
  unfold StatusUnit.pushError
  split <;> simp

/-- ERROR_QUEUED is the one condition whose level reads the status unit. -/
theorem State.level_of_status_ne (s : State) (u : StatusUnit) {g : Group} {x : Item}
    (h : g ≠ .part ∨ x ≠ .errorQueued) : ({ s with status := u } : State).level g x = s.level g x := by
  cases g with
  | outlet o => cases x <;> rfl
  | part =>
    cases x with
    | errorQueued => simp at h
    | _ => rfl

/-- An entry to the error queue is followed by its owner's report, and moves no other condition (R197). -/
theorem State.stated_pushError {s : State} (h : s.stated = true) (code : Nat) (text : String) :
    (s.pushError code text).stated = true := by
  rw [State.stated_iff] at h ⊢
  intro g x hx
  by_cases hgx : g = .part ∧ x = .errorQueued
  · obtain ⟨rfl, rfl⟩ := hgx
    refine (StatusUnit.report_contains_self _ _ hx).trans ?_
    show _ = !((s.status.pushError code text).report .part .errorQueued _).errors.isEmpty
    rw [StatusUnit.report_errors]
  · rw [not_and_or] at hgx
    refine Eq.trans ?_ ((h g x hx).trans (s.level_of_status_ne _ hgx).symm)
    rw [← s.status.pushError_get code text g]
    by_cases hg : g = .part
    · subst hg
      exact StatusUnit.report_contains_ne _ _ hx (by simpa using hgx)
    · exact congrArg (fun st => st.conditions.contains x) (StatusUnit.report_get_ne _ _ _ hg)

theorem State.ready_refuse {s : State} (h : s.ready = true) (code : Nat) (text : String) :
    (s.refuse code text).ready = true := by
  rw [State.ready_iff, State.settled_iff] at h ⊢
  obtain ⟨hp, ho, hq, hb, hst⟩ := h
  exact ⟨hp, ho, hq, hb, State.stated_pushError (s := s.answer (.no code text)) hst code text⟩

/-! ### Orders that answer or refuse -/

/-- An order that answers changes the reply alone. -/
theorem exec_answers {c : Instr} {s : State} {r : Reply} (h : s.ready = true) (hc : c.isOrder = true)
    (ha : s.handOver c = s.answer r) : exec c s = .next (s.answer r) := by
  rw [exec_order c s hc, ← ha]
  exact atEvent_of_ready (s.ready_iff.1 h).1 (by rw [ha, State.ready_answer, h])

/-- An order that is refused changes the reply and the error queue. -/
theorem exec_refuses {c : Instr} {s : State} {code : Nat} {text : String} (h : s.ready = true) (hc : c.isOrder = true)
    (ha : s.handOver c = s.refuse code text) : exec c s = .next (s.refuse code text) := by
  rw [exec_order c s hc, ← ha]
  exact atEvent_of_ready (s.ready_iff.1 h).1 (by rw [ha, State.ready_refuse h])

/-! ### Modules and profiles by number -/

theorem State.forModule_val (s : State) (m : Fin 8) (act : Fin 8 → State → State) :
    s.forModule (m.val + 1) act = act m s := by
  have e : moduleOf (m.val + 1) = some m := dif_pos (by omega)
  rw [State.forModule, e]

theorem State.forModule_of_not {n : Nat} (h : n = 0 ∨ 8 < n) (s : State) (act : Fin 8 → State → State) :
    s.forModule n act = s.no 120 := by
  have e : moduleOf n = none := dif_neg (by omega)
  rw [State.forModule, e]

theorem State.forProfile_val (s : State) (n : Fin 10) (act : Fin 10 → State → State) :
    s.forProfile n.val act = act n s := dif_pos n.isLt

theorem State.forProfile_of_not {n : Nat} (h : 9 < n) (s : State) (act : Fin 10 → State → State) :
    s.forProfile n act = s.no 120 := dif_neg (by omega)

end Sys2Proof.Machine

open Sys2Proof.Machine in
/-- Settles O13: each query is an answer, which leaves the part ready. -/
theorem queriesChangeOnlyReply : Obligations.QueriesChangeOnlyReply := by
  intro s h
  refine ⟨fun hc => ?clockUnset, fun c hc => ?clock, exec_answers h rfl rfl, fun o => ⟨exec_answers h rfl rfl, ?session,
    exec_answers h rfl rfl, exec_answers h rfl rfl⟩, fun m => ?module, fun n => ?profile, fun hp => ?tariff,
    fun p hp => ?pending, exec_answers h rfl rfl, fun k rest hk => ?closed, exec_answers h rfl rfl⟩
  case clockUnset =>
    refine exec_answers h rfl ?_
    simp only [State.handOver, State.orderTimeQuery, hc]
    rfl
  case clock =>
    refine exec_answers h rfl ?_
    simp only [State.handOver, State.orderTimeQuery, hc]
    rfl
  case session =>
    intro r hr
    refine exec_answers h rfl ?_
    simp only [State.handOver, State.orderSessionQuery, State.forOutlet, hr]
    rfl
  case module => exact exec_answers h rfl (s.forModule_val m fun m s => s.ok (s.module m).pairs)
  case profile => exact exec_answers h rfl (s.forProfile_val n fun n s => s.okProfile n)
  case tariff =>
    refine exec_answers h rfl ?_
    simp only [State.handOver, State.orderTariffQuery, hp]
    rfl
  case pending =>
    refine exec_answers h rfl ?_
    simp only [State.handOver, State.orderTariffQuery, hp]
    rfl
  case closed =>
    refine exec_answers h rfl ?_
    simp only [State.handOver, State.orderClosedRead, hk]
    rfl

end

section
/-! The orders that are refused (R8, R25; the table of section 11.3). -/

namespace Sys2Proof.Machine

/-! ### The states in which an outlet order is refused -/

theorem OutletState.within_supplied {st : OutletState} (h : st.supplied = true) :
    st.within .vacant .announced = false ∧ st ≠ .held ∧ st ≠ .admitted := by
  revert h
  cases st <;> decide

theorem OutletState.within_session {st : OutletState} (h : st.within .admitted .tripped = true) :
    st.within .vacant .announced = false ∧ st ≠ .held := by
  revert h
  cases st <;> decide

theorem OutletState.within_untripped {st : OutletState} (h : st.within .admitted .deEnergising = true) :
    st.within .admitted .tripped = true ∧ st ≠ .tripped := by
  revert h
  cases st <;> decide

/-! ### Arguments that no check allows -/

theorem isSequence_of_not {n : Nat} (h : n = 0 ∨ 4294967295 < n) : isSequence n = false := by
  rw [isSequence, Bool.and_eq_false_iff, decide_eq_false_iff_not, decide_eq_false_iff_not]
  have : Config.max32 = 4294967295 := rfl
  omega

theorem isSequence_of_le {n : Nat} (h1 : 1 ≤ n) (h2 : n ≤ 4294967295) : isSequence n = true := by
  simp [isSequence, Config.max32, h1, h2]

theorem bandAllowed_of_not {b : Nat} {w : WindowArg} (h : 3 < b ∨ (b = 0 ∧ w ≠ .keep)) : bandAllowed b w = false := by
  cases w <;> simp [bandAllowed] at h ⊢ <;> omega

theorem Clock.isReading_of_not {c : Clock} (h : c.year < 2000 ∨ 9999 < c.year ∨ c.month = 0 ∨ 12 < c.month ∨ c.day = 0 ∨
    daysIn c.year c.month < c.day ∨ 23 < c.hour ∨ 59 < c.minute ∨ 59 < c.second) : c.isReading = false := by
  simp only [Clock.isReading, Bool.and_eq_false_iff, decide_eq_false_iff_not]
  omega

theorem State.moduleOrders_of_not {n : Nat} (h : n = 0 ∨ 8 < n) (s : State) :
    s.orderService n = s.no 120 ∧ s.orderReturn n = s.no 120 ∧ s.orderModuleQuery n = s.no 120 :=
  ⟨s.forModule_of_not h _, s.forModule_of_not h _, s.forModule_of_not h _⟩

theorem State.profileOrders_of_not {n : Nat} (h : 9 < n) (s : State) :
    s.orderProfileDefault n = s.no 120 ∧ s.orderProfileQuery n = s.no 120 :=
  ⟨s.forProfile_of_not h _, s.forProfile_of_not h _⟩

theorem State.orderTime_of_not {y m d h i j : Nat} (hc : y < 2000 ∨ 9999 < y ∨ m = 0 ∨ 12 < m ∨ d = 0 ∨ daysIn y m < d ∨
    23 < h ∨ 59 < i ∨ 59 < j) (s : State) : s.orderTime y m d h i j = s.no 120 := by
  have e := Clock.isReading_of_not (c := ⟨y, m, d, h, i, j, 0⟩) hc
  exact if_neg (by simp [e])

theorem State.orderSignature_of_not {n sig : Nat} (h : n = 0 ∨ 8 < n ∨ 4294967295 < sig) (s : State) (r : Nat) :
    s.orderSignature n sig r = s.no 120 := by
  by_cases hn : n = 0 ∨ 8 < n
  · exact s.forModule_of_not hn _
  · obtain ⟨m, rfl⟩ : ∃ m : Fin 8, n = m.val + 1 := ⟨⟨n - 1, by omega⟩, by simp; omega⟩
    exact (s.forModule_val m _).trans (if_pos (by simp only [Config.max32]; omega))

theorem State.orderProfileSet_of_not {n : Nat} {f : Option ProfileField} (h : 9 < n ∨ f = none) (s : State) (x : Nat) :
    s.orderProfileSet n f x = s.no 120 := by
  cases f with
  | none => rfl
  | some f => exact dif_neg (by simp at h; omega)

theorem State.orderFilter_of_not {x : Option Item} (h : x.any (·.isCondition) = false) (s : State) (f : Filter) :
    s.orderFilter x f = s.no 120 := by
  cases x with
  | none => rfl
  | some x => exact if_neg (by simpa using h)

theorem State.orderEnable_of_not {g : Group} {x : Option Item} (h : x.any (g.items.contains ·) = false) (s : State) :
    s.orderEnable (some g) [x] = s.no 120 := by
  refine if_neg ?_
  cases x <;> simp_all

/-! ### Orders that find their object in a state that forbids them -/

theorem State.orderService_last {s : State} {m : Fin 8} (h : s.isLastModule m = true) :
    s.orderService (m.val + 1) = s.no 250 :=
  (s.forModule_val m _).trans (if_pos h)

theorem State.orderSignature_member {s : State} {m : Fin 8} (h : (s.module m).state.isMember = true) {sig : Nat}
    (hs : sig ≤ 4294967295) (r : Nat) : s.orderSignature (m.val + 1) sig r = s.no 200 :=
  (s.forModule_val m _).trans ((if_neg (by simp only [Config.max32]; omega)).trans (if_pos h))

/-- RETURN acts on a module out of service or faulted, and on one that leaves its group for service (R65). -/
theorem State.orderReturn_of_not {s : State} {m : Fin 8} (h1 : (s.module m).state ≠ .outOfService)
    (h2 : (s.module m).state ≠ .faulted) (h3 : (s.module m).state ≠ .releasing ∨ (s.module m).service = false) :
    s.orderReturn (m.val + 1) = s.no 200 := by
  refine (s.forModule_val m _).trans ?_
  dsimp only
  rw [if_neg (by simp [h1, h2]), if_neg]
  rintro ⟨hr, hs⟩
  simp [hr, hs] at h3

theorem ModuleState.isMember_active {st : ModuleState} (h : st.isMember = true) :
    st ≠ .outOfService ∧ st ≠ .faulted := by
  revert h
  cases st <;> decide

theorem State.orderLogWindow_of_sequence {a b : Nat} (ha : isSequence a = true) (hb : isSequence b = true) (s : State) :
    s.orderLogWindow a b = s.setWindow a b := if_pos (by rw [ha, hb]; rfl)

theorem State.orderLogRelease_of_sequence {n : Nat} (h : isSequence n = true) (s : State) :
    s.orderLogRelease n =
      match s.log.oldest, s.log.newest with
      | some a, some b => if n < a ∨ b < n then s.no 270 else s.releaseLog n
      | _, _ => s.no 270 := by
  rw [State.orderLogRelease, if_neg (by simp [h])] <;> rfl

theorem BillingLog.oldest_of_empty {l : BillingLog} (h : l.records = []) : l.oldest = none := by
  simp [BillingLog.oldest, h]

/-- A raise for which the budget has no room (R61). -/
theorem State.orderCapacity_noBudget {s : State} {o : OutletId} {kW : Nat} (hst : (s.outlet o).state.supplied = true)
    (h1 : 1 ≤ kW) (h2 : kW ≤ 60000) (ha : s.admitted o < kW)
    (hb : s.gridLimit < s.claims - s.claim o + min kW (s.committed o)) :
    s.orderCapacity (some o) kW = s.refuse 200 "NO BUDGET" := by
  obtain ⟨hw, hheld, hadm⟩ := OutletState.within_supplied hst
  have hk : clampCapacity kW = kW := by
    rw [clampCapacity, clampNat, if_neg (by omega), if_neg (by omega)]
  have hm : s.mayRaise o kW = false := decide_eq_false (by rw [State.claimsWith]; omega)
  show (if (s.outlet o).state.within .vacant .announced then _ else _) = _
  rw [hw, if_neg Bool.false_ne_true, if_neg hheld, if_neg hadm, if_pos hst, hk, State.changeCapacity,
    if_neg (by omega), if_neg (by omega), hm]
  rfl

/-- An argument that no check after the form allows (section 11.3). -/
theorem badArguments_refused {s : State} (h : s.ready = true) :
    (∀ (p : Option Nat) (kW : Nat) (v a : Option Text),
      exec (.admitVessel none p kW v a) s = .next (s.no 120)) ∧
    (∀ c ∈ [Instr.endSession none, .endForce none, .resume none, .shipback none, .outletQuery none,
        .sessionQuery none, .measQuery none, .linkTest none, .linkQuery none, .linkClear none,
        .eventsQuery none],
      exec c s = .next (s.no 120)) := by
  refine ⟨fun p kW v a => exec_refuses h rfl rfl, fun c hc => ?_⟩
  fin_cases hc <;> exact exec_refuses h rfl rfl

end Sys2Proof.Machine

open Sys2Proof.Machine in
/-- Settles O11: each order takes the branch of its refusal, and a refusal leaves the part ready. -/
theorem badOrdersRefused : Obligations.BadOrdersRefused := by
  refine ⟨fun s h => ?arguments, fun s h => ?objects⟩
  case arguments =>
    obtain ⟨hadmit, hletters⟩ := badArguments_refused h
    refine ⟨hadmit, hletters, fun kW => exec_refuses h rfl rfl, fun o p kW v a hb => exec_refuses h rfl (if_pos hb),
      fun n hn => ?modules,
      fun n sig r hn => exec_refuses h rfl (State.orderSignature_of_not hn s r),
      fun n f x hn => exec_refuses h rfl (State.orderProfileSet_of_not hn s x),
      fun n hn => ?profiles,
      fun b p w hb => exec_refuses h rfl (if_neg (by simp [bandAllowed_of_not hb])),
      fun n hn => exec_refuses h rfl (if_neg (by simpa using hn)),
      fun a b hab => exec_refuses h rfl (if_neg ?window),
      fun n hn => exec_refuses h rfl (if_pos (by simp [isSequence_of_not hn])),
      fun x f hx => exec_refuses h rfl (State.orderFilter_of_not hx s f), fun xs => exec_refuses h rfl rfl,
      fun g x hx => exec_refuses h rfl (State.orderEnable_of_not hx s),
      fun gs hg => exec_refuses h rfl (if_neg ?attn),
      fun y m d hh i j hc => exec_refuses h rfl (State.orderTime_of_not hc s)⟩
    case modules =>
      obtain ⟨hservice, hreturn, hquery⟩ := State.moduleOrders_of_not hn s
      exact ⟨exec_refuses h rfl hservice, exec_refuses h rfl hreturn, exec_refuses h rfl hquery⟩
    case profiles =>
      obtain ⟨hdefault, hquery⟩ := State.profileOrders_of_not hn s
      exact ⟨exec_refuses h rfl hdefault, exec_refuses h rfl hquery⟩
    case window =>
      have : isSequence a = false ∨ isSequence b = false := by
        rcases hab with ha | ha | hb | hb
        · exact .inl (isSequence_of_not (.inl ha))
        · exact .inl (isSequence_of_not (.inr ha))
        · exact .inr (isSequence_of_not (.inl hb))
        · exact .inr (isSequence_of_not (.inr hb))
      rcases this with e | e <;> simp [e]
    case attn =>
      intro hall
      simpa using List.all_eq_true.1 hall none hg
  case objects =>
    refine ⟨fun m => ⟨fun hl => exec_refuses h rfl (State.orderService_last hl),
      fun hm => ⟨fun sig r hs => ?_, fun hs => ?_⟩,
      fun hoff => exec_refuses h rfl (State.orderReturn_of_not (by simp [hoff]) (by simp [hoff])
        (.inl (by simp [hoff])))⟩,
      fun he => ⟨fun a b ha1 ha2 hb1 hb2 => ?_, fun n h1 h2 => ?_⟩,
      fun lo hi hlo hhi => ⟨fun a b ha1 ha2 hb1 hb2 hlt => ?_, fun n h1 h2 hn => ?_⟩, fun hw => exec_refuses h rfl ?_,
      fun hc => ⟨exec_refuses h rfl ?_, exec_refuses h rfl ?_⟩,
      fun o kW hst h1 h2 ha hb => exec_refuses h rfl (State.orderCapacity_noBudget hst h1 h2 ha hb)⟩
    · exact exec_refuses h rfl (State.orderSignature_member hm hs r)
    · exact exec_refuses h rfl
        (State.orderReturn_of_not (ModuleState.isMember_active hm).1 (ModuleState.isMember_active hm).2 hs)
    · refine exec_refuses h rfl
        ((State.orderLogWindow_of_sequence (isSequence_of_le ha1 ha2) (isSequence_of_le hb1 hb2) s).trans ?_)
      simp only [State.setWindow, BillingLog.oldest_of_empty he]
      rfl
    · refine exec_refuses h rfl ((State.orderLogRelease_of_sequence (isSequence_of_le h1 h2) s).trans ?_)
      simp only [BillingLog.oldest_of_empty he]
      rfl
    · refine exec_refuses h rfl
        ((State.orderLogWindow_of_sequence (isSequence_of_le ha1 ha2) (isSequence_of_le hb1 hb2) s).trans ?_)
      simp only [State.setWindow, hlo, hhi]
      exact if_pos (by omega)
    · refine exec_refuses h rfl ((State.orderLogRelease_of_sequence (isSequence_of_le h1 h2) s).trans ?_)
      simp only [hlo, hhi]
      exact if_pos hn
    · simp only [State.handOver, State.orderLogRead, hw]
    · simp only [State.handOver, State.orderClosedRead, hc]
      rfl
    · simp only [State.handOver, State.orderClosedRelease, hc]
      rfl

end

section
/-! The refusals of the table of R25, and the checks of ADMIT (R8). -/

namespace Sys2Proof.Machine

variable {s : State} {o : OutletId}

/-! ### The orders of an outlet, branch by branch -/

theorem State.orders_without_session (h : (s.outlet o).state.within .vacant .announced = true) :
    s.orderEnd (some o) = s.no 220 ∧ s.orderForce (some o) = s.no 220 ∧ s.orderResume (some o) = s.no 220 ∧
      s.orderShipback (some o) = s.no 220 ∧ ∀ kW, s.orderCapacity (some o) kW = s.no 220 :=
  ⟨if_pos h, if_pos h, if_pos h, if_pos h, fun _ => if_pos h⟩

theorem State.orders_held (h : (s.outlet o).state = .held) :
    s.orderEnd (some o) = s.no 210 ∧ s.orderForce (some o) = s.no 210 ∧ s.orderResume (some o) = s.no 210 ∧
      s.orderShipback (some o) = s.no 210 ∧ s.orderLinkTest (some o) = s.no 210 ∧
      ∀ kW, s.orderCapacity (some o) kW = s.no 210 := by
  have hw : ¬(s.outlet o).state.within .vacant .announced = true := by rw [h]; decide
  have hsession : ¬((s.outlet o).state.within .admitted .synchronising = true ∨ (s.outlet o).state = .tripped) := by
    rw [h]; decide
  have htransfer : ¬(s.outlet o).state.within .transferIn .separating = true := by rw [h]; decide
  exact ⟨(if_neg hw).trans ((if_neg hsession).trans ((if_neg htransfer).trans (if_pos h))),
    (if_neg hw).trans (if_pos h), (if_neg hw).trans (if_pos h), (if_neg hw).trans (if_pos h),
    (if_neg hw).trans (if_pos h), fun _ => (if_neg hw).trans (if_pos h)⟩

theorem State.orderEnd_transfer (h : (s.outlet o).state.within .transferIn .separating = true) :
    s.orderEnd (some o) = s.no 260 := by
  have hw : ¬(s.outlet o).state.within .vacant .announced = true := by
    revert h; cases (s.outlet o).state <;> decide
  have hsession : ¬((s.outlet o).state.within .admitted .synchronising = true ∨ (s.outlet o).state = .tripped) := by
    revert h; cases (s.outlet o).state <;> decide
  exact (if_neg hw).trans ((if_neg hsession).trans (if_pos h))

theorem State.orderEnd_deEnergising (h : (s.outlet o).state = .deEnergising) :
    s.orderEnd (some o) = s.no 200 := by
  refine (if_neg ?_).trans ((if_neg ?_).trans ((if_neg ?_).trans (if_neg ?_))) <;> rw [h] <;> decide

theorem State.orderResume_untripped (h : (s.outlet o).state.within .admitted .deEnergising = true) :
    s.orderResume (some o) = s.no 200 := by
  obtain ⟨hsession, htripped⟩ := OutletState.within_untripped h
  obtain ⟨hw, hheld⟩ := OutletState.within_session hsession
  exact (if_neg (by simp [hw])).trans ((if_neg hheld).trans (if_pos htripped))

theorem State.orderResume_blocked (h : (s.outlet o).state = .tripped) (hb : s.interlocksGood o = false) :
    s.orderResume (some o) = s.no 230 := by
  refine (if_neg ?_).trans ((if_neg ?_).trans ((if_neg ?_).trans (if_pos (by simp [hb])))) <;> rw [h] <;> decide

theorem State.orderCapacity_ending (h : (s.outlet o).state = .deEnergising ∨ (s.outlet o).state = .tripped) (kW : Nat) :
    s.orderCapacity (some o) kW = s.no 200 := by
  refine (if_neg ?_).trans ((if_neg ?_).trans ((if_neg ?_).trans (if_neg ?_))) <;>
    rcases h with h | h <;> rw [h] <;> decide

theorem State.orderShipback_unsupplied (h : (s.outlet o).state.within .admitted .tripped = true)
    (hne : (s.outlet o).state ≠ .shoreSupply) : s.orderShipback (some o) = s.no 200 := by
  obtain ⟨hw, hheld⟩ := OutletState.within_session h
  exact (if_neg (by simp [hw])).trans ((if_neg hheld).trans (if_pos hne))

theorem State.orderLinkTest_session (h : (s.outlet o).state.within .admitted .tripped = true) :
    s.orderLinkTest (some o) = s.no 200 := by
  obtain ⟨hw, hheld⟩ := OutletState.within_session h
  exact (if_neg (by simp [hw])).trans (if_neg hheld)

theorem State.orderSessionQuery_none (h : (s.outlet o).session = none) (hh : (s.outlet o).held = none) :
    s.orderSessionQuery (some o) = s.no 220 := by
  simp only [State.orderSessionQuery, State.forOutlet, Outlet.reported, h, hh]

/-! ### The checks of ADMIT, in their order (R8) -/

/-- Arguments that are allowed leave ADMIT to its outlet. -/
theorem State.orderAdmit_of_allowed {p : Option Nat} {v a : Option Text} (hp : p.getD 0 ≤ 9)
    (hv : textAllowed 16 v = true) (ha : textAllowed 12 a = true) (kW : Nat) :
    s.orderAdmit (some o) p kW v a = s.admitTo o p kW v a :=
  if_neg (by simp [hv, ha, hp])

variable {p : Option Nat} {kW : Nat} {v a : Option Text}

theorem State.admitTo_held (h : (s.outlet o).state = .held) : s.admitTo o p kW v a = s.no 210 := if_pos h

theorem State.admitTo_state (h : (s.outlet o).state ≠ .held)
    (hw : ¬((s.outlet o).state = .cabled ∨ (s.outlet o).state = .announced)) : s.admitTo o p kW v a = s.no 200 :=
  (if_neg h).trans (if_pos (not_or.1 hw))

/-- An outlet that waits for ADMIT passes the checks of its state. -/
theorem State.admitTo_waiting (hw : (s.outlet o).state = .cabled ∨ (s.outlet o).state = .announced) :
    ¬(s.outlet o).state = .held ∧ ¬((s.outlet o).state ≠ .cabled ∧ (s.outlet o).state ≠ .announced) := by
  rcases hw with h | h <;> simp [h]

theorem State.admitTo_blocked (hw : (s.outlet o).state = .cabled ∨ (s.outlet o).state = .announced)
    (hb : s.interlocksGood o = false) : s.admitTo o p kW v a = s.no 230 := by
  obtain ⟨h1, h2⟩ := State.admitTo_waiting hw
  exact (if_neg h1).trans ((if_neg h2).trans (if_pos (by simp [hb])))

theorem State.admitTo_unsuited (hw : (s.outlet o).state = .cabled ∨ (s.outlet o).state = .announced)
    (hb : s.interlocksGood o = true)
    (hs : (s.outlet o).profileSuits (s.profileAt ((s.outlet o).chosenProfile p)) = false) :
    s.admitTo o p kW v a = s.no 240 := by
  obtain ⟨h1, h2⟩ := State.admitTo_waiting hw
  exact (if_neg h1).trans ((if_neg h2).trans ((if_neg (by simp [hb])).trans (if_pos (by simp [hs]))))

theorem State.admitTo_exhausted (hw : (s.outlet o).state = .cabled ∨ (s.outlet o).state = .announced)
    (hb : s.interlocksGood o = true)
    (hs : (s.outlet o).profileSuits (s.profileAt ((s.outlet o).chosenProfile p)) = true)
    (hn : 4294967295 ≤ s.sessionCounter) : s.admitTo o p kW v a = s.refuse 200 "NO NUMBER" := by
  obtain ⟨h1, h2⟩ := State.admitTo_waiting hw
  exact (if_neg h1).trans ((if_neg h2).trans ((if_neg (by simp [hb])).trans ((if_neg (by simp [hs])).trans
    (if_pos hn))))

/-- An announcement whose network is not the profile's does not suit it (R8). -/
theorem Outlet.profileSuits_of_not {x : Outlet} {profile : Profile} {h : Announcement} (ha : x.announcement = some h)
    (hne : h.frequency ≠ profile.nomFreq ∨ profile.toleranceVolts < distance h.voltage profile.nomVolt) :
    x.profileSuits profile = false := by
  simp only [Outlet.profileSuits, ha, Bool.and_eq_false_iff, beq_eq_false_iff_ne, decide_eq_false_iff_not]
  omega

end Sys2Proof.Machine

open Sys2Proof.Machine in
/-- Settles O12: each order takes the branch of its first failed check, and a refusal leaves the part ready. -/
theorem wrongStateRefused : Obligations.WrongStateRefused := by
  refine ⟨fun s o h => ⟨fun hst => ?vacant, fun hst => ?held,
    fun hst => exec_refuses h rfl (State.orderEnd_transfer ?transfer),
    fun hst => exec_refuses h rfl (State.orderEnd_deEnergising hst),
    fun hst => exec_refuses h rfl (State.orderResume_untripped hst),
    fun hst hb => exec_refuses h rfl (State.orderResume_blocked hst hb),
    fun hst kW => exec_refuses h rfl (State.orderCapacity_ending hst kW),
    fun hst hne => exec_refuses h rfl (State.orderShipback_unsupplied hst hne),
    fun hst => exec_refuses h rfl (State.orderLinkTest_session hst),
    fun hs hh => exec_refuses h rfl (State.orderSessionQuery_none hs hh)⟩,
    fun s h o p kW v a hp hv ha => ?admission⟩
  case vacant =>
    have hw : (s.outlet o).state.within .vacant .announced = true := by
      rcases hst with hst | hst | hst <;> rw [hst] <;> rfl
    obtain ⟨hend, hforce, hresume, hship, hcap⟩ := State.orders_without_session hw
    refine ⟨fun c hc => ?_, fun kW => exec_refuses h rfl (hcap kW)⟩
    fin_cases hc
    · exact exec_refuses h rfl hend
    · exact exec_refuses h rfl hforce
    · exact exec_refuses h rfl hresume
    · exact exec_refuses h rfl hship
  case held =>
    obtain ⟨hend, hforce, hresume, hship, htest, hcap⟩ := State.orders_held hst
    refine ⟨fun c hc => ?_, fun kW => exec_refuses h rfl (hcap kW)⟩
    fin_cases hc
    · exact exec_refuses h rfl hend
    · exact exec_refuses h rfl hforce
    · exact exec_refuses h rfl hresume
    · exact exec_refuses h rfl hship
    · exact exec_refuses h rfl htest
  case transfer => rcases hst with hst | hst | hst | hst <;> rw [hst] <;> rfl
  case admission =>
    have he := State.orderAdmit_of_allowed (s := s) (o := o) hp hv ha kW
    exact ⟨fun hst => exec_refuses h rfl (he.trans (State.admitTo_held hst)),
      fun hst hw => exec_refuses h rfl (he.trans (State.admitTo_state hst hw)),
      fun hw hb => exec_refuses h rfl (he.trans (State.admitTo_blocked hw hb)),
      fun hw hb => ⟨fun _ hann hne => exec_refuses h rfl
          (he.trans (State.admitTo_unsuited hw hb (Outlet.profileSuits_of_not hann hne))),
        fun hs hn => exec_refuses h rfl (he.trans (State.admitTo_exhausted hw hb hs hn))⟩⟩

end

section
/-! The frame services (R121): what each does with the oldest frame, and the frames an outlet's state refuses. -/

namespace Sys2Proof.Machine

variable {s : State} {o : OutletId} {f : ShipFrame} {rest : List ShipFrame}

/-! ### The oldest frame -/

/-- The link once its oldest frame has left the FIFO. -/
def ShipLink.served (l : ShipLink) : ShipLink := { l with fifo := l.fifo.drop 1 }

theorem State.served_outlet (s : State) (o : OutletId) :
    (s.served o).outlet o = { s.outlet o with link := (s.outlet o).link.served } :=
  State.outlet_modify_self ..

theorem State.served_outlet_ne {q : OutletId} (hq : q ≠ o) : (s.served o).outlet q = s.outlet q :=
  State.outlet_modify_ne _ _ hq

theorem State.ready_served (s : State) (o : OutletId) : (s.served o).ready = s.ready :=
  s.ready_modifyLink o (s.outlet o).link.served rfl rfl

theorem SamePool.of_served (s : State) (o : OutletId) : SamePool s (s.served o) :=
  .of_outlets rfl rfl rfl fun q => by
    by_cases hq : q = o
    · subst hq; rw [State.served_outlet]
    · rw [State.served_outlet_ne hq]

theorem State.served_of_fifo (hf : (s.outlet o).link.fifo = f :: rest) :
    (s.modifyLink o fun l => { l with fifo := rest }) = s.served o := by
  rw [State.modifyLink_const, State.served, State.modifyLink_const s o fun l => { l with fifo := l.fifo.drop 1 }, hf]
  rfl

/-- A service of another type than the oldest frame's does nothing (log entry 10). -/
theorem State.serve_of_other (hf : (s.outlet o).link.fifo = f :: rest) {type : Byte} (ht : f.type ≠ type)
    (act : List Byte → State → State) : s.serve o type act = s := by
  simp only [State.serve, hf, if_neg ht]

/-- A frame taken in VACANT is discarded (R1). -/
theorem State.serve_of_vacant (hf : (s.outlet o).link.fifo = f :: rest) {type : Byte} (ht : f.type = type)
    (hv : (s.outlet o).state = .vacant) (act : List Byte → State → State) : s.serve o type act = s.served o := by
  have hv' : ((s.served o).outlet o).state = .vacant := by rw [State.served_outlet]; exact hv
  simp only [State.serve, hf, if_pos ht, State.served_of_fifo hf, if_pos hv']

/-- A frame of the type served leaves the FIFO and acts (R121). -/
theorem State.serve_of_type (hf : (s.outlet o).link.fifo = f :: rest) {type : Byte} (ht : f.type = type)
    (hv : (s.outlet o).state ≠ .vacant) (act : List Byte → State → State) :
    s.serve o type act = act f.payload (s.served o) := by
  have hv' : ((s.served o).outlet o).state ≠ .vacant := by rw [State.served_outlet]; exact hv
  simp only [State.serve, hf, if_pos ht, State.served_of_fifo hf, if_neg hv']

/-! ### Frames that are not accepted -/

/-- What a service does with a frame that is not its own, one taken in VACANT, and one its outlet's state does not
accept. -/
theorem atEvent_serve_unaccepted (hr : s.ready = true) (hf : (s.outlet o).link.fifo = f :: rest) {type : Byte}
    {act : List Byte → State → State} {accepted : Bool}
    (hact : (s.outlet o).state ≠ .vacant → accepted = false →
      act f.payload (s.served o) = (s.served o).sendRefuse o type .wrongState) :
    (f.type.toNat ≠ type.toNat → atEvent (fun s => s.serve o type act) s = .next s) ∧
      (f.type.toNat = type.toNat → (s.outlet o).state = .vacant →
        atEvent (fun s => s.serve o type act) s = .next (s.served o)) ∧
      (f.type.toNat = type.toNat → (s.outlet o).state ≠ .vacant → accepted = false →
        atEvent (fun s => s.serve o type act) s = .next ((s.served o).sendRefuse o f.type .wrongState)) := by
  have hrun := (s.ready_iff.1 hr).1
  have hserved : (s.served o).ready = true := by rw [State.ready_served, hr]
  refine ⟨fun ht => ?_, fun ht hv => ?_, fun ht hv ha => ?_⟩
  · exact atEvent_of_idle hr (State.serve_of_other hf (fun e => ht (by rw [e])) _)
  · have e := State.serve_of_vacant hf (BitVec.eq_of_toNat_eq ht) hv act
    rw [← e] at hserved ⊢
    exact atEvent_of_ready hrun hserved
  · have ht := BitVec.eq_of_toNat_eq ht
    have e := (State.serve_of_type hf ht hv act).trans (hact hv ha)
    rw [ht, ← e]
    refine atEvent_of_ready hrun ?_
    rw [e, State.ready_sendRefuse, hserved]

/-- A frame that leads nowhere in a state: the services by the state of the outlet (R26). -/
theorem State.takeHello_held (h : (s.outlet o).state = .held) (p : List Byte) :
    s.takeHello o p = s.sendRefuse o 0x01#8 .wrongState := by
  simp only [State.takeHello, h]
  rfl

theorem State.takeAbort_refused (h1 : (s.outlet o).state ≠ .synchronising) (h2 : (s.outlet o).state ≠ .transferIn)
    (h3 : (s.outlet o).state ≠ .transferOut) : s.takeAbort o = s.sendRefuse o 0x07#8 .wrongState := by
  unfold State.takeAbort
  split
  · exact absurd ‹_› h1
  · exact absurd ‹_› h2
  · exact absurd ‹_› h3
  · rfl

theorem State.takeBye_refused (h1 : (s.outlet o).state ≠ .announced)
    (h2 : (s.outlet o).state.within .admitted .cableLive = false) :
    s.takeBye o = s.sendRefuse o 0x08#8 .wrongState := by
  unfold State.takeBye
  split
  · exact absurd ‹_› h1
  · next e => rw [e] at h2; exact absurd h2 (by decide)
  · next e => rw [e] at h2; exact absurd h2 (by decide)
  · next e => rw [e] at h2; exact absurd h2 (by decide)
  · rfl

end Sys2Proof.Machine

open Sys2Proof.Machine in
/-- Settles O45: each service, in a state that does not accept its frame, answers WRONG_STATE. -/
theorem unacceptedFramesRefused : Obligations.UnacceptedFramesRefused := by
  intro s hr o f rest hf x u rows row hrow
  have hst : (u.outlet o).state = x.state := by rw [State.served_outlet]
  have hho : (u.outlet o).handover = x.handover := by rw [State.served_outlet]
  simp only [rows, List.mem_cons, List.not_mem_nil, or_false] at hrow
  rcases hrow with rfl | rfl | rfl | rfl | rfl | rfl | rfl | rfl
  · refine atEvent_serve_unaccepted (type := 0x01#8) (act := fun p s => s.takeHello o p) hr hf
      fun _ ha => State.takeHello_held ?_ _
    rw [hst]
    simpa using ha
  · exact atEvent_serve_unaccepted (type := 0x02#8) (act := fun p s => s.takeStatus o p) hr hf
      fun _ ha => absurd ha.symm Bool.false_ne_true
  · refine atEvent_serve_unaccepted (type := 0x03#8) (act := fun _ s => s.takeParallelRequest o) hr hf
      fun _ ha => if_neg ?_
    rw [hst]
    simpa using ha
  · refine atEvent_serve_unaccepted (type := 0x04#8) (act := fun _ s => s.takeGeneratorsOff o) hr hf
      fun _ ha => if_neg ?_
    rw [hst, hho]
    simpa using ha
  · refine atEvent_serve_unaccepted (type := 0x05#8) (act := fun _ s => s.takeReturnRequest o) hr hf
      fun _ ha => if_neg ?_
    rw [hst]
    simpa using ha
  · refine atEvent_serve_unaccepted (type := 0x06#8) (act := fun _ s => s.takeGeneratorsOn o) hr hf
      fun _ ha => if_neg ?_
    rw [hst]
    simpa using ha
  · refine atEvent_serve_unaccepted (type := 0x07#8) (act := fun _ s => s.takeAbort o) hr hf fun _ ha => ?_
    simp only [Bool.or_eq_false_iff, beq_eq_false_iff_ne] at ha
    obtain ⟨⟨h1, h2⟩, h3⟩ := ha
    exact State.takeAbort_refused (hst ▸ h1) (hst ▸ h2) (hst ▸ h3)
  · refine atEvent_serve_unaccepted (type := 0x08#8) (act := fun _ s => s.takeBye o) hr hf fun _ ha => ?_
    simp only [Bool.or_eq_false_iff, beq_eq_false_iff_ne] at ha
    obtain ⟨h1, h2⟩ := ha
    exact State.takeBye_refused (hst ▸ h1) (hst ▸ h2)

end

section
/-! Events that leave nothing to settle: what the owners' reports leave, and acts after which the part only reports. -/

namespace Sys2Proof.Machine

/-! ### Latches and counts (R193) -/

/-- The count of a name in a list of the counts that are not 0. -/
theorem count_filterMap (n : Item → Nat) (names : List Item) (y : Item) :
    (match (names.filterMap fun z => if n z = 0 then none else some (z, n z)).find? (·.1 == y) with
      | some p => p.2
      | none => 0) = if y ∈ names then n y else 0 := by
  induction names with
  | nil => rfl
  | cons z names ih =>
    by_cases hz : n z = 0
    · rw [List.filterMap_cons_none (by simp [hz]), ih]
      by_cases hy : y = z
      · subst hy; simp [hz]
      · simp [hy]
    · rw [List.filterMap_cons_some (b := (z, n z)) (by simp [hz])]
      by_cases hy : y = z
      · subst hy; simp
      · have : ¬z = y := fun e => hy e.symm
        rw [List.find?_cons_of_neg (by simpa using this), ih]
        simp [hy]

theorem GroupStatus.count_latch (g : GroupStatus) {names : List Item} {x y : Item} (hy : y ∈ names) :
    (g.latch names x).count y = if y = x then addHolding 255 (g.count y) 1 else g.count y := by
  have h := count_filterMap (fun y => if y = x then addHolding 255 (g.count y) 1 else g.count y) names y
  rw [if_pos hy] at h
  exact h

theorem StatusUnit.count_report (u : StatusUnit) {g k : Group} {x y : Item} (level : Bool) (hy : y ∈ k.items)
    (hne : y ≠ x) : ((u.report g x level).get k).count y = (u.get k).count y := by
  by_cases hk : k = g
  · subst hk
    simp only [StatusUnit.report]
    split
    · rfl
    · rw [StatusUnit.get_set_self]
      split
      · rw [GroupStatus.count_latch _ hy, if_neg hne]
        rfl
      · rfl
  · rw [StatusUnit.report_get_ne _ _ _ hk]

theorem StatusUnit.lastState_report (u : StatusUnit) (g k : Group) (x : Item) (level : Bool) :
    ((u.report g x level).get k).lastState = (u.get k).lastState := by
  by_cases hk : k = g
  · subst hk
    simp only [StatusUnit.report]
    split
    · rfl
    · rw [StatusUnit.get_set_self]
      split <;> rfl
  · rw [StatusUnit.report_get_ne _ _ _ hk]

/-- Reports of conditions raise no other name, and move no last state code. -/
theorem State.reports_count (g : Group) (xs : List Item) (s : State) {k : Group} {y : Item} (hy : y ∈ k.items)
    (hne : y ∉ xs) : ((s.reports g xs).status.get k).count y = (s.status.get k).count y ∧
      ((s.reports g xs).status.get k).lastState = (s.status.get k).lastState := by
  induction xs generalizing s with
  | nil => exact ⟨rfl, rfl⟩
  | cons x xs ih =>
    rw [List.mem_cons, not_or] at hne
    obtain ⟨h1, h2⟩ := ih (s.report g x (s.level g x)) hne.2
    exact ⟨h1.trans (StatusUnit.count_report _ _ hy hne.1), h2.trans (StatusUnit.lastState_report _ _ _ _ _)⟩

theorem State.foldl_reportGroup_count (gs : List Group) (s : State) {k : Group} {y : Item} (hy : y ∈ k.items)
    (hne : ∀ g ∈ gs, y ∉ g.conditions) :
    ((gs.foldl State.reportGroup s).status.get k).count y = (s.status.get k).count y ∧
      ((gs.foldl State.reportGroup s).status.get k).lastState = (s.status.get k).lastState := by
  induction gs generalizing s with
  | nil => exact ⟨rfl, rfl⟩
  | cons g gs ih =>
    obtain ⟨h1, h2⟩ := ih (s.reportGroup g) fun k hk => hne k (List.mem_cons_of_mem _ hk)
    obtain ⟨r1, r2⟩ := State.reports_count g g.conditions s hy (hne g List.mem_cons_self)
    exact ⟨h1.trans r1, h2.trans r2⟩

/-- The reports at the end of an event count no STATE_CHANGED (R193). -/
theorem State.reportAll_stateChanged (s : State) (o : OutletId) :
    (s.reportAll.status.get (.outlet o)).count .stateChanged = (s.status.get (.outlet o)).count .stateChanged ∧
      (s.reportAll.status.get (.outlet o)).lastState = (s.status.get (.outlet o)).lastState :=
  State.foldl_reportGroup_count allGroups s (by cases o <;> decide) (by decide)

/-- The entry to another state raises STATE_CHANGED with the code of that state (R193). -/
theorem State.enter_stateChanged {s : State} {o : OutletId} {st : OutletState} (h : (s.outlet o).state ≠ st) :
    (s.enter o st).hasRaised s o .stateChanged = true ∧
      ((s.enter o st).status.get (.outlet o)).lastState = some st.code := by
  have raised (u : State) (hu : u.status = s.status) : (u.raiseState o st.code).hasRaised s o .stateChanged = true ∧
      ((u.raiseState o st.code).status.get (.outlet o)).lastState = some st.code := by
    have e : (u.raiseState o st.code).status.get (.outlet o) =
        { (s.status.get (.outlet o)).latch (Group.outlet o).items .stateChanged with lastState := some st.code } := by
      rw [← hu]
      simp [State.raiseState, State.raiseAt]
    rw [State.hasRaised, e, beq_iff_eq]
    exact ⟨GroupStatus.count_latch _ (by cases o <;> decide), rfl⟩
  unfold State.enter
  rw [if_neg h]
  refine raised _ ?_
  split
  · rw [(State.computeShares_frame _ o).1]
    rfl
  · rfl

/-! ### Acts after which nothing settles -/

/-- A part in which nothing waits to be settled but the levels of the conditions. -/
structure State.Standing (s : State) : Prop where
  outlets : ∀ o, s.endsNow o = false ∧ (s.outlet o).limit = s.newLimit o ∧ s.closesNow o = false
  queue : s.queueWaits = true
  budget : s.budgetOver = decide (s.gridLimit < s.claims)

theorem State.Standing.of_ready {s : State} (h : s.ready = true) : s.Standing := by
  obtain ⟨ho, hq, hb, _⟩ := s.settled_iff.1 (s.ready_iff.1 h).2
  exact ⟨ho, hq, hb⟩

theorem State.Standing.finish {s : State} (h : s.Standing) (hp : s.phase = .running) : s.finish = s.reportAll := by
  obtain ⟨ho, hq, hb⟩ := h
  have r : s.reallocate = s := by
    rw [State.reallocate, State.recomputeLimits, State.recomputeLimit_of_same (ho .a).2.1,
      State.recomputeLimit_of_same (ho .b).2.1, State.recomputeLimit_of_same (ho .c).2.1,
      State.examine_of_waits hq, State.settleBudget_of_same hb]
  rw [State.finish, whenRunning_of_running hp, State.settle, State.completeEnd_of_not (ho .a).1,
    State.completeEnd_of_not (ho .b).1, State.completeEnd_of_not (ho .c).1, r, State.endPrepare_of_not (ho .a).2.2,
    State.endPrepare_of_not (ho .b).2.2, State.endPrepare_of_not (ho .c).2.2]

/-- The members a PREPARE waits for are those of the outlet's group. -/
theorem State.prepared_congr {s t : State} {o : OutletId} (hg : ∀ m, (t.module m).group = (s.module m).group)
    (hm : ∀ m, (s.module m).group = some o → t.module m = s.module m) : t.prepared o = s.prepared o := by
  have hmem (sts : List ModuleState) : t.members o sts = s.members o sts := State.members_congr fun m => by
    rw [hg]
    constructor <;> rintro ⟨h1, h2⟩ <;> refine ⟨h1, ?_⟩
    · rwa [hm m h1] at h2
    · rwa [hm m h1]
  have hall : (s.members o [.precharging, .selfTest]).all (fun m => !(t.module m).initial) =
      (s.members o [.precharging, .selfTest]).all fun m => !(s.module m).initial := by
    rw [Bool.eq_iff_iff, List.all_eq_true, List.all_eq_true]
    refine forall₂_congr fun m hmm => ?_
    rw [hm m ((s.mem_members o _ m).1 hmm).1]
  simp only [State.prepared, hmem, hall]

theorem State.closesNow_of_state {s : State} {o : OutletId} (h : (s.outlet o).state ≠ .energising) :
    s.closesNow o = false := by
  simp [State.closesNow, h]

theorem State.closesNow_of_phase {s : State} {o : OutletId} (h : (s.outlet o).phase ≠ some .prepare) :
    s.closesNow o = false := by
  simp [State.closesNow, h]

/-- An act at one outlet of a ready part that moves neither the pool nor the outlet's limit leaves the part standing,
where no end falls due at that outlet. -/
theorem ActsAt.standing {o : OutletId} {s u : State} (hs : s.ready = true) (h : ActsAt o s u) (hp : SamePool s u)
    (hl : (u.outlet o).limit = (s.outlet o).limit) (he : u.endsNow o = false) (hc : u.closesNow o = false) :
    u.Standing := by
  obtain ⟨ho, hq, hb⟩ := State.Standing.of_ready hs
  refine ⟨fun q => ?_, by rw [hp.queueWaits_eq, hq], by rw [h.budget, hp.claims_eq, hp.gridLimit, hb]⟩
  by_cases hqo : q = o
  · subst hqo
    exact ⟨he, by rw [hp.newLimit_eq h.budget hl, hl, (ho q).2.1], hc⟩
  · have e := h.outlets q hqo
    refine ⟨?_, ?_, ?_⟩
    · exact (State.endsNow_congr (s := s) (by rw [e]) (by rw [e])).trans (ho q).1
    · rw [hp.newLimit_eq h.budget (by rw [e]), e]
      exact (ho q).2.1
    · have hprep : u.prepared q = s.prepared q := State.prepared_congr hp.group_eq fun m hm =>
        h.modules m (by rw [hm]; simpa using hqo)
      have hcq := (ho q).2.2
      simp only [State.closesNow, e, hprep] at hcq ⊢
      exact hcq

/-- The end of an event that leaves nothing to settle moves the status unit alone. -/
theorem State.Standing.event {s u : State} {act : State → State} (hr : s.phase = .running) (hact : act s = u)
    (h : u.Standing) (hp : u.phase = .running) (hset : u.status.settings = s.status.settings) :
    ∃ t, atEvent act s = .next t ∧ t = { u with status := t.status } ∧ t.follows s = true ∧
      ∀ o, (t.status.get (.outlet o)).count .stateChanged = (u.status.get (.outlet o)).count .stateChanged ∧
        (t.status.get (.outlet o)).lastState = (u.status.get (.outlet o)).lastState := by
  obtain ⟨r1, r2, _, r4, _⟩ := u.reportAll_spec
  refine ⟨u.reportAll, by rw [atEvent_of_running hr, hact, h.finish hp], r1, ?_, u.reportAll_stateChanged⟩
  rw [State.follows, r2, r4, hset]
  simp

/-- An act at one outlet leaves the others, when nothing but the status unit moves after it. -/
theorem ActsAt.leavesOthers_of_status {o : OutletId} {s u t : State} (h : ActsAt o s u)
    (ht : t = { u with status := t.status }) (hset : t.status.settings = s.status.settings) :
    t.leavesOthers s o = true := by
  have hout (q : OutletId) : t.outlet q = u.outlet q := by rw [ht]; rfl
  have hmod (m : Fin 8) : t.module m = u.module m := by rw [ht]; rfl
  have hcom : t.common = s.common := by
    rw [← h.common]
    have hs := (State.common_fields h.common).2.2.2.2.2.2.2.2.2.2.2.2.2.2.2.2
    generalize t.status = v at ht hset
    subst ht
    simp only [State.common, hs, hset]
  simp only [State.leavesOthers, Bool.and_eq_true, List.all_eq_true, Bool.or_eq_true, beq_iff_eq]
  refine ⟨⟨fun q _ => ?_, fun m _ => ?_⟩, hcom⟩
  · by_cases hq : q = o
    · exact .inl hq
    · exact .inr (by rw [hout, h.outlets q hq])
  · by_cases hm : (s.module m).group = some o
    · exact .inl hm
    · refine .inr ?_
      rw [hmod, h.modules m hm]
      exact Module.keptBy_refl _

theorem State.follows_iff {t s : State} :
    t.follows s = true ↔ t.stated = true ∧ t.status.settings = s.status.settings := by
  simp [State.follows]

/-- An event that acts at one outlet of a ready part, moves neither the pool nor the outlet's limit, and leaves no end
due at that outlet: it does its act, and the owners report. -/
theorem ActsAt.event {o : OutletId} {s u : State} {act : State → State} (hs : s.ready = true) (hact : act s = u)
    (h : ActsAt o s u) (hp : SamePool s u) (hl : (u.outlet o).limit = (s.outlet o).limit) (he : u.endsNow o = false)
    (hc : u.closesNow o = false) :
    ∃ t, atEvent act s = .next t ∧ t = { u with status := t.status } ∧ t.leavesOthers s o = true ∧
      t.follows s = true ∧
      (t.status.get (.outlet o)).count .stateChanged = (u.status.get (.outlet o)).count .stateChanged ∧
      (t.status.get (.outlet o)).lastState = (u.status.get (.outlet o)).lastState := by
  have hr := (s.ready_iff.1 hs).1
  obtain ⟨hphase, _, _, _, _, _, _, _, _, _, _, _, _, _, _, _, hset⟩ := State.common_fields h.common
  obtain ⟨t, e, ht, hf, hcount⟩ := (h.standing hs hp hl he hc).event hr hact (hphase.trans hr) hset
  have hts : t.status.settings = s.status.settings := by
    simp only [State.follows, Bool.and_eq_true, beq_iff_eq] at hf
    exact hf.2
  exact ⟨t, e, ht, h.leavesOthers_of_status ht hts, hf, hcount o⟩

/-- An update of one outlet alone has the pool that was, if it keeps the session. -/
theorem SamePool.of_modify {s : State} {o : OutletId} {f : Outlet → Outlet}
    (h : (f (s.outlet o)).session = (s.outlet o).session) : SamePool s (s.modify o f) :=
  .of_outlets rfl rfl rfl fun q => by
    by_cases hq : q = o
    · subst hq; rw [State.outlet_modify_self, h]
    · rw [State.outlet_modify_ne _ _ hq]

/-- The entry to a state moves nothing the allocator reads. -/
theorem SamePool.of_enter (s : State) (o : OutletId) (st : OutletState) : SamePool s (s.enter o st) := by
  obtain ⟨e, _, hne, ho, hm, _⟩ := s.enter_frame o st
  refine ⟨by rw [e], by rw [e], fun q => ?_, fun m => ?_⟩
  · by_cases hq : q = o
    · subst hq; simp only [State.admitted]; rw [ho]
    · simp only [State.admitted, hne q hq]
  · have h := congrArg Module.pooled (hm m)
    exact h

end Sys2Proof.Machine
end

section
/-! The safety interlocks as they become made (R1, R29, R31). -/

namespace Sys2Proof.Machine

variable {s : State} {o : OutletId}

theorem State.changeInput_same {i : Interlock} (h : (s.outlet o).interlocks.get i = true) :
    s.changeInput o i true = s :=
  if_pos h

/-- An interlock that becomes made is recorded; a PLUG in VACANT leads to CABLED (R1, R31). -/
theorem State.changeInput_made {i : Interlock} (h : (s.outlet o).interlocks.get i = false) :
    s.changeInput o i true =
      let u := s.modify o fun x => { x with interlocks := x.interlocks.set i true }
      if (s.outlet o).state = .vacant ∧ i = .plug then u.enter o .cabled else u := by
  have move (u : State) (hu : (u.outlet o).state = (s.outlet o).state) :
      u.movePlug o true = if (s.outlet o).state = .vacant then u.enter o .cabled else u := by
    unfold State.movePlug
    split
    · next hv _ => rw [if_pos (hu ▸ hv)]
    · next h => cases h
    · next h => cases h
    · next hv _ _ => rw [if_neg (fun e => hv (hu.trans e) rfl)]
  simp only [State.changeInput, h, Bool.false_eq_true, if_false, if_true, State.deliverInterlock]
  by_cases hi : i = .plug
  · simp only [hi, if_true, and_true]
    exact move _ (by rw [State.outlet_modify_self])
  · simp only [hi, if_false, and_false]

theorem State.changeEstopAll_made (h : s.estopAllMade = false) :
    s.changeEstopAll true = { s with estopAllMade := true } :=
  if_neg (by simp [h])

end Sys2Proof.Machine

open Sys2Proof.Machine in
/-- Settles O28: the act is the record of the input and, at a PLUG in VACANT, the entry to CABLED; neither leaves
anything to settle. -/
theorem interlockMadeClosesNothing : Obligations.InterlockMadeClosesNothing := by
  intro s hs hsound
  obtain ⟨hends, _, _⟩ := State.Standing.of_ready hs
  refine ⟨fun o i => ⟨fun hi => atEvent_of_idle hs (State.changeInput_same hi), fun hi => ?_⟩, fun he => ?_⟩
  · generalize hu : (s.modify o fun x => { x with interlocks := x.interlocks.set i true }) = u
    have huo : u.outlet o = { s.outlet o with interlocks := (s.outlet o).interlocks.set i true } := by
      rw [← hu, State.outlet_modify_self]
    have hacts : ActsAt o s u := hu ▸ s.actsAt_modify o _
    have hpool : SamePool s u := hu ▸ SamePool.of_modify rfl
    have hact := State.changeInput_made hi
    rw [hu] at hact
    by_cases hv : (s.outlet o).state = .vacant ∧ i = .plug
    · have hne : (u.outlet o).state ≠ .cabled := by rw [huo, hv.1]; decide
      obtain ⟨_, hst, _, ho, _⟩ := u.enter_frame o .cabled
      have hact : s.changeInput o i true = u.enter o .cabled := hact.trans (if_pos hv)
      obtain ⟨t, e, ht, hleaves, hfollows, hcount, hlast⟩ := ActsAt.event (act := fun s => s.changeInput o i true) hs
        hact (hacts.trans (u.actsAt_enter o .cabled)) (hpool.trans (.of_enter u o .cabled)) (by rw [ho, huo])
        (State.endsNow_of_state (by rw [hst]; decide)) (State.closesNow_of_state (by rw [hst]; decide))
      have hto : t.outlet o = (u.enter o .cabled).outlet o := by rw [ht]; rfl
      obtain ⟨hraised, hcode⟩ := State.enter_stateChanged hne
      rw [huo] at ho
      have hus : u.status = s.status := hu ▸ rfl
      rw [State.hasRaised, hus, ← hcount] at hraised
      exact ⟨t, e, by rw [hto, ho], by rw [hto, ho], by rw [hto, ho],
        fun _ _ => ⟨by rw [hto, hst], hraised, hlast.trans hcode⟩,
        fun hn => (hn.elim (· hv.1) (· hv.2)).elim, hleaves, hfollows⟩
    · have hact : s.changeInput o i true = u := hact.trans (if_neg hv)
      have hends' : u.endsNow o = false := (State.endsNow_congr (s := s) (by rw [huo]) (by rw [huo])).trans (hends o).1
      have hcloses : u.closesNow o = false :=
        (State.closesNow_congr (s := s) (by rw [← hu]; rfl) (by rw [huo]) (by rw [huo])).trans (hends o).2.2
      obtain ⟨t, e, ht, hleaves, hfollows, _⟩ := ActsAt.event (act := fun s => s.changeInput o i true) hs
        hact hacts hpool (by rw [huo]) hends' hcloses
      have hto : t.outlet o = u.outlet o := by rw [ht]; rfl
      exact ⟨t, e, by rw [hto, huo], by rw [hto, huo], by rw [hto, huo], fun h1 h2 => absurd ⟨h1, h2⟩ hv, fun _ => ht,
        hleaves, hfollows⟩
  · have hstand : ({ s with estopAllMade := true } : State).Standing := by
      obtain ⟨ho, hq, hb⟩ := State.Standing.of_ready hs
      exact ⟨ho, hq, hb⟩
    have hp := (s.ready_iff.1 hs).1
    obtain ⟨t, e, ht, hf, _⟩ := hstand.event (act := fun s => s.changeEstopAll true) hp
      (State.changeEstopAll_made he) hp rfl
    exact ⟨t, e, ht, hf⟩

end

section
/-! The shore breaker's feedback closing (R12, R34, R36). -/

namespace Sys2Proof.Machine

variable {s : State} {o : OutletId}

/-! ### What soundness says of a shore breaker -/

theorem State.breakers_of_sound (h : s.sound = true) (o : OutletId) :
    (s.outlet o).sb.wellFormed = true ∧ (s.outlet o).pb.wellFormed = true := by
  simp only [State.sound, State.breakersSound, Bool.and_eq_true, allOutlets_all] at h
  obtain ⟨⟨⟨_, ho⟩, _⟩, _⟩ := h
  obtain ⟨⟨⟨⟨⟨⟨hsb, hpb⟩, _⟩, _⟩, _⟩, _⟩, _⟩ := ho o
  exact ⟨hsb, hpb⟩

theorem ShoreBreaker.wellFormed_opened {b : ShoreBreaker} (h : b.wellFormed = true) (hc : b.channel = .opened) :
    b.feedback = false ∧ b.closeTimer = none ∧ b.openTimer = none ∧ b.stuckSet = false := by
  simpa [ShoreBreaker.wellFormed, hc, and_assoc] using h

theorem ShoreBreaker.wellFormed_closing {b : ShoreBreaker} (h : b.wellFormed = true) (hc : b.channel = .closing) :
    b.feedback = false ∧ b.closeTimer.isSome = true ∧ b.openTimer = none ∧ b.stuckSet = false := by
  simpa [ShoreBreaker.wellFormed, hc, and_assoc] using h

theorem ShoreBreaker.wellFormed_closed {b : ShoreBreaker} (h : b.wellFormed = true) (hc : b.channel = .closed) :
    b.feedback = true ∧ b.closeTimer = none ∧ b.openTimer = none ∧ b.stuckSet = false := by
  simpa [ShoreBreaker.wellFormed, hc, and_assoc] using h

theorem ShoreBreaker.wellFormed_opening {b : ShoreBreaker} (h : b.wellFormed = true) (hc : b.channel = .opening) :
    b.feedback = true ∧ b.closeTimer = none ∧ b.openTimer.isSome = true ∧ b.stuckSet = false := by
  simpa [ShoreBreaker.wellFormed, hc, and_assoc] using h

theorem ShoreBreaker.wellFormed_stuck {b : ShoreBreaker} (h : b.wellFormed = true) (hc : b.channel = .stuck) :
    b.feedback = true ∧ b.closeTimer = none ∧ b.openTimer = none ∧ b.stuckSet = true := by
  simpa [ShoreBreaker.wellFormed, hc, and_assoc] using h

/-! ### An update of one outlet as an event -/

/-- An event that updates one outlet of a ready part, moving neither its session nor its limit, nor making an end due
there: it does its update, and the owners report. -/
theorem State.event_modify {f : Outlet → Outlet} {act : State → State} (hs : s.ready = true)
    (hact : act s = s.modify o f) (hsession : (f (s.outlet o)).session = (s.outlet o).session)
    (hl : (f (s.outlet o)).limit = (s.outlet o).limit) (he : (s.modify o f).endsNow o = false)
    (hc : (s.modify o f).closesNow o = false) :
    ∃ t, atEvent act s = .next t ∧ t = { s.modify o f with status := t.status } ∧ t.follows s = true := by
  obtain ⟨t, e, ht, _, hf, _⟩ := ActsAt.event hs hact (s.actsAt_modify o f) (.of_modify hsession)
    (by rw [State.outlet_modify_self, hl]) he hc
  exact ⟨t, e, ht, hf⟩

/-- An update that keeps state and phase ends no PREPARE in a ready part. -/
theorem State.closesNow_modify {f : Outlet → Outlet} (hs : s.ready = true)
    (hst : (f (s.outlet o)).state = (s.outlet o).state) (hph : (f (s.outlet o)).phase = (s.outlet o).phase) :
    (s.modify o f).closesNow o = false :=
  (State.closesNow_congr (s := s) (t := s.modify o f) rfl (by rw [State.outlet_modify_self, hst])
    (by rw [State.outlet_modify_self, hph])).trans ((State.Standing.of_ready hs).outlets o).2.2

/-- A breaker with its feedback closed and its channel not stuck ends nothing. -/
theorem State.endsNow_of_closed (h1 : (s.outlet o).sb.feedback = true) (h2 : (s.outlet o).sb.channel ≠ .stuck) :
    s.endsNow o = false := by
  simp [State.endsNow, h1, h2]

/-! ### The closing of the feedback -/

/-- What an event does reads its act at the state it finds. -/
theorem atEvent_congr {act act' : State → State} {s : State} (h : act s = act' s) : atEvent act s = atEvent act' s := by
  simp only [atEvent, whenRunning, h]

/-- A row of the level already held changes nothing (log entry 11). -/
theorem exec_sbFeedbackCloses_same (hs : s.ready = true) (h : (s.outlet o).sb.feedback = true) :
    exec (.sbFeedbackCloses o) s = .next s := atEvent_of_idle hs (if_pos h)

theorem exec_sbFeedbackCloses (h : (s.outlet o).sb.feedback = false) :
    exec (.sbFeedbackCloses o) s = atEvent (fun s => s.sbCloses o) s := atEvent_congr (if_neg (by simp [h]))

theorem State.sbCloses_opened (hc : (s.outlet o).sb.channel = .opened) :
    s.sbCloses o = s.modify o fun x => { x with sb := { x.sb with
      feedback := true, channel := .opening, openTimer := some sbOpenTime } } := by
  simp only [State.sbCloses, hc, State.modifySb, State.modify_modify]
  rfl

/-- The SB of an outlet closes by command (R34): what is left to do is the report of it. -/
theorem State.sbCloses_closing (hc : (s.outlet o).sb.channel = .closing) :
    s.sbCloses o = (s.modify o fun x => { x with sb := { x.sb with
      feedback := true, channel := .closed, closeTimer := none } }).sbClosedReport o := by
  simp only [State.sbCloses, hc, State.modifySb, State.modify_modify]

theorem State.sbClosedReport_of_not (h : ¬((s.outlet o).state = .energising ∧ (s.outlet o).phase = some .closing)) :
    s.sbClosedReport o = s := if_neg h

/-! ### The entry to RAMP (R12) -/

theorem Module.pooled_run {m : Module} (h : m.state = .standby) : m.run.pooled = m.pooled := by
  simp only [Module.pooled, Module.run, Module.isFree, h]
  rfl

/-- The modules at the run of a group: those in STANDBY run, and the shares follow (R12). -/
theorem State.module_runGroup (s : State) (o : OutletId) (m : Fin 8) :
    { (s.runGroup o).module m with share := 0 } =
      { if (s.module m).group = some o ∧ (s.module m).state = .standby then (s.module m).run else s.module m with
        share := 0 } := by
  generalize hu : s.modifyModules (s.members o [.standby]) Module.run = u
  have e : s.runGroup o = u.computeShares o := by rw [← hu]; rfl
  rw [e, (u.computeShares_frame o).2.2 m, ← hu, State.module_modifyModules _ _ _ _ (s.members_nodup o _)]
  simp only [State.mem_members, List.mem_singleton]

theorem State.samePool_runGroup (s : State) (o : OutletId) : SamePool s (s.runGroup o) := by
  have hf : s.runGroup o = { s with modules := (s.runGroup o).modules } := by
    generalize hu : s.modifyModules (s.members o [.standby]) Module.run = u
    have e : s.runGroup o = u.computeShares o := by rw [← hu]; rfl
    rw [e, (u.computeShares_frame o).1, ← hu, State.modifyModules_eq]
  refine ⟨by rw [hf], by rw [hf], fun q => by rw [hf]; rfl, fun m => ?_⟩
  have h := congrArg Module.pooled (s.module_runGroup o m)
  refine Eq.trans h ?_
  split
  · next hm => exact Module.pooled_run hm.2
  · rfl

theorem State.outlet_runGroup (s : State) (o q : OutletId) : (s.runGroup o).outlet q = s.outlet q := by
  unfold State.runGroup
  rw [State.outlet_computeShares, State.outlet_modifyModules]

theorem State.outlet_enterRamp (s : State) (o : OutletId) :
    (s.enterRamp o).outlet o = { s.outlet o with
      phase := some .ramp, rampComplete := false, reference := (s.outlet o).reference.select .softStart
      energiseTimer := (s.outlet o).session.map fun r => seconds (r.snapshot.softStart + 5) } := by
  rw [State.enterRamp, State.outlet_modify_self, State.outlet_runGroup]

theorem State.samePool_enterRamp (s : State) (o : OutletId) : SamePool s (s.enterRamp o) :=
  (s.samePool_runGroup o).trans (.of_modify rfl)

theorem State.module_enterRamp {m : Fin 8} (hg : (s.module m).group = some o) (hst : (s.module m).state = .standby) :
    ((s.enterRamp o).module m).state = .running ∧ ((s.enterRamp o).module m).command = some .run := by
  have h := s.module_runGroup o m
  rw [if_pos ⟨hg, hst⟩] at h
  exact ⟨congrArg Module.state h, congrArg Module.command h⟩

end Sys2Proof.Machine

open Sys2Proof.Machine in
/-- Settles O30: what the channel answers to its feedback closing, and the entry to RAMP where a close was due. -/
theorem shoreBreakerCloses : Obligations.ShoreBreakerCloses := by
  intro s hs hsound o x
  obtain ⟨hwf, _⟩ := State.breakers_of_sound hsound o
  refine ⟨fun hfb => exec_sbFeedbackCloses_same hs hfb, fun hc hfb => ?opened, fun hc hn => ?closed,
    fun hc hst hph => ?ramp⟩
  case opened =>
    rw [exec_sbFeedbackCloses hfb]
    refine State.event_modify hs (State.sbCloses_opened hc) rfl rfl (State.endsNow_of_closed ?_ ?_)
      (State.closesNow_modify hs rfl rfl) <;> rw [State.outlet_modify_self]
    exact nofun
  all_goals
    have hfb := (ShoreBreaker.wellFormed_closing hwf hc).1
    rw [exec_sbFeedbackCloses hfb]
    have hact := State.sbCloses_closing hc
    generalize hu : (s.modify o fun x => { x with sb := { x.sb with
      feedback := true, channel := .closed, closeTimer := none } }) = u at hact
    have huo : u.outlet o = { s.outlet o with sb := { (s.outlet o).sb with
        feedback := true, channel := .closed, closeTimer := none } } := by
      rw [← hu, State.outlet_modify_self]
    have hends : u.endsNow o = false := State.endsNow_of_closed (by rw [huo]) (by rw [huo]; exact nofun)
  case closed =>
    rw [State.sbClosedReport_of_not (by rw [huo]; exact hn)] at hact
    rw [← hu] at hact hends ⊢
    exact State.event_modify (act := fun s => s.sbCloses o) hs hact rfl rfl hends (State.closesNow_modify hs rfl rfl)
  case ramp =>
    have hramp : s.sbCloses o = u.enterRamp o := hact.trans (if_pos (by rw [huo]; exact ⟨hst, hph⟩))
    have ho := u.outlet_enterRamp o
    rw [huo] at ho
    have hpool : SamePool s u := hu ▸ SamePool.of_modify rfl
    have hacts : ActsAt o s u := hu ▸ s.actsAt_modify o _
    obtain ⟨t, e, ht, hleaves, hfollows, _⟩ := ActsAt.event (act := fun s => s.sbCloses o) hs hramp
      (hacts.trans (u.actsAt_enterRamp o)) (hpool.trans (u.samePool_enterRamp o)) (by rw [ho])
      (State.endsNow_of_state (by rw [ho]; exact hst ▸ nofun)) (State.closesNow_of_phase (by rw [ho]; exact nofun))
    have hto : t.outlet o = (u.enterRamp o).outlet o := by rw [ht]; rfl
    have htm (m : Fin 8) : t.module m = (u.enterRamp o).module m := by rw [ht]; rfl
    have hum (m : Fin 8) : u.module m = s.module m := by rw [← hu]; rfl
    rw [ho] at hto
    refine ⟨t, e, by rw [hto], by rw [hto]; exact hst, by rw [hto], by rw [hto], by rw [hto]; rfl, by rw [hto]; rfl,
      fun m hg hm => ?_, by rw [hto], by rw [hto], by rw [hto]; rfl, hleaves, hfollows⟩
    rw [htm]
    exact State.module_enterRamp (by rw [hum, hg]) (by rw [hum, hm])

end

section
/-! HELLO and STATUS (R2, R9, R26, R131). -/

namespace Sys2Proof.Machine

variable {s : State} {o : OutletId} {f : ShipFrame} {rest : List ShipFrame}

/-- A service whose frame leaves the part ready does what the frame says, and nothing else. -/
theorem atEvent_serve_ready (hr : s.ready = true) (hf : (s.outlet o).link.fifo = f :: rest) {type : Byte}
    {act : List Byte → State → State} {u : State} (ht : f.type = type) (hv : (s.outlet o).state ≠ .vacant)
    (hact : act f.payload (s.served o) = u) (hu : u.ready = true) :
    atEvent (fun s => s.serve o type act) s = .next u := by
  have e := (State.serve_of_type hf ht hv act).trans hact
  rw [← e]
  exact atEvent_of_ready (s.ready_iff.1 hr).1 (by rw [e, hu])

/-! ### Announcements -/

theorem State.takeHello_unannounced (h : (s.outlet o).state = .cabled ∨ (s.outlet o).state = .announced)
    (p : List Byte) :
    s.takeHello o p = s.takeAnnouncement o p := by
  unfold State.takeHello
  rcases h with h | h <;> rw [h]

/-- HELLO in a session state is answered with WELCOME (R26). -/
theorem State.takeHello_session (h : (s.outlet o).state.inSession = true) (p : List Byte) :
    s.takeHello o p = s.welcome o := by
  unfold State.takeHello
  split
  · next e => rw [e] at h; exact absurd h (by decide)
  · next e => rw [e] at h; exact absurd h (by decide)
  · next e => rw [e] at h; exact absurd h (by decide)
  · rfl

theorem State.takeAnnouncement_valid {p : List Byte} {h : Announcement} (hd : decodeHello p = some h)
    (hv : h.isValid = true) :
    s.takeAnnouncement o p = (s.modify o fun x => { x with announcement := some h }).enter o .announced := by
  simp only [State.takeAnnouncement, hd, hv, if_true]

theorem State.takeAnnouncement_broken {p : List Byte}
    (hd : decodeHello p = none ∨ ∃ h, decodeHello p = some h ∧ h.isValid = false) :
    s.takeAnnouncement o p = s.sendRefuse o 0x01#8 .notReady := by
  rcases hd with hd | ⟨h, hd, hv⟩
  · simp only [State.takeAnnouncement, hd]
  · simp only [State.takeAnnouncement, hd, hv, Bool.false_eq_true, if_false]

theorem State.enter_same {st : OutletState} (h : (s.outlet o).state = st) : s.enter o st = s := if_pos h

/-- A valid announcement held in ANNOUNCED replaces the one before it (R2). -/
theorem State.ready_announcement (a : Option Announcement) :
    (s.modify o fun x => { x with announcement := a }).ready = s.ready :=
  s.ready_modify o _ rfl rfl rfl rfl rfl rfl rfl rfl rfl rfl rfl

/-- A broken announcement is refused with NOT_READY (R2). -/
theorem exec_hello_broken (hr : s.ready = true) (hf : (s.outlet o).link.fifo = f :: rest) (ht : f.type = 1#8)
    (hst : (s.outlet o).state = .cabled ∨ (s.outlet o).state = .announced)
    (hd : decodeHello f.payload = none ∨ ∃ h, decodeHello f.payload = some h ∧ h.isValid = false) :
    exec (.hello o) s = .next ((s.served o).sendRefuse o 1#8 .notReady) := by
  have hst' : ((s.served o).outlet o).state = .cabled ∨ ((s.served o).outlet o).state = .announced := by
    rw [State.served_outlet]; exact hst
  refine atEvent_serve_ready hr hf ht (by rcases hst with h | h <;> rw [h] <;> decide)
    ((State.takeHello_unannounced hst' _).trans (State.takeAnnouncement_broken hd)) ?_
  rw [State.ready_sendRefuse, State.ready_served, hr]

/-- A valid announcement is held, and leads from CABLED to ANNOUNCED (R2). -/
theorem exec_hello_valid (hr : s.ready = true) (hf : (s.outlet o).link.fifo = f :: rest) (ht : f.type = 1#8)
    (hst : (s.outlet o).state = .cabled ∨ (s.outlet o).state = .announced) {h : Announcement}
    (hd : decodeHello f.payload = some h) (hv : h.isValid = true) :
    ∃ t, exec (.hello o) s = .next t ∧ (t.outlet o).state = .announced ∧ (t.outlet o).announcement = some h ∧
      (t.outlet o).link = ((s.served o).outlet o).link ∧
      ((s.outlet o).state = .announced → t = (s.served o).modify o fun x => { x with announcement := some h }) ∧
      ((s.outlet o).state = .cabled → t.hasRaised s o .stateChanged = true) ∧ t.leavesOthers s o = true ∧
      t.follows s = true := by
  generalize hu : s.served o = u
  generalize hw : (u.modify o fun x => { x with announcement := some h }) = w
  have huo := s.served_outlet o
  rw [hu] at huo
  have hwo : w.outlet o = { u.outlet o with announcement := some h } := by rw [← hw, State.outlet_modify_self]
  have hstu : (u.outlet o).state = (s.outlet o).state := by rw [huo]
  have hstw : (w.outlet o).state = (s.outlet o).state := by rw [hwo, ← hstu]
  have hwready : w.ready = true := by rw [← hw, State.ready_announcement, ← hu, State.ready_served, hr]
  have hacts : ActsAt o s w := hw ▸ hu ▸ (s.actsAt_modifyLink o _).trans (State.actsAt_modify _ o _)
  have hwstatus : w.status = s.status := by rw [← hw, ← hu]; rfl
  have hplugged : (s.outlet o).state ≠ .vacant := by rcases hst with h | h <;> rw [h] <;> decide
  have htake : (s.served o).takeHello o f.payload = w.enter o .announced := by
    rw [hu, State.takeHello_unannounced (by rwa [hstu]), State.takeAnnouncement_valid hd hv, hw]
  rcases hst with hst | hst
  · have hne : (w.outlet o).state ≠ .announced := by rw [hstw, hst]; decide
    obtain ⟨_, hent, _, ho, _⟩ := w.enter_frame o .announced
    have hpool : SamePool s w := hw ▸ hu ▸ (SamePool.of_served s o).trans (.of_modify rfl)
    obtain ⟨t, e, ht, hleaves, hfollows, hcount, _⟩ := ActsAt.event
      (act := fun s : State => s.serve o 1#8 fun p s => s.takeHello o p) hr
      ((State.serve_of_type hf ht hplugged _).trans htake) (hacts.trans (w.actsAt_enter o _))
      (hpool.trans (.of_enter w o _)) (by rw [ho, hwo, huo]) (State.endsNow_of_state (by rw [hent]; decide))
      (State.closesNow_of_state (by rw [hent]; decide))
    have hto : t.outlet o = (w.enter o .announced).outlet o := by rw [ht]; rfl
    obtain ⟨hraised, _⟩ := State.enter_stateChanged hne
    rw [State.hasRaised, hwstatus, ← hcount] at hraised
    rw [hwo] at ho
    exact ⟨t, e, by rw [hto, hent], by rw [hto, ho], by rw [hto, ho], fun k => absurd (hst.symm.trans k) (by decide),
      fun _ => hraised, hleaves, hfollows⟩
  · rw [State.enter_same (by rw [hstw, hst])] at htake
    refine ⟨w, ?_, by rw [hstw, hst], by rw [hwo], by rw [hwo], fun _ => rfl,
      fun k => absurd (hst.symm.trans k) (by decide), ?_, ?_⟩
    · exact atEvent_serve_ready (act := fun p s => s.takeHello o p) hr hf ht hplugged htake hwready
    · exact hacts.leavesOthers_of_status rfl (by rw [hwstatus])
    · rw [State.follows_iff, hwstatus]
      exact ⟨(w.settled_iff.1 (w.ready_iff.1 hwready).2).2.2.2, rfl⟩

theorem exec_hello_session (hr : s.ready = true) (hf : (s.outlet o).link.fifo = f :: rest) (ht : f.type = 1#8)
    (hst : (s.outlet o).state.inSession = true) {r : Session} (hs : (s.outlet o).session = some r) :
    exec (.hello o) s =
      .next ((s.served o).send o (.welcome r.number r.profileNumber (s.outlet o).limit)) := by
  have hso := s.served_outlet o
  have hw : (s.served o).welcome o = (s.served o).send o (.welcome r.number r.profileNumber (s.outlet o).limit) := by
    simp only [State.welcome, hso, hs]
  refine atEvent_serve_ready hr hf ht (fun e => by rw [e] at hst; exact absurd hst (by decide))
    ((State.takeHello_session (by rw [hso]; exact hst) _).trans hw) ?_
  rw [State.ready_send, State.ready_served, hr]

/-! ### The ship's status (R131) -/

theorem State.ready_shipStatus (h : Option ShipStatus) :
    (s.modifyHandover o fun r => { r with shipStatus := h }).ready = s.ready :=
  s.ready_modify o _ rfl rfl rfl rfl rfl rfl rfl rfl rfl rfl rfl

end Sys2Proof.Machine

open Sys2Proof.Machine in
/-- Settles O46: HELLO by the state of its outlet, and STATUS by its six bytes. -/
theorem announcementAndStatusTaken : Obligations.AnnouncementAndStatusTaken := by
  refine ⟨fun s hr _ o f rest hf ht => ?hello, fun s hr o rest g l1 l0 n1 n0 flags hf hv => ?status⟩
  case hello =>
    exact ⟨fun h hd hst => ⟨fun hv => exec_hello_valid hr hf ht hst hd hv,
        fun hv => exec_hello_broken hr hf ht hst (.inr ⟨h, hd, hv⟩)⟩,
      fun hd hst => exec_hello_broken hr hf ht hst (.inl hd),
      fun hst r hs => exec_hello_session hr hf ht hst hs⟩
  case status =>
    refine atEvent_serve_ready (act := fun p s => s.takeStatus o p) hr hf rfl hv rfl ?_
    show (State.modifyHandover _ o _).ready = true
    rw [State.ready_shipStatus, State.ready_served, hr]

end

section
/-! An outlet at rest: what the end of an event does to an outlet that draws nothing and asks for nothing, and what the
close of its session leaves. -/

namespace Sys2Proof.Machine

variable {s t u : State} {o : OutletId}

/-! ### Outlets that the allocator passes over -/

/-- The outlet supplies nothing and no request of its waits. -/
structure State.Resting (s : State) (o : OutletId) : Prop where
  state : (s.outlet o).state.supplied = false
  requests : ∀ r ∈ s.grants, r.outlet ≠ o

/-- Between `s` and `t` an outlet has had its limit recomputed, and no more; without a group and a limit it stands. -/
structure Rests (o : OutletId) (s t : State) : Prop where
  outlet : t.outlet o = { s.outlet o with limit := (t.outlet o).limit, reference := (t.outlet o).reference }
  idle : s.group o = [] → (s.outlet o).limit = 0 → t.outlet o = s.outlet o
  group : t.group o = s.group o
  grants : ∀ r ∈ t.grants, r ∈ s.grants

theorem Rests.refl (o : OutletId) (s : State) : Rests o s s := ⟨rfl, fun _ _ => rfl, rfl, fun _ h => h⟩

theorem Rests.trans (h : Rests o s t) (k : Rests o t u) : Rests o s u where
  outlet := by rw [k.outlet, h.outlet]
  idle hg hl := by
    have e := h.idle hg hl
    rw [k.idle (h.group.trans hg) (by rw [e, hl]), e]
  group := k.group.trans h.group
  grants r hr := h.grants r (k.grants r hr)

theorem Rests.resting (h : Rests o s t) (hs : s.Resting o) : t.Resting o :=
  ⟨by rw [h.outlet]; exact hs.state, fun r hr => hs.requests r (h.grants r hr)⟩

/-- What moves neither the outlet nor a module's group nor the queue. -/
theorem Rests.of_same (ho : t.outlet o = s.outlet o) (hm : ∀ m, (t.module m).group = (s.module m).group)
    (hg : t.grants = s.grants) : Rests o s t :=
  ⟨by rw [ho], fun _ _ => ho, by simp only [State.group, hm], fun r hr => hg ▸ hr⟩

theorem State.groupCapacity_of_no_group (h : s.group o = []) : s.groupCapacity o = 0 := by
  simp [State.groupCapacity, State.members, h, State.ratings]

theorem State.newLimit_of_no_group (h : s.group o = []) : s.newLimit o = 0 := by
  simp [State.newLimit, State.groupCapacity_of_no_group h]

theorem State.rests_recomputeLimit (hs : s.Resting o) (q : OutletId) : Rests o s (s.recomputeLimit q) := by
  have hf := (s.recomputeLimit_frame q).1
  have hm (m : Fin 8) : ((s.recomputeLimit q).module m).group = (s.module m).group := by
    rw [State.group_recomputeLimit]
  by_cases hq : o = q
  · subst hq
    have hg : (s.recomputeLimit o).group o = s.group o := by simp only [State.group, hm]
    refine ⟨?_, fun hgr hl => ?_, hg, by rw [hf]; exact fun _ h => h⟩
    · simp only [State.recomputeLimit]
      split
      · rfl
      · simp [hs.state]
    · rw [State.recomputeLimit_of_same (by rw [hl, State.newLimit_of_no_group hgr])]
  · exact .of_same ((s.recomputeLimit_frame q).2.1 o hq) hm (by rw [hf])

theorem State.rests_recomputeLimits (hs : s.Resting o) : Rests o s s.recomputeLimits := by
  have h1 := State.rests_recomputeLimit hs .a
  have h2 := State.rests_recomputeLimit (h1.resting hs) .b
  exact (h1.trans h2).trans (State.rests_recomputeLimit ((h1.trans h2).resting hs) .c)

/-- A grant to another outlet. -/
theorem State.rests_grant {r : Request} {rest : List Request} {ms : List (Fin 8)} (hr : o ≠ r.outlet)
    (hg : s.grants = r :: rest) (h : s.grantable r = some ms) (hfree : ∀ m ∈ ms, (s.module m).group ≠ some o) :
    Rests o s (s.grant r rest ms) := by
  obtain ⟨hnd, _, _⟩ := State.grantable_spec h
  have hout : (s.grant r rest ms).outlet o = s.outlet o := by
    unfold State.grant
    dsimp only
    split
    · rw [State.startEnergising, State.outlet_modify_ne _ _ hr, (State.enter_frame _ _ _).2.2.1 o hr,
        State.outlet_modifyModules]
      rfl
    · rw [State.outlet_modifyModules]
      rfl
  have hgroup : (s.grant r rest ms).group o = s.group o := by
    refine List.filter_congr fun m _ => ?_
    have e := congrArg Module.group (State.grant_module rest hnd m (s := s) (r := r))
    dsimp only at e
    by_cases hm : m ∈ ms
    · rw [e, if_pos hm]
      have h1 : ((s.module m).grantTo r.outlet r.kind).group = some r.outlet := rfl
      rw [h1, Bool.eq_iff_iff]
      simp [hfree m hm, Ne.symm hr]
    · rw [e, if_neg hm]
  refine ⟨by rw [hout], fun _ _ => hout, hgroup, fun r' hr' => ?_⟩
  rw [State.grant_frame] at hr'
  rw [hg]
  exact List.mem_cons_of_mem _ hr'

/-- A free module is of no group (R44). -/
def State.freeApart (s : State) : Prop := ∀ m, (s.module m).isFree = true → (s.module m).group = none

theorem State.freeApart_grant {r : Request} {rest : List Request} {ms : List (Fin 8)} (h : s.grantable r = some ms)
    (hs : s.freeApart) : (s.grant r rest ms).freeApart := fun m hm => by
  obtain ⟨hnd, _, _⟩ := State.grantable_spec h
  have e := State.grant_module rest hnd m (s := s) (r := r)
  have hfree := congrArg Module.isFree e
  have hgroup := congrArg Module.group e
  replace hfree : ((s.grant r rest ms).module m).isFree =
    (if m ∈ ms then (s.module m).grantTo r.outlet r.kind else s.module m).isFree := hfree
  replace hgroup : ((s.grant r rest ms).module m).group =
    (if m ∈ ms then (s.module m).grantTo r.outlet r.kind else s.module m).group := hgroup
  rw [hfree] at hm
  rw [hgroup]
  split at hm
  · cases hm
  · next hn => rw [if_neg hn]; exact hs m hm

theorem State.rests_examine (n : Nat) (hs : s.Resting o) (hf : s.freeApart) : Rests o s (s.examine n) := by
  induction n generalizing s with
  | zero => exact .refl o s
  | succ n ih =>
    simp only [State.examine]
    split
    · exact .refl o s
    · next r rest hg =>
      split
      · exact .refl o s
      · next ms hm =>
        have hr : o ≠ r.outlet := fun e => hs.requests r (by rw [hg]; exact List.mem_cons_self) e.symm
        have h := State.rests_grant hr hg hm fun m hmm => by
          rw [hf m ((State.grantable_spec hm).2.1 m hmm)]
          exact nofun
        exact h.trans (ih (h.resting hs) (State.freeApart_grant hm hf))

theorem State.rests_settleBudget (hs : s.Resting o) : Rests o s s.settleBudget := by
  simp only [State.settleBudget]
  have h (b : Bool) : Rests o s { s with budgetOver := b } := .of_same rfl (fun _ => rfl) rfl
  split
  · exact (h false).trans (State.rests_recomputeLimits ((h false).resting hs))
  · exact h _

theorem State.rests_endPrepare (hs : s.Resting o) (q : OutletId) : Rests o s (s.endPrepare q) := by
  obtain ⟨hf, hne, _⟩ := s.endPrepare_spec q
  have hm (m : Fin 8) : ((s.endPrepare q).module m).group = (s.module m).group := by rw [hf]; rfl
  by_cases hq : o = q
  · subst hq
    have e : s.endPrepare o = s := State.endPrepare_of_not (State.closesNow_of_state fun e => by
      have := hs.state
      rw [e] at this
      exact absurd this (by decide))
    rw [e]
    exact .refl o s
  · exact .of_same (hne o hq) hm (by rw [hf])

theorem State.freeApart_of_module (hs : s.freeApart) (h : ∀ m, t.module m = s.module m) : t.freeApart := fun m hm => by
  rw [h] at hm ⊢
  exact hs m hm

theorem State.rests_reportAll (s : State) (o : OutletId) : Rests o s s.reportAll := by
  have e := s.reportAll_spec.1
  generalize s.reportAll.status = v at e
  rw [e]
  exact .of_same rfl (fun _ => rfl) rfl

/-- The end of an event at which no session closes passes over a resting outlet. -/
theorem State.rests_finish (hs : s.Resting o) (hf : s.freeApart) (he : s.noneEnds) : Rests o s s.finish := by
  unfold State.finish whenRunning
  split
  · have hset : s.settle = (((s.recomputeLimits.examine s.recomputeLimits.grants.length).settleBudget.endPrepare
        .a).endPrepare .b).endPrepare .c := by
      rw [State.settle, State.completeEnd_of_not (he .a), State.completeEnd_of_not (he .b),
        State.completeEnd_of_not (he .c), State.reallocate]
    have h1 := State.rests_recomputeLimits hs
    have hf1 : s.recomputeLimits.freeApart := State.freeApart_of_module hf fun m => by
      simp only [State.recomputeLimits, State.group_recomputeLimit]
    have h2 := h1.trans (State.rests_examine s.recomputeLimits.grants.length (h1.resting hs) hf1)
    have h3 := h2.trans (State.rests_settleBudget (h2.resting hs))
    have h4 := h3.trans (State.rests_endPrepare (h3.resting hs) .a)
    have h5 := h4.trans (State.rests_endPrepare (h4.resting hs) .b)
    have h6 := h5.trans (State.rests_endPrepare (h5.resting hs) .c)
    rw [← hset] at h6
    exact h6.trans (State.rests_reportAll _ o)
  · exact .refl o s

end Sys2Proof.Machine
end

section
/-! The end of an event at an outlet that sheds its modules: what soundness gives of the queue and the pool, and the
close of a session (R21, R22, R168, R174). -/

namespace Sys2Proof.Machine

variable {s u v : State} {o : OutletId}

/-! ### What soundness says of the queue and the pool -/

theorem State.member_of_sound (h : s.sound = true) (m : Fin 8) : s.memberSound m = true := by
  simp only [State.sound, Bool.and_eq_true, List.all_eq_true] at h
  exact h.1.2 m (mem_allModules m)

theorem State.grants_of_sound (h : s.sound = true) :
    (s.grants.map (·.outlet)).Nodup ∧ ∀ r ∈ s.grants, (r.kind = .initial → (s.outlet r.outlet).state = .admitted) ∧
      (r.kind = .topUp → (s.outlet r.outlet).state.supplied = true) := by
  simp only [State.sound, State.grantsSound, Bool.and_eq_true, List.all_eq_true, decide_eq_true_eq] at h
  obtain ⟨_, hnd, hr⟩ := h
  refine ⟨hnd, fun r hm => ?_⟩
  have hk := (hr r hm).2
  constructor <;> intro e <;> rw [e] at hk
  · simpa using hk
  · exact hk

/-- A module's group is of an outlet between ENERGISING and DE_ENERGISING (R44). -/
theorem State.group_of_sound (h : s.sound = true) {m : Fin 8} (hg : (s.module m).group = some o) :
    (s.outlet o).state.within .energising .deEnergising = true := by
  have hm := s.member_of_sound h m
  simp only [State.memberSound, hg, Bool.and_eq_true] at hm
  exact hm.2

theorem State.no_group_of_sound (h : s.sound = true)
    (hst : (s.outlet o).state.within .energising .deEnergising = false) : s.group o = [] := by
  refine List.filter_eq_nil_iff.2 fun m _ hm => ?_
  rw [State.group_of_sound h (by simpa using hm)] at hst
  cases hst

theorem State.freeApart_of_sound (h : s.sound = true) : s.freeApart := fun m hm => by
  have hs := s.member_of_sound h m
  simp only [State.memberSound, Bool.and_eq_true, beq_iff_eq] at hs
  obtain ⟨⟨⟨hg, _⟩, _⟩, _⟩ := hs
  rw [Module.isFree_off hm] at hg
  exact Option.isNone_iff_eq_none.1 (by rw [← Option.not_isSome, hg]; rfl)

theorem State.queued_of_sound (h : s.sound = true) : s.queued := by
  obtain ⟨hnd, hr⟩ := State.grants_of_sound h
  refine ⟨hnd, fun r hm hk => ?_⟩
  have hst := (hr r hm).1 hk
  exact ⟨hst, State.no_group_of_sound h (by rw [hst]; decide)⟩

/-- An outlet without a session to supply has no request but an initial one, in ADMITTED (R54). -/
theorem State.no_request_of_sound (h : s.sound = true) (h1 : (s.outlet o).state ≠ .admitted)
    (h2 : (s.outlet o).state.supplied = false) : ∀ r ∈ s.grants, r.outlet ≠ o := by
  rintro r hr rfl
  obtain ⟨_, hk⟩ := State.grants_of_sound h
  cases e : r.kind with
  | initial => exact h1 ((hk r hr).1 e)
  | topUp => rw [(hk r hr).2 e] at h2; cases h2

/-! ### Acts that shed modules -/

/-- Each module has left its group, or is of the group it was of and as free as it was. -/
def Sheds (s u : State) : Prop := ∀ m, (u.module m).group = none ∨
  ((u.module m).group = (s.module m).group ∧ (u.module m).isFree = (s.module m).isFree)

theorem Sheds.of_same (h : ∀ m, u.module m = s.module m) : Sheds s u := fun m => .inr (by rw [h]; exact ⟨rfl, rfl⟩)

theorem Sheds.of_shares (h : ∀ m, { u.module m with share := 0 } = { s.module m with share := 0 }) : Sheds s u :=
  fun m => by
    have hg := congrArg Module.group (h m)
    have hf := congrArg Module.isFree (h m)
    exact .inr ⟨hg, hf⟩

theorem Sheds.trans (h : Sheds s u) (k : Sheds u v) : Sheds s v := fun m => by
  rcases k m with k | ⟨k1, k2⟩
  · exact .inl k
  · rcases h m with h | ⟨h1, h2⟩
    · exact .inl (k1.trans h)
    · exact .inr ⟨k1.trans h1, k2.trans h2⟩

theorem Sheds.ite {a b : State} {p : Prop} [Decidable p] (h : p → Sheds s a) (k : ¬p → Sheds s b) :
    Sheds s (if p then a else b) := by
  split
  · next e => exact h e
  · next e => exact k e

theorem Module.group_stop (m : Module) : m.stop.group = none := by
  unfold Module.stop Module.retire
  split <;> rfl

theorem State.module_stopGroup (s : State) (o : OutletId) (m : Fin 8) :
    (s.stopGroup o).module m = if (s.module m).group = some o then (s.module m).stop else s.module m := by
  rw [State.stopGroup, State.module_modifyModules _ _ _ _ (s.group_nodup o)]
  simp only [State.mem_group]

theorem Sheds.of_stopGroup (s : State) (o : OutletId) : Sheds s (s.stopGroup o) := fun m => by
  rw [State.module_stopGroup]
  split
  · exact .inl (Module.group_stop _)
  · exact .inr ⟨rfl, rfl⟩

theorem State.group_stopGroup (s : State) (o : OutletId) : (s.stopGroup o).group o = [] := by
  refine List.filter_eq_nil_iff.2 fun m _ hm => ?_
  rw [State.module_stopGroup] at hm
  split at hm
  · rw [Module.group_stop] at hm
    cases hm
  · next hn => exact hn (by simpa using hm)

theorem Sheds.of_enter (s : State) (o : OutletId) (st : OutletState) : Sheds s (s.enter o st) :=
  .of_shares (s.enter_frame o st).2.2.2.2.1

theorem Sheds.group_nil {q : OutletId} (h : Sheds s u) (hg : s.group q = []) : u.group q = [] := by
  refine List.filter_eq_nil_iff.2 fun m _ hm => ?_
  have hn : ¬(s.module m).group = some q := fun e => by
    have : m ∈ s.group q := (s.mem_group q m).2 e
    rw [hg] at this
    cases this
  rcases h m with h | ⟨h, _⟩
  · rw [h] at hm; cases hm
  · rw [h] at hm; exact hn (by simpa using hm)

theorem State.freeApart.sheds (hs : s.freeApart) (h : Sheds s u) : u.freeApart := fun m hm => by
  rcases h m with h | ⟨h1, h2⟩
  · exact h
  · rw [h1]
    exact hs m (h2 ▸ hm)

/-- A queue some requests of which have gone, those of one outlet among them, keeps its form. -/
theorem State.queued.sheds (hq : s.queued) (hsub : u.grants.Sublist s.grants) (hreq : ∀ r ∈ u.grants, r.outlet ≠ o)
    (hout : ∀ q, q ≠ o → (u.outlet q).state = (s.outlet q).state) (h : Sheds s u) : u.queued := by
  refine ⟨(hsub.map _).nodup hq.1, fun r hr hk => ?_⟩
  obtain ⟨h1, h2⟩ := hq.2 r (hsub.subset hr) hk
  exact ⟨(hout _ (hreq r hr)).trans h1, h.group_nil h2⟩

/-! ### The end of an event at an outlet without a request -/

theorem State.finish_stated (hp : u.phase = .running) : u.finish.stated = true := by
  rw [State.finish, whenRunning_of_running hp]
  exact u.settle.reportAll_spec.2.1

/-- What an act at one outlet leaves, with the requests of that outlet gone and modules shed at most. -/
structure Releases (o : OutletId) (s u : State) : Prop where
  acts : ActsAt o s u
  sheds : Sheds s u
  requests : ∀ r ∈ u.grants, r.outlet ≠ o

theorem Releases.sublist (h : Releases o s u) : u.grants.Sublist s.grants := by
  have e : u.grants = s.grants.filter (·.outlet != o) := by
    rw [← h.acts.requests, List.filter_eq_self.2 fun r hr => by simpa using h.requests r hr]
  rw [e]
  exact List.filter_sublist

theorem Releases.queued (h : Releases o s u) (hs : s.queued) : u.queued :=
  hs.sheds h.sublist h.requests (fun q hq => by rw [h.acts.outlets q hq]) h.sheds

theorem Releases.noneEnds (h : Releases o s u) (hs : s.ready = true) (he : u.endsNow o = false) :
    u.noneEnds := fun q => by
  by_cases hq : q = o
  · subst hq; exact he
  · have e := h.acts.outlets q hq
    exact (State.endsNow_congr (s := s) (by rw [e]) (by rw [e])).trans ((State.Standing.of_ready hs).outlets q).1

/-- An event after which an outlet rests: what the end of the event does to it and to the rest of the part. -/
theorem Releases.finish (h : Releases o s u) (hs : s.ready = true) (hqueue : s.queued) (hfree : s.freeApart)
    (hst : (u.outlet o).state.supplied = false) (he : u.endsNow o = false) :
    Rests o u u.finish ∧ u.finish.common = s.common ∧ u.finish.leavesOthers s o = true ∧ u.finish.follows s = true := by
  have hq := h.queued hqueue
  have hn := h.noneEnds hs he
  have hc := (u.answers_finish hq hn).common.trans h.acts.common
  obtain ⟨hphase, _, _, _, _, _, _, _, _, _, _, _, _, _, _, _, _⟩ := State.common_fields h.acts.common
  obtain ⟨_, _, _, _, _, _, _, _, _, _, _, _, _, _, _, _, hset⟩ := State.common_fields hc
  exact ⟨State.rests_finish ⟨hst, h.requests⟩ (hfree.sheds h.sheds) hn, hc,
    h.acts.leavesOthers hq hn,
    State.follows_iff.2 ⟨State.finish_stated (hphase.trans (s.ready_iff.1 hs).1), hset⟩⟩

/-! ### The close of a session -/

/-- The outlet on entry to another state (R74, R137). -/
theorem State.outlet_enter {st : OutletState} (h : (s.outlet o).state ≠ st) :
    (s.enter o st).outlet o = { s.outlet o with
      state := st, phase := none, reference := (s.outlet o).selectMode st
      handover := if st.within .transferIn .transferOut then (s.outlet o).handover
        else { (s.outlet o).handover with overloadTimer := none } } := by
  unfold State.enter
  rw [if_neg h]
  show State.outlet (if modeOf st = .stopped then _ else _) o = _
  split
  · rw [State.outlet_computeShares, State.outlet_modify_self]
  · rw [State.outlet_modify_self]

/-- The outlet on entry to a state in which nothing is supplied. -/
theorem State.outlet_enter_stopped {st : OutletState} (h : (s.outlet o).state ≠ st) (hm : modeOf st = .stopped) :
    (s.enter o st).outlet o = { s.outlet o with
      state := st, phase := none, reference := (s.outlet o).reference.stop
      handover := { (s.outlet o).handover with overloadTimer := none } } := by
  have ht : st.within .transferIn .transferOut = false := by revert hm; cases st <;> decide
  rw [State.outlet_enter h]
  simp only [Outlet.selectMode, hm, ht, Bool.false_eq_true, if_false]

/-- An outlet once its session has closed, in a state and with a held record. -/
def Outlet.closedAs (x : Outlet) (st : OutletState) (held : Option HeldRecord) : Outlet :=
  { x with
    state := st, held := held, phase := none, session := none, interval := none, endCause := none
    meter := { x.meter with importAcc := 0, exportAcc := 0, heldPower := none }
    reference := x.reference.stop, handover := { x.handover with overloadTimer := none } }

/-- Two states that bill alike. -/
structure BillsAlike (o : OutletId) (s u : State) : Prop where
  clock : u.clock = s.clock
  tariff : u.tariff = s.tariff
  grid : u.grid = s.grid
  interval : (u.outlet o).interval = (s.outlet o).interval

theorem BillsAlike.finalInterval (h : BillsAlike o s u) : u.finalInterval o = s.finalInterval o := by
  simp only [State.finalInterval, State.freshInterval, State.second, h.clock, h.tariff, h.grid, h.interval]

theorem BillsAlike.closedSession (h : BillsAlike o s u) (r : Session) (cause : EndCause) :
    u.closedSession o r cause = s.closedSession o r cause := by
  simp only [State.closedSession, h.finalInterval, h.tariff, State.second, h.clock]

/-- The record that a close of an outlet's session makes (R22, R168). -/
def State.closing (s : State) (o : OutletId) (r : Session) (cause : EndCause) : HeldRecord :=
  { session := s.closedSession o r cause, final := (s.finalInterval o).handed [.final] }

/-- The close of an ending session, placed where the log and the closed-session queue have room, and held otherwise
(R22, R168, R174). -/
theorem State.closeSession_spec {r : Session} {cause : EndCause} (hst : (s.outlet o).state = .deEnergising)
    (hr : (s.outlet o).session = some r) :
    let v := s.closeSession o cause
    if s.log.canPlace then
      v.log = s.log.place (s.closing o r cause) ∧ v.outlet o = (s.outlet o).closedAs (s.outlet o).restState none
    else v.log = s.log ∧ v.outlet o = (s.outlet o).closedAs .held (some (s.closing o r cause)) := by
  dsimp only
  rw [State.closeSession_eq s o r cause hr]
  generalize hu : (s.modify o fun x => { x with
    session := none, interval := none, endCause := none
    held := some { session := s.closedSession o r cause, final := (s.finalInterval o).handed [.final] }
    meter := { x.meter with importAcc := 0, exportAcc := 0, heldPower := none } }) = u
  have huo : u.outlet o = { s.outlet o with
      session := none, interval := none, endCause := none, held := some (s.closing o r cause)
      meter := { (s.outlet o).meter with importAcc := 0, exportAcc := 0, heldPower := none } } := by
    rw [← hu, State.outlet_modify_self]
    rfl
  have hul : u.log = s.log := by rw [← hu]; rfl
  have hheld : (u.outlet o).held = some (s.closing o r cause) := by rw [huo]
  have hrest : (u.outlet o).restState = (s.outlet o).restState := by rw [huo]; rfl
  simp only [State.tryPlace, hheld, hul, hrest]
  split
  · generalize hw : (({ u with log := s.log.place (s.closing o r cause) } : State).modify o fun x =>
      { x with held := none }) = w
    have hwo : w.outlet o = { u.outlet o with held := none } := by rw [← hw, State.outlet_modify_self]; rfl
    have hne : (w.outlet o).state ≠ (s.outlet o).restState := by
      rw [hwo, huo]
      show (s.outlet o).state ≠ _
      rw [hst, Outlet.restState]
      split <;> decide
    have hstop : modeOf (s.outlet o).restState = .stopped := by
      rw [Outlet.restState]
      split <;> rfl
    refine ⟨by rw [(w.enter_frame o _).1, ← hw]; rfl, ?_⟩
    rw [State.outlet_enter_stopped hne hstop, hwo, huo]
    rfl
  · have hne : (u.outlet o).state ≠ .held := by
      rw [huo]
      show (s.outlet o).state ≠ _
      rw [hst]
      decide
    refine ⟨by rw [(u.enter_frame o _).1]; exact hul, ?_⟩
    rw [State.outlet_enter_stopped hne rfl, huo]
    rfl

theorem BillingLog.nextAfter_zero {l : BillingLog} (h : l.wellFormed = true) : l.nextAfter 0 = l.next := by
  obtain ⟨_, _, h3, _⟩ := l.wellFormed_iff.1 h
  cases hn : l.next with
  | none => simp [BillingLog.nextAfter, hn]
  | some n =>
    have := (h3 n hn).2
    simp [BillingLog.nextAfter, hn, Config.max32] at this ⊢
    omega

/-- What placing a closed session adds to the log (R22, R172, R174). -/
theorem BillingLog.place_spec {l : BillingLog} (hl : l.wellFormed = true) (hp : l.canPlace = true) (h : HeldRecord) :
    ∃ n, l.next = some n ∧ (l.place h).records = l.records ++ [h.session.recordOf h.final n] ∧
      (l.place h).closed = l.closed ++ [{ h.session with merged := Merged.none }] ∧
      l.place h = { l with
        records := (l.place h).records, closed := (l.place h).closed, next := l.nextAfter 1 } := by
  have hroom : l.hasRoom = true := by
    simp only [BillingLog.canPlace, Bool.and_eq_true] at hp
    exact hp.1
  obtain ⟨n, hn⟩ := Option.isSome_iff_exists.1 (l.hasRoom_iff.1 hroom).1
  have hframe := l.write_frame h.session (h.session.merged.combine h.final)
  refine ⟨n, hn, l.write_combine h.session h.final n hn, ?_, ?_⟩
  · simp only [BillingLog.place]
    rw [hframe]
  · have hnext := BillingLog.write_next hl hroom h.session (h.session.merged.combine h.final)
    simp only [BillingLog.place]
    rw [hframe, hnext]

theorem State.turn_self (s : State) (o : OutletId) : s.turn [o] o = 0 := by
  cases o <;> simp [State.turn, allOutlets]

/-- What it is for the session of one outlet to have closed, of the log and of the outlet. -/
theorem State.hasClosed_of {t : State} {r : Session} {cause : EndCause} (hl : s.log.wellFormed = true)
    (hsession : (t.outlet o).session = none) (hinterval : (t.outlet o).interval = none)
    (hmeter : (t.outlet o).meter = { (s.outlet o).meter with importAcc := 0, exportAcc := 0, heldPower := none })
    (hplace : if s.log.canPlace then
        t.log = s.log.place (s.closing o r cause) ∧ (t.outlet o).held = none ∧
          (t.outlet o).state = (t.outlet o).restState
      else t.log = s.log ∧ (t.outlet o).held = some (s.closing o r cause) ∧ (t.outlet o).state = .held) :
    t.hasClosed s o r cause = true := by
  simp only [State.hasClosed, State.hasClosedOne, State.hasPlaced, State.turn_self, Nat.add_zero, hsession, hinterval,
    hmeter, Option.isNone_none, Bool.true_and, beq_self_eq_true, ← BillingLog.canPlace_eq hl, List.range_one]
  cases hp : s.log.canPlace with
  | true =>
    rw [hp, if_pos rfl] at hplace
    obtain ⟨hlog, hheld, hst⟩ := hplace
    obtain ⟨n, hn, hrec, hclosed, heq⟩ := BillingLog.place_spec hl hp (s.closing o r cause)
    have hpl : List.filter s.log.placesAfter [0] = [0] := by
      rw [BillingLog.canPlace_eq hl] at hp
      simp [hp]
    rw [hlog, hpl, hheld, hst]
    simp only [hrec, hclosed, hn, List.length_singleton]
    rw [heq, hrec, hclosed]
    simp [State.closing, Session.recordOf, State.closedSession, Session.billed, Outlet.restState]
  | false =>
    rw [hp, if_neg Bool.false_ne_true] at hplace
    obtain ⟨hlog, hheld, hst⟩ := hplace
    have hpl : List.filter s.log.placesAfter [0] = [] := by
      rw [BillingLog.canPlace_eq hl] at hp
      simp [hp]
    rw [hlog, hpl, hheld, hst]
    simp [State.closing, BillingLog.nextAfter_zero hl]

/-- The completion of an ending that is due is the stop of the group and the close of the session (R21). -/
theorem State.completeEnd_of_ends (he : s.endsNow o = true) :
    s.completeEnd o = (s.stopGroup o).closeSession o ((s.outlet o).endCause.getD .ended) := by
  simp only [State.endsNow, Bool.and_eq_true, beq_iff_eq, Bool.or_eq_true, Bool.not_eq_true'] at he
  exact if_pos he

/-- Where one outlet alone may end, the event ends there first. -/
theorem State.finish_completeEnd (hp : s.phase = .running) (hp' : (s.completeEnd o).phase = .running)
    (h : ∀ q, q ≠ o → s.endsNow q = false) (hn : (s.completeEnd o).noneEnds) : s.finish = (s.completeEnd o).finish := by
  have hall : s.completeEnds = s.completeEnd o := by
    unfold State.completeEnds
    cases o with
    | a => rw [State.completeEnd_of_not (hn .b), State.completeEnd_of_not (hn .c)]
    | b => rw [State.completeEnd_of_not (h .a (by decide)), State.completeEnd_of_not (hn .c)]
    | c => rw [State.completeEnd_of_not (h .a (by decide)), State.completeEnd_of_not (h .b (by decide))]
  have hself : (s.completeEnd o).completeEnds = s.completeEnd o := by
    unfold State.completeEnds
    rw [State.completeEnd_of_not (hn .a), State.completeEnd_of_not (hn .b), State.completeEnd_of_not (hn .c)]
  have hset : s.settle = (s.completeEnd o).settle := by
    show ((s.completeEnds.reallocate.endPrepare .a).endPrepare .b).endPrepare .c =
      (((s.completeEnd o).completeEnds.reallocate.endPrepare .a).endPrepare .b).endPrepare .c
    rw [hall, hself]
  rw [State.finish, whenRunning_of_running hp, State.finish, whenRunning_of_running hp', hset]

theorem State.log_of_accounts (h : s.accounts = true) : s.log.wellFormed = true := by
  simp only [State.accounts, Bool.and_eq_true] at h
  exact h.1.2

theorem State.common_of_log {l : BillingLog} {os : PerOutlet Outlet} {ms : Vector Module 8} {st : StatusUnit}
    (h : st.settings = s.status.settings) :
    ({ s with log := l, outlets := os, modules := ms, status := st } : State).common = { s.common with log := l } := by
  simp only [State.common, h]

/-- What an event leaves where the session of an outlet closes at it: the session closed, the group and the queue
without the outlet, the outlet but for its limit, and the rest of the part (R21, R22, R168, R174). -/
structure Closes (o : OutletId) (s u t : State) (r : Session) : Prop where
  closed : t.hasClosed s o r ((u.outlet o).endCause.getD .ended) = true
  group : t.group o = []
  requests : ∀ r ∈ t.grants, r.outlet ≠ o
  outlet : ∃ st held l ref, t.outlet o = { (u.outlet o).closedAs st held with limit := l, reference := ref } ∧
    ((u.outlet o).limit = 0 → l = 0 ∧ ref = (u.outlet o).reference.stop)
  others : ∀ q, q ≠ o → (t.outlet q).kept = (s.outlet q).kept
  modules : ∀ m, (s.module m).group ≠ some o → (s.module m).keptBy (t.module m) = true
  common : { t.common with log := s.log } = s.common
  follows : t.follows s = true

/-- An event at which the session of an outlet closes. -/
theorem Releases.closes {r : Session} (h : Releases o s u) (hs : s.ready = true) (hqueue : s.queued)
    (hfree : s.freeApart) (hl : s.log.wellFormed = true) (he : u.endsNow o = true) (hr : (u.outlet o).session = some r)
    (hi : (u.outlet o).interval = (s.outlet o).interval) (hm : (u.outlet o).meter = (s.outlet o).meter) :
    Closes o s u u.finish r := by
  have hust : (u.outlet o).state = .deEnergising := by
    simp only [State.endsNow, Bool.and_eq_true, beq_iff_eq] at he
    exact he.1
  have hv := State.completeEnd_of_ends he
  generalize hw : u.stopGroup o = w at hv
  generalize hcause : (u.outlet o).endCause.getD .ended = cause at hv
  generalize hve : u.completeEnd o = v at hv
  have hwo (q : OutletId) : w.outlet q = u.outlet q := hw ▸ State.outlet_modifyModules _ _ _ q
  have hwf : w = { u with modules := w.modules } := by
    rw [← hw, State.stopGroup, State.modifyModules_eq]
  have hwr : (w.outlet o).session = some r := by rw [hwo, hr]
  obtain ⟨f1, f2, f3, f4, f5, _, _, f8⟩ := w.closeSession_frame o cause
  have hspec := State.closeSession_spec (s := w) (o := o) (cause := cause) (by rw [hwo, hust]) hwr
  rw [← hv] at f1 f2 f3 f4 f5 f8 hspec
  have hvstate := f8 (by rw [hwr]; rfl)
  have hvs : Sheds s v := (h.sheds.trans (hw ▸ .of_stopGroup u o)).trans (.of_shares f3)
  have hvg : v.grants = u.grants := by rw [f1, hwf]
  have hvgroup : v.group o = [] := by
    refine Sheds.group_nil (s := w) (.of_shares f3) ?_
    rw [← hw]
    exact u.group_stopGroup o
  have hvout (q : OutletId) (hq : q ≠ o) : v.outlet q = s.outlet q := by
    rw [f2 q hq, hwo, h.acts.outlets q hq]
  have hvmod (m : Fin 8) (hmg : (s.module m).group ≠ some o) : v.module m = s.module m := by
    have e := h.acts.modules m hmg
    have ew : w.module m = u.module m := by rw [← hw, State.module_stopGroup, if_neg (by rw [e]; exact hmg)]
    rw [f4 m (by rw [ew, e]; exact hmg), ew, e]
  have hvreq : ∀ r ∈ v.grants, r.outlet ≠ o := by rw [hvg]; exact h.requests
  have hvn : v.noneEnds := fun q => by
    by_cases hq : q = o
    · subst hq
      exact State.endsNow_of_state fun e => by rw [e] at hvstate; exact absurd hvstate (by decide)
    · exact (State.endsNow_congr (s := s) (by rw [hvout q hq]) (by rw [hvout q hq])).trans
        ((State.Standing.of_ready hs).outlets q).1
  have hvq : v.queued := hqueue.sheds (by rw [hvg]; exact h.sublist) hvreq
    (fun q hq => by rw [hvout q hq]) hvs
  obtain ⟨hphase, _, _, _, _, _, _, hgrid, hclock, htariff, _, hlog, _, _, _, _, hset⟩ :=
    State.common_fields h.acts.common
  have hrun := (s.ready_iff.1 hs).1
  have hvp : v.phase = .running := by rw [f1, hwf]; exact hphase.trans hrun
  have hfin : u.finish = v.finish := by
    rw [← hve] at hvp hvn ⊢
    refine State.finish_completeEnd (hphase.trans hrun) hvp (fun q hq => ?_) hvn
    have e := h.acts.outlets q hq
    exact (State.endsNow_congr (s := s) (by rw [e]) (by rw [e])).trans ((State.Standing.of_ready hs).outlets q).1
  have hvsup : (v.outlet o).state.supplied = false := by
    simp only [List.mem_cons, List.not_mem_nil, or_false] at hvstate
    rcases hvstate with e | e | e <;> rw [e] <;> rfl
  have hrests := State.rests_finish (o := o) ⟨hvsup, hvreq⟩ (hfree.sheds hvs) hvn
  have hans := v.answers_finish hvq hvn
  obtain ⟨_, _, _, _, _, _, _, _, _, _, _, tlog, _, _, _, _, tset⟩ := State.common_fields hans.common
  have hwset : w.status.settings = s.status.settings := by rw [hwf]; exact hset
  have hbills : BillsAlike o s w := ⟨by rw [hwf]; exact hclock, by rw [hwf]; exact htariff, by rw [hwf]; exact hgrid,
    by rw [hwo, hi]⟩
  have hclosing : w.closing o r cause = s.closing o r cause := by
    simp only [State.closing, hbills.finalInterval, hbills.closedSession]
  have hwlog : w.log = s.log := by rw [hwf]; exact hlog
  rw [hclosing, hwlog, hwo] at hspec
  obtain ⟨st, held, hvo⟩ : ∃ st held, v.outlet o = (u.outlet o).closedAs st held := by
    split at hspec
    · exact ⟨_, _, hspec.2⟩
    · exact ⟨_, _, hspec.2⟩
  have hto := hrests.outlet
  rw [hvo] at hto
  have hvst : (v.outlet o).state = st := by rw [hvo]; rfl
  have hvheld : (v.outlet o).held = held := by rw [hvo]; rfl
  have hplace : if s.log.canPlace then
      v.log = s.log.place (s.closing o r cause) ∧ held = none ∧ st = (u.outlet o).restState
      else v.log = s.log ∧ held = some (s.closing o r cause) ∧ st = .held := by
    rw [← hvst, ← hvheld]
    split at hspec
    · next hc =>
      rw [if_pos hc, hspec.2]
      exact ⟨hspec.1, rfl, rfl⟩
    · next hc =>
      rw [if_neg hc, hspec.2]
      exact ⟨hspec.1, rfl, rfl⟩
  rw [hfin]
  refine ⟨?_, by rw [hrests.group, hvgroup], fun r hr => hvreq r (hrests.grants r hr),
    ⟨st, held, _, _, hto, fun hl => ?_⟩,
    fun q hq => by rw [hans.outlets q, hvout q hq], fun m hmg => by rw [← hvmod m hmg]; exact hans.modules m, ?_,
    State.follows_iff.2 ⟨State.finish_stated hvp, tset.trans (f5.trans hwset)⟩⟩
  · rw [hcause]
    refine State.hasClosed_of hl (by rw [hto]; rfl) (by rw [hto]; rfl)
      (by rw [hto, ← hm]; rfl) ?_
    rw [hto, tlog]
    exact hplace
  · have e := hrests.idle hvgroup (by rw [hvo]; exact hl)
    rw [e, hvo]
    exact ⟨hl, rfl⟩
  · have hwc : w.common = s.common := (congrArg State.common hwf).trans h.acts.common
    rw [hans.common, (congrArg State.common f1).trans (State.common_of_log f5), hwc]
    rfl

end Sys2Proof.Machine
end

section
/-! The endings of a session: what END, END FORCE and BYE ask of the breakers and of the pool, and what the end of the
event makes of it (R18 to R21). -/

namespace Sys2Proof.Machine

variable {s t u v : State} {o : OutletId}

/-! ### Requests to the breakers -/

/-- The breakers of an outlet as an open request of the SB leaves them (R35, R38). -/
def Outlet.askSbOpen (x : Outlet) : Outlet :=
  { x with sb := x.sb.requestOpen, pb := if x.sb.channel = .closed then x.pb.cancelClose else x.pb }

/-- The breakers of an outlet as open requests of both leave them (R35, R39). -/
def Outlet.askBothOpen (x : Outlet) : Outlet := { x.askSbOpen with pb := x.askSbOpen.pb.requestTrip }

theorem State.modify_congr {f g : Outlet → Outlet} (h : f (s.outlet o) = g (s.outlet o)) :
    s.modify o f = s.modify o g := by
  simp only [State.modify, h]

theorem State.outlet_stopGroup (s : State) (o q : OutletId) : (s.stopGroup o).outlet q = s.outlet q :=
  State.outlet_modifyModules _ _ _ q

/-- An open request of the SB where no close request waits to be repeated (R35). -/
theorem State.requestSbOpen_eq (h : (s.outlet o).closeWanted = false) :
    s.requestSbOpen o = s.modify o Outlet.askSbOpen := by
  have report (f : Outlet → Outlet) (hf : (f (s.outlet o)).closeWanted = false) (b : Bool) :
      (if b then (s.modify o f).sbOpenReport o else s.modify o f) = s.modify o f := by
    split
    · exact if_neg (by simp [hf])
    · rfl
  simp only [State.requestSbOpen, State.modifySb, State.modifyPb]
  by_cases hc : (s.outlet o).sb.channel = .closed
  · simp only [hc, if_true, State.modify_modify]
    rw [report _ h]
    refine State.modify_congr ?_
    simp [Outlet.askSbOpen, hc]
  · simp only [hc, if_false]
    rw [report _ h]
    refine State.modify_congr ?_
    simp [Outlet.askSbOpen, hc]

theorem State.openBreakers_eq (h : (s.outlet o).closeWanted = false) :
    s.openBreakers o = s.modify o Outlet.askBothOpen := by
  rw [State.openBreakers, State.requestSbOpen_eq h, State.requestPbTrip, State.modifyPb, State.modify_modify]
  rfl

/-! ### What leads up to the end -/

/-- Between `s` and `t` an outlet's breakers have been asked, its limit recomputed, frames sent and modules shed, and no
more of the outlet and the queue has moved. -/
structure WindsDown (o : OutletId) (s t : State) : Prop where
  outlet : t.outlet o = { s.outlet o with
    sb := (t.outlet o).sb, pb := (t.outlet o).pb, limit := (t.outlet o).limit
    reference := (t.outlet o).reference, link := (t.outlet o).link }
  sheds : Sheds s t
  grants : t.grants = s.grants

theorem WindsDown.refl (o : OutletId) (s : State) : WindsDown o s s := ⟨rfl, .of_same fun _ => rfl, rfl⟩

theorem WindsDown.trans (h : WindsDown o s t) (k : WindsDown o t u) : WindsDown o s u :=
  ⟨by rw [k.outlet, h.outlet], h.sheds.trans k.sheds, k.grants.trans h.grants⟩

theorem WindsDown.of_modify {f : Outlet → Outlet} (h : f (s.outlet o) = { s.outlet o with
    sb := (f (s.outlet o)).sb, pb := (f (s.outlet o)).pb, limit := (f (s.outlet o)).limit
    reference := (f (s.outlet o)).reference, link := (f (s.outlet o)).link }) : WindsDown o s (s.modify o f) :=
  ⟨by rw [State.outlet_modify_self]; exact h, .of_same fun _ => rfl, rfl⟩

theorem WindsDown.of_stopGroup (s : State) (o : OutletId) : WindsDown o s (s.stopGroup o) :=
  ⟨by rw [State.outlet_stopGroup], .of_stopGroup s o, by rw [State.stopGroup, State.modifyModules_eq]⟩

theorem WindsDown.of_recomputeLimit (s : State) (o : OutletId) : WindsDown o s (s.recomputeLimit o) := by
  obtain ⟨e, _, _, ⟨l, _, ho⟩, _⟩ := s.recomputeLimit_frame o
  exact ⟨by rw [ho], .of_same fun m => State.group_recomputeLimit s o m, by rw [e]⟩

theorem WindsDown.of_send (s : State) (o : OutletId) (f : ShoreFrame) : WindsDown o s (s.send o f) := by
  obtain ⟨l, e, _⟩ := s.send_spec o f
  rw [e]
  exact .of_modify rfl

/-- The stop of the group ends the limit (R21, R52). -/
theorem State.limit_stopGroup (s : State) (o : OutletId) :
    (((s.stopGroup o).recomputeLimit o).outlet o).limit = 0 ∧ ((s.stopGroup o).recomputeLimit o).group o = [] := by
  have hg := s.group_stopGroup o
  refine ⟨((s.stopGroup o).recomputeLimit_frame o).2.2.1.trans (State.newLimit_of_no_group hg), ?_⟩
  exact Sheds.group_nil (.of_same fun m => State.group_recomputeLimit _ o m) hg

/-- The breakers, the stop of the group and the limit as an END finds the outlet (R18). -/
def State.windDown (s : State) (o : OutletId) : OutletState → State
  | .energising => ((s.stopGroup o).recomputeLimit o).requestSbOpen o
  | .cableLive => s.requestSbOpen o
  | .synchronising => s.openBreakers o
  | _ => s

/-- An outlet as an END marks it before anything is asked of the breakers (R18). -/
def Outlet.ending (x : Outlet) (cause : EndCause) : Outlet :=
  { x with energiseTimer := none, closeWanted := false, check := x.check.exit, endCause := some cause }

theorem State.deEnergise_eq (s : State) (o : OutletId) (cause : EndCause) :
    s.deEnergise o cause =
      (((s.modify o (·.ending cause)).withdraw o).windDown o (s.outlet o).state).enter o .deEnergising := by
  have branch (w : State) (st : OutletState) :
      (if st = .energising then ((w.stopGroup o).recomputeLimit o).requestSbOpen o
        else if st = .cableLive then w.requestSbOpen o
        else if st = .synchronising then w.openBreakers o else w) = w.windDown o st := by
    cases st <;> rfl
  simp only [State.deEnergise, branch]
  rfl

theorem State.closeWanted_recomputeLimit (h : (s.outlet o).closeWanted = false) :
    (((s.stopGroup o).recomputeLimit o).outlet o).closeWanted = false := by
  rw [((WindsDown.of_stopGroup s o).trans (.of_recomputeLimit _ o)).outlet]
  exact h

/-- What an END asks of the breakers and the pool, by the state left (R18, R21). -/
theorem State.windDown_spec (h : (s.outlet o).closeWanted = false) (st : OutletState) :
    let w := s.windDown o st
    WindsDown o s w ∧
      ((w.outlet o).sb = if st.within .energising .synchronising then (s.outlet o).sb.requestOpen
        else (s.outlet o).sb) ∧
      (st = .synchronising → (w.outlet o).pb.channel = .tripPulse) ∧
      (st ≠ .synchronising → (s.outlet o).pb.channel ≠ .closePulse → (w.outlet o).pb = (s.outlet o).pb) ∧
      (st = .energising → w.group o = [] ∧ (w.outlet o).limit = 0) := by
  have cancel (x : Outlet) (hx : x.pb.channel ≠ .closePulse) : x.askSbOpen.pb = x.pb := by
    simp only [Outlet.askSbOpen, ParallelBreaker.cancelClose, hx, if_false, ite_self]
  cases st with
  | energising =>
    have hw := State.closeWanted_recomputeLimit h
    generalize hv : (s.stopGroup o).recomputeLimit o = v at hw
    have hwind : WindsDown o s v := hv ▸ (WindsDown.of_stopGroup s o).trans (.of_recomputeLimit _ o)
    have hbreakers : (v.outlet o).sb = (s.outlet o).sb ∧ (v.outlet o).pb = (s.outlet o).pb := by
      obtain ⟨l, _, e⟩ := (s.stopGroup o).recomputeLimit_self o
      rw [← hv, e, State.outlet_stopGroup]
      exact ⟨rfl, rfl⟩
    have e : s.windDown o .energising = v.modify o Outlet.askSbOpen := by
      rw [State.windDown, hv, State.requestSbOpen_eq hw]
    obtain ⟨hlim, hgroup⟩ := s.limit_stopGroup o
    rw [hv] at hlim hgroup
    dsimp only
    rw [e, State.outlet_modify_self]
    refine ⟨hwind.trans (.of_modify rfl), by rw [← hbreakers.1]; rfl, nofun, fun _ hp => ?_, fun _ => ⟨hgroup, hlim⟩⟩
    rw [cancel _ (by rw [hbreakers.2]; exact hp), hbreakers.2]
  | cableLive =>
    have e : s.windDown o .cableLive = s.modify o Outlet.askSbOpen := State.requestSbOpen_eq h
    dsimp only
    rw [e, State.outlet_modify_self]
    exact ⟨.of_modify rfl, rfl, nofun, fun _ hp => cancel _ hp, nofun⟩
  | synchronising =>
    have e : s.windDown o .synchronising = s.modify o Outlet.askBothOpen := State.openBreakers_eq h
    dsimp only
    rw [e, State.outlet_modify_self]
    exact ⟨.of_modify rfl, rfl, fun _ => ParallelBreaker.requestTrip_channel _, fun hn => absurd rfl hn, nofun⟩
  | _ => exact ⟨.refl o s, rfl, nofun, fun _ _ => rfl, nofun⟩

/-! ### The end of the event -/

/-- An outlet's session is on its way to its end: the outlet is in DE_ENERGISING with the cause, the session and its
interval as they were. -/
structure Ending (o : OutletId) (s u : State) (r : Session) (cause : EndCause) : Prop where
  releases : Releases o s u
  state : (u.outlet o).state = .deEnergising
  session : (u.outlet o).session = some r
  interval : (u.outlet o).interval = (s.outlet o).interval
  meter : (u.outlet o).meter = (s.outlet o).meter
  cause : (u.outlet o).endCause = some cause

/-- What the end of the event leaves of an ending, with the SB still closed or with the session closed (R18, R21). -/
structure Ended (o : OutletId) (s u t : State) (r : Session) (cause : EndCause) : Prop where
  session : if (t.outlet o).sb.feedback = true ∧ (t.outlet o).sb.channel ≠ .stuck then
      (t.outlet o).state = .deEnergising ∧ (t.outlet o).session = some r ∧ (t.outlet o).endCause = some cause ∧
        t.log = s.log
    else t.hasClosed s o r cause = true ∧ t.group o = []
  sb : (t.outlet o).sb = (u.outlet o).sb
  pb : (t.outlet o).pb = (u.outlet o).pb
  energiseTimer : (t.outlet o).energiseTimer = (u.outlet o).energiseTimer
  check : (t.outlet o).check = (u.outlet o).check
  handover : ∃ n, (t.outlet o).handover = { (u.outlet o).handover with overloadTimer := n } ∧
    ((u.outlet o).handover.overloadTimer = none → n = none)
  request : t.request o = none
  group : u.group o = [] → t.group o = []
  idle : u.group o = [] → (u.outlet o).limit = 0 → (u.outlet o).reference.mode = .stopped →
    (t.outlet o).limit = 0 ∧ (t.outlet o).reference.mode = .stopped
  others : ∀ q, q ≠ o → (t.outlet q).kept = (s.outlet q).kept
  modules : ∀ m, (s.module m).group ≠ some o → (s.module m).keptBy (t.module m) = true
  common : { t.common with log := s.log } = s.common
  follows : t.follows s = true

theorem State.request_none (h : ∀ r ∈ s.grants, r.outlet ≠ o) : s.request o = none :=
  List.find?_eq_none.2 fun r hr => by simpa using h r hr

theorem Ending.finish {r : Session} {cause : EndCause} (h : Ending o s u r cause) (hs : s.ready = true)
    (hsound : s.sound = true) (hacc : s.accounts = true) : Ended o s u u.finish r cause := by
  cases he : u.endsNow o with
  | true =>
    have hc := h.releases.closes hs (State.queued_of_sound hsound) (State.freeApart_of_sound hsound)
      (State.log_of_accounts hacc) he h.session h.interval h.meter
    generalize u.finish = t at hc ⊢
    obtain ⟨st, held, l, ref, hto, hidle⟩ := hc.outlet
    have hclosed := hc.closed
    rw [h.cause] at hclosed
    have hsb : (t.outlet o).sb = (u.outlet o).sb := by rw [hto]; rfl
    refine ⟨?_, hsb, by rw [hto]; rfl, by rw [hto]; rfl, by rw [hto]; rfl, ⟨none, by rw [hto]; rfl, fun _ => rfl⟩,
      State.request_none hc.requests, fun _ => hc.group, fun _ hl _ => ?_, hc.others, hc.modules, hc.common, hc.follows⟩
    · rw [hsb, if_neg]
      · exact ⟨hclosed, hc.group⟩
      · rintro ⟨h1, h2⟩
        rw [State.endsNow_of_closed h1 h2] at he
        cases he
    · obtain ⟨rfl, rfl⟩ := hidle hl
      rw [hto]
      exact ⟨rfl, rfl⟩
  | false =>
    obtain ⟨hrest, hcommon, hleaves, hfollows⟩ := h.releases.finish hs (State.queued_of_sound hsound)
      (State.freeApart_of_sound hsound) (by rw [h.state]; rfl) he
    generalize u.finish = t at hrest hcommon hleaves hfollows
    have hto := hrest.outlet
    simp only [State.leavesOthers, Bool.and_eq_true, List.all_eq_true, Bool.or_eq_true, beq_iff_eq] at hleaves
    obtain ⟨⟨hothers, hmodules⟩, _⟩ := hleaves
    have hsb : (t.outlet o).sb = (u.outlet o).sb := by rw [hto]
    obtain ⟨_, _, _, _, _, _, _, _, _, _, _, hlog, _⟩ := State.common_fields hcommon
    refine ⟨?_, hsb, by rw [hto], by rw [hto], by rw [hto], ⟨_, by rw [hto], id⟩,
      State.request_none fun r hr => h.releases.requests r (hrest.grants r hr), fun hg => by rw [hrest.group, hg],
      fun hg hl hm => ?_, fun q hq => (hothers q (mem_allOutlets q)).resolve_left hq,
      fun m hm => (hmodules m (mem_allModules m)).resolve_left hm, ?_, hfollows⟩
    · rw [hsb, if_pos]
      · rw [hto]
        exact ⟨h.state, h.session, h.cause, hlog⟩
      · simpa [State.endsNow, h.state] using he
    · rw [hrest.idle hg hl]
      exact ⟨hl, hm⟩
    · rw [hcommon]
      rfl

/-! ### END and BYE -/

theorem Sheds.of_withdraw (s : State) (o : OutletId) : Sheds s (s.withdraw o) := .of_same fun _ => rfl

theorem State.requests_withdraw (s : State) (o : OutletId) : ∀ r ∈ (s.withdraw o).grants, r.outlet ≠ o := by
  intro r hr
  simpa using (List.mem_filter.1 hr).2

theorem State.grants_enter (s : State) (o : OutletId) (st : OutletState) : (s.enter o st).grants = s.grants := by
  rw [(s.enter_frame o st).1]

/-- An END of a session (R18, R21): where the outlet is and what has been asked. -/
theorem State.deEnergise_spec {r : Session} (hr : (s.outlet o).session = some r)
    (hne : (s.outlet o).state ≠ .deEnergising) (cause : EndCause) :
    let u := s.deEnergise o cause
    Ending o s u r cause ∧ (u.outlet o).energiseTimer = none ∧ (u.outlet o).check = (s.outlet o).check.exit ∧
      ((u.outlet o).sb = if (s.outlet o).state.within .energising .synchronising then (s.outlet o).sb.requestOpen
        else (s.outlet o).sb) ∧
      ((s.outlet o).state = .synchronising → (u.outlet o).pb.channel = .tripPulse) ∧
      ((s.outlet o).state ≠ .synchronising → (s.outlet o).pb.channel ≠ .closePulse →
        (u.outlet o).pb = (s.outlet o).pb) ∧
      ((s.outlet o).state = .energising → u.group o = [] ∧ (u.outlet o).limit = 0) ∧
      (u.outlet o).reference.mode = .stopped := by
  have hacts := s.actsAt_deEnergise o cause
  dsimp only
  rw [State.deEnergise_eq] at hacts ⊢
  generalize hp : (s.modify o (·.ending cause)).withdraw o = p at hacts ⊢
  have hpo : p.outlet o = (s.outlet o).ending cause := by
    rw [← hp]
    exact State.outlet_modify_self s o (·.ending cause)
  have hps : Sheds s p := hp ▸ (.of_same fun _ => rfl)
  have hpr : ∀ r ∈ p.grants, r.outlet ≠ o := hp ▸ State.requests_withdraw _ o
  obtain ⟨hw, hsb, htrip, hpb, hidle⟩ := State.windDown_spec (s := p) (by rw [hpo]; rfl) (s.outlet o).state
  generalize p.windDown o (s.outlet o).state = w at hacts hw hsb htrip hpb hidle ⊢
  have hwo := hw.outlet
  rw [hpo] at hwo hsb hpb
  have hwst : (w.outlet o).state = (s.outlet o).state := by rw [hwo]; rfl
  have ho := State.outlet_enter_stopped (s := w) (o := o) (st := .deEnergising) (by rw [hwst]; exact hne) rfl
  have hshed := (hps.trans hw.sheds).trans (.of_enter w o .deEnergising)
  have hgr := (w.grants_enter o .deEnergising).trans hw.grants
  refine ⟨⟨⟨hacts, hshed, by rw [hgr]; exact hpr⟩, by rw [ho], ?_, ?_, ?_, ?_⟩, ?_, ?_, by rw [ho]; exact hsb,
    fun h => by rw [ho]; exact htrip h, fun h1 h2 => by rw [ho]; exact hpb h1 h2, fun h => ?_, by rw [ho]; rfl⟩
  · rw [ho, hwo]; exact hr
  · rw [ho, hwo]; rfl
  · rw [ho, hwo]; rfl
  · rw [ho, hwo]; rfl
  · rw [ho, hwo]; rfl
  · rw [ho, hwo]; rfl
  · obtain ⟨h1, h2⟩ := hidle h
    exact ⟨Sheds.group_nil (.of_enter w o .deEnergising) h1, by rw [ho]; exact h2⟩

/-! ### END FORCE (R19) -/

/-- An END FORCE of a session (R19, R21): both breakers asked to open, the group stopped, check and handover cleared. -/
theorem State.force_spec {r : Session} (hr : (s.outlet o).session = some r) :
    let u := s.force o
    Ending o s u r .forced ∧ (u.outlet o).energiseTimer = none ∧ (u.outlet o).check = (s.outlet o).check.exit ∧
      (u.outlet o).sb = (s.outlet o).sb.requestOpen ∧ (u.outlet o).pb.channel = .tripPulse ∧ u.group o = [] ∧
      (u.outlet o).limit = 0 ∧
      (((s.outlet o).state = .deEnergising → (s.outlet o).reference.mode = .stopped) →
        (u.outlet o).reference.mode = .stopped) ∧
      (u.outlet o).handover = (s.outlet o).handover.clear := by
  have hacts := s.actsAt_force o
  generalize hp : (s.modify o fun x => { x.halt with endCause := some .forced }).withdraw o = p
  have hpo : p.outlet o = { (s.outlet o).halt with endCause := some .forced } := by
    rw [← hp]
    exact State.outlet_modify_self s o fun x => { x.halt with endCause := some .forced }
  have hps : Sheds s p := hp ▸ (.of_same fun _ => rfl)
  have hpr : ∀ r ∈ p.grants, r.outlet ≠ o := hp ▸ State.requests_withdraw _ o
  generalize hb : p.modify o Outlet.askBothOpen = b
  have hpb : WindsDown o p b := hb ▸ .of_modify rfl
  have hbo : b.outlet o = (p.outlet o).askBothOpen := by rw [← hb, State.outlet_modify_self]
  generalize hw : (b.stopGroup o).recomputeLimit o = w
  have hwind : WindsDown o p w := hw ▸ (hpb.trans (.of_stopGroup b o)).trans (.of_recomputeLimit _ o)
  obtain ⟨hlim, hgroup⟩ := b.limit_stopGroup o
  rw [hw] at hlim hgroup
  have e : s.force o = w.enter o .deEnergising := by
    rw [State.force, hp, State.openBreakers_eq (by rw [hpo]; rfl), hb, hw]
  have hwb : (w.outlet o).sb = (b.outlet o).sb ∧ (w.outlet o).pb = (b.outlet o).pb := by
    obtain ⟨l, _, e⟩ := (b.stopGroup o).recomputeLimit_self o
    rw [← hw, e, State.outlet_stopGroup]
    exact ⟨rfl, rfl⟩
  have hwr : (s.outlet o).reference.mode = .stopped → (w.outlet o).reference.mode = .stopped := fun hm => by
    have hbr : ((b.stopGroup o).outlet o).reference = (s.outlet o).reference := by
      rw [State.outlet_stopGroup, hbo, hpo]; rfl
    rcases ((b.stopGroup o).recomputeLimit_frame o).2.2.2.2 with h | h <;> rw [← hw, h, hbr]
    · exact hm
    · exact hm
  have hwo := hwind.outlet
  rw [hpo] at hwo
  have hsb : (w.outlet o).sb = (s.outlet o).sb.requestOpen := by rw [hwb.1, hbo, hpo]; rfl
  have hpbc : (w.outlet o).pb.channel = .tripPulse := by
    rw [hwb.2, hbo]
    exact ParallelBreaker.requestTrip_channel _
  have hshed := (hps.trans hwind.sheds).trans (.of_enter w o .deEnergising)
  have hgr := (w.grants_enter o .deEnergising).trans hwind.grants
  have hgn := Sheds.group_nil (.of_enter w o .deEnergising) hgroup
  have hrel : Releases o s (w.enter o .deEnergising) := ⟨e ▸ hacts, hshed, by rw [hgr]; exact hpr⟩
  have hwst : (w.outlet o).state = (s.outlet o).state := by rw [hwo]; rfl
  have hover : (w.outlet o).handover = (s.outlet o).handover.clear := by rw [hwo]; rfl
  dsimp only
  rw [e]
  by_cases hd : (w.outlet o).state = .deEnergising
  · rw [State.enter_same hd] at hrel hgn ⊢
    exact ⟨⟨hrel, hd, by rw [hwo]; exact hr, by rw [hwo]; rfl, by rw [hwo]; rfl, by rw [hwo]⟩, by rw [hwo]; rfl,
      by rw [hwo]; rfl, hsb, hpbc, hgn, hlim, fun h => hwr (h (hwst.symm.trans hd)), hover⟩
  · have ho := State.outlet_enter_stopped (s := w) (o := o) (st := .deEnergising) hd rfl
    refine ⟨⟨hrel, by rw [ho], ?_, ?_, ?_, ?_⟩, ?_, ?_, by rw [ho]; exact hsb, by rw [ho]; exact hpbc, hgn,
      by rw [ho]; exact hlim, fun _ => by rw [ho]; rfl, by rw [ho]; dsimp only; rw [hover]; rfl⟩
    · rw [ho, hwo]; exact hr
    · rw [ho, hwo]; rfl
    · rw [ho, hwo]; rfl
    · rw [ho, hwo]
    · rw [ho, hwo]; rfl
    · rw [ho, hwo]; rfl

end Sys2Proof.Machine
end

section
/-! END, END FORCE and BYE (R3, R18 to R21). -/

namespace Sys2Proof.Machine

variable {s t u : State} {o : OutletId}

/-! ### An event that answers besides -/

theorem ActsAt.answer (h : ActsAt o s u) (a : Reply) : ActsAt o (s.answer a) (u.answer a) where
  common := by
    obtain ⟨_, _, _, _, _, _, _, _, _, _, _, _, _, _, hterminal, _⟩ := State.common_fields h.common
    have hu : (u.answer a).common = { u.common with terminal := (u.answer a).terminal } := rfl
    have ht : (u.answer a).terminal = (s.answer a).terminal := by
      show { u.terminal with reply := some a, lastReply := some a } = _
      rw [hterminal]
      rfl
    rw [hu, h.common, ht]
    rfl
  budget := h.budget
  outlets := h.outlets
  modules := h.modules
  requests := h.requests
  status := h.status

theorem Ending.answer {r : Session} {cause : EndCause} (h : Ending o s u r cause) (a : Reply) :
    Ending o (s.answer a) (u.answer a) r cause :=
  ⟨⟨h.releases.acts.answer a, h.releases.sheds, h.releases.requests⟩, h.state, h.session, h.interval, h.meter, h.cause⟩

theorem State.atRest_answer (s : State) (a : Reply) : (s.answer a).atRest = s.atRest := by
  rw [State.atRest_eq, State.atRest_eq]
  rfl

theorem State.sound_answer (s : State) (a : Reply) : (s.answer a).sound = s.sound := by
  rw [State.sound, State.sound, State.atRest_answer]
  rfl

theorem State.accounts_answer (s : State) (a : Reply) : (s.answer a).accounts = s.accounts := by
  rw [State.accounts, State.accounts, State.atRest_answer]
  rfl

theorem Ending.finish_answer {r : Session} {cause : EndCause} (h : Ending o s u r cause) (hs : s.ready = true)
    (hsound : s.sound = true) (hacc : s.accounts = true) (a : Reply) :
    Ended o (s.answer a) (u.answer a) (u.answer a).finish r cause :=
  (h.answer a).finish ((s.ready_answer a).trans hs) ((s.sound_answer a).trans hsound) ((s.accounts_answer a).trans hacc)

/-- The common parts after an event that answers: the reply aside, and the log where a session closes. -/
theorem Ended.common_answer {r : Session} {cause : EndCause} {a : Reply} (h : Ended o (s.answer a) u t r cause) :
    t.terminal.reply = some a ∧ { t.common with log := s.log } = { s.common with terminal := t.terminal } := by
  have hc := h.common
  have ht := congrArg State.terminal hc
  change t.terminal = (s.answer a).terminal at ht
  refine ⟨by rw [ht]; rfl, ?_⟩
  show { t.common with log := (s.answer a).log } = _
  rw [hc, ht]
  rfl

/-! ### The orders -/

theorem State.orderEnd_session
    (h : (s.outlet o).state.within .admitted .synchronising = true ∨ (s.outlet o).state = .tripped) :
    s.orderEnd (some o) = (s.deEnergise o .ended).answer (.ok "" []) := by
  have hw : ¬(s.outlet o).state.within .vacant .announced = true := by
    rcases h with h | h
    · revert h; cases (s.outlet o).state <;> decide
    · rw [h]; decide
  exact (if_neg hw).trans (if_pos h)

theorem State.orderForce_session (h : (s.outlet o).state.inSession = true) :
    s.orderForce (some o) = (s.force o).answer (.ok "" []) := by
  have hw : (s.outlet o).state.within .vacant .announced = false ∧ (s.outlet o).state ≠ .held := by
    revert h; cases (s.outlet o).state <;> decide
  exact (if_neg (by simp [hw.1])).trans (if_neg hw.2)

/-- After an open request no command of the SB stands (R35). -/
theorem State.sbCommand_requestOpen {b : ShoreBreaker} (h : (s.outlet o).sb = b.requestOpen) :
    s.sbCommand o = false := by
  obtain ⟨h1, h2⟩ := b.requestOpen_channel
  unfold State.sbCommand
  rw [h]
  split
  · exact absurd ‹_› h1
  · exact absurd ‹_› h2
  · rfl

/-- The reference of an outlet in DE_ENERGISING is stopped (R74). -/
theorem State.reference_of_sound (h : s.referencesSound = true) (hst : (s.outlet o).state = .deEnergising) :
    (s.outlet o).reference.mode = .stopped := by
  simp only [State.referencesSound, Bool.and_eq_true, allOutlets_all] at h
  have ho := h.2 o
  simp only [Outlet.referenceSound, hst, Bool.and_eq_true] at ho
  obtain ⟨⟨⟨⟨⟨_, hstopped⟩, _⟩, _⟩, _⟩, _⟩ := ho
  have hw : OutletState.deEnergising.within .cableLive .separating = false := by decide
  have he : (OutletState.deEnergising == .energising) = false := by decide
  rw [hw, he] at hstopped
  simp only [Bool.false_and, Bool.false_or, Bool.and_eq_true, beq_iff_eq] at hstopped
  exact hstopped.1

end Sys2Proof.Machine

open Sys2Proof.Machine in
/-- Settles O15: what END and END FORCE ask, then the end of the event, with the SB still closed or the session
closed. -/
theorem endOrdersDeEnergise : Obligations.EndOrdersDeEnergise := by
  refine ⟨fun s hs hsound hacc o r hr hst => ?_, fun s hs hsound href hacc o r hr hst => ?_⟩
  · have hne : (s.outlet o).state ≠ .deEnergising := by
      rcases hst with hst | hst
      · revert hst; cases (s.outlet o).state <;> decide
      · rw [hst]; decide
    obtain ⟨hend, htimer, hcheck, hsb, htrip, hpb, hidle, hmode⟩ := State.deEnergise_spec hr hne .ended
    have h := hend.finish_answer hs hsound hacc (.ok "" [])
    have hact : atEvent (fun s : State => s.handOver (.endSession (some o))) s =
        .next ((s.deEnergise o .ended).answer (.ok "" [])).finish := by
      rw [atEvent_of_running (s.ready_iff.1 hs).1]
      exact congrArg (fun u : State => Host.Outcome.next u.finish) (State.orderEnd_session hst)
    obtain ⟨hreply, hcommon⟩ := h.common_answer
    refine ⟨_, hact, hreply, h.request, h.energiseTimer.trans htimer, ?_, ?_, ?_, fun hw => ?_, fun hy => ?_,
      fun h1 h2 => h.pb.trans (hpb h1 h2), fun he => ⟨h.group (hidle he).1, ?_⟩, h.session, h.others,
      h.modules, hcommon,
      h.follows⟩
    · rw [h.check]; exact congrArg SyncCheck.state hcheck
    · rw [h.check]; exact congrArg SyncCheck.syncTimer hcheck
    · rw [h.check]; exact congrArg SyncCheck.feedbackTimer hcheck
    · rw [if_pos hw] at hsb
      exact State.sbCommand_requestOpen (h.sb.trans hsb)
    · rw [h.pb]; exact htrip hy
    · exact (h.idle (hidle he).1 (hidle he).2 hmode).1
  · obtain ⟨hend, htimer, hcheck, hsb, hpb, hgroup, hlimit, hmode, hover⟩ := State.force_spec hr
    have h := hend.finish_answer hs hsound hacc (.ok "" [])
    have hact : atEvent (fun s : State => s.handOver (.endForce (some o))) s =
        .next ((s.force o).answer (.ok "" [])).finish := by
      rw [atEvent_of_running (s.ready_iff.1 hs).1]
      exact congrArg (fun u : State => Host.Outcome.next u.finish) (State.orderForce_session hst)
    generalize ((s.force o).answer (.ok "" [])).finish = t at h hact
    obtain ⟨hreply, hcommon⟩ := h.common_answer
    obtain ⟨hlim, hstop⟩ := h.idle hgroup hlimit (hmode (State.reference_of_sound href))
    obtain ⟨n, hhand, hn⟩ := h.handover
    have hfo : ((s.force o).answer (.ok "" [])).outlet o = (s.force o).outlet o := rfl
    rw [hfo, hover] at hhand hn
    rw [hn rfl] at hhand
    refine ⟨t, hact, hreply, h.request, State.sbCommand_requestOpen (h.sb.trans hsb), by rw [h.pb]; exact hpb,
      h.group hgroup, hlim, hstop, h.energiseTimer.trans htimer, ?_, by rw [hhand]; rfl, by rw [hhand],
      by rw [hhand]; rfl,
      by rw [hhand]; rfl, by rw [hhand]; rfl, by rw [hhand]; rfl, ?_, h.others, h.modules, hcommon, h.follows⟩
    · rw [h.check]; exact congrArg SyncCheck.state hcheck
    · have hend := h.session
      split at hend
      · next hc => rw [if_pos hc]; exact hend
      · next hc => rw [if_neg hc]; exact hend.1

end

section
/-! BYE (R3, R20, R21). -/

namespace Sys2Proof.Machine

variable {s u : State} {o : OutletId}

theorem State.actsAt_served (s : State) (o : OutletId) : ActsAt o s (s.served o) := s.actsAt_modifyLink o _

/-- An ending that a served frame begins. -/
theorem Ending.of_served {r : Session} {cause : EndCause} (h : Ending o (s.served o) u r cause) :
    Ending o s u r cause := by
  have ho := s.served_outlet o
  exact ⟨⟨(s.actsAt_served o).trans h.releases.acts, Sheds.trans (.of_same fun _ => rfl) h.releases.sheds,
    h.releases.requests⟩, h.state, h.session, by rw [h.interval, ho], by rw [h.meter, ho], h.cause⟩

theorem State.takeBye_session (h : (s.outlet o).state.within .admitted .cableLive = true) :
    s.takeBye o = s.deEnergise o .bye := by
  have hst : (s.outlet o).state = .admitted ∨ (s.outlet o).state = .energising ∨ (s.outlet o).state = .cableLive := by
    revert h
    cases (s.outlet o).state <;> decide
  rcases hst with e | e | e <;> simp only [State.takeBye, e]

theorem State.takeBye_announced (h : (s.outlet o).state = .announced) :
    s.takeBye o = (s.modify o fun x => { x with announcement := none }).enter o .cabled := by
  simp only [State.takeBye, h]

/-- BYE in ANNOUNCED (R3). -/
theorem exec_bye_announced {f : ShipFrame} {rest : List ShipFrame} (hs : s.ready = true)
    (hf : (s.outlet o).link.fifo = f :: rest) (ht : f.type = 8#8) (hst : (s.outlet o).state = .announced) :
    ∃ t, exec (.bye o) s = .next t ∧ (t.outlet o).state = .cabled ∧ (t.outlet o).announcement = none ∧
      (t.outlet o).link = ((s.served o).outlet o).link ∧ t.hasRaised s o .stateChanged = true ∧
      t.leavesOthers s o = true ∧ t.follows s = true := by
  generalize hu : s.served o = u
  generalize hw : (u.modify o fun x => { x with announcement := none }) = w
  have huo := s.served_outlet o
  rw [hu] at huo
  have hwo : w.outlet o = { u.outlet o with announcement := none } := by rw [← hw, State.outlet_modify_self]
  have hacts : ActsAt o s w := hw ▸ hu ▸ (s.actsAt_served o).trans (State.actsAt_modify _ o _)
  have hpool : SamePool s w := hw ▸ hu ▸ (SamePool.of_served s o).trans (.of_modify rfl)
  have hwstatus : w.status = s.status := by rw [← hw, ← hu]; rfl
  have hne : (w.outlet o).state ≠ .cabled := by
    rw [hwo, huo]
    show (s.outlet o).state ≠ _
    rw [hst]
    decide
  have hact : (s.served o).takeBye o = w.enter o .cabled := by
    rw [hu, State.takeBye_announced (by rw [huo]; exact hst), hw]
  obtain ⟨_, hent, _, ho, _⟩ := w.enter_frame o .cabled
  obtain ⟨t, e, ht, hleaves, hfollows, hcount, _⟩ := ActsAt.event
    (act := fun s : State => s.serve o 8#8 fun _ s => s.takeBye o) hs
    ((State.serve_of_type hf ht (by rw [hst]; decide) _).trans hact) (hacts.trans (w.actsAt_enter o _))
    (hpool.trans (.of_enter w o _)) (by rw [ho, hwo, huo]) (State.endsNow_of_state (by rw [hent]; decide))
    (State.closesNow_of_state (by rw [hent]; decide))
  have hto : t.outlet o = (w.enter o .cabled).outlet o := by rw [ht]; rfl
  obtain ⟨hraised, _⟩ := State.enter_stateChanged hne
  rw [State.hasRaised, hwstatus, ← hcount] at hraised
  rw [hwo] at ho
  exact ⟨t, e, by rw [hto, hent], by rw [hto, ho], by rw [hto, ho], hraised, hleaves, hfollows⟩

end Sys2Proof.Machine

open Sys2Proof.Machine in
/-- Settles O49: BYE withdraws an announcement, or acts as an END with cause BYE. -/
theorem byeEndsSession : Obligations.ByeEndsSession := by
  intro s hs hsound hacc o f rest hf ht x
  refine ⟨fun hst => exec_bye_announced hs hf ht hst, fun r hr hst => ?_⟩
  have huo := s.served_outlet o
  have hne : x.state ≠ .deEnergising := fun e => by rw [e] at hst; exact absurd hst (by decide)
  have hsu : ((s.served o).outlet o).state = x.state := by rw [huo]
  obtain ⟨hend, htimer, _, hsb, _, _, hidle, _⟩ :=
    State.deEnergise_spec (s := s.served o) (o := o) (r := r) (by rw [huo]; exact hr) (by rw [hsu]; exact hne) .bye
  have h := hend.of_served.finish hs hsound hacc
  have hact : (s.served o).takeBye o = (s.served o).deEnergise o .bye :=
    State.takeBye_session (by rw [hsu]; exact hst)
  rw [hsu] at hsb hidle
  have hexec : atEvent (fun s : State => s.serve o 8#8 fun _ s => s.takeBye o) s =
      .next ((s.served o).deEnergise o .bye).finish := by
    rw [atEvent_of_running (s.ready_iff.1 hs).1]
    refine congrArg (fun u : State => Host.Outcome.next u.finish) ((State.serve_of_type hf ht ?_ _).trans hact)
    exact fun e => by rw [show x.state = .vacant from e] at hst; exact absurd hst (by decide)
  refine ⟨_, hexec, h.request, h.energiseTimer.trans htimer, fun hn => ?_, fun he => h.group (hidle he).1, ?_, h.others,
    h.follows⟩
  · have hw : x.state.within .energising .synchronising = true := by
      revert hst hn
      cases x.state <;> decide
    rw [if_pos hw] at hsb
    exact State.sbCommand_requestOpen (h.sb.trans hsb)
  · have hend := h.session
    split at hend
    · next hc => rw [if_pos hc]; exact hend
    · next hc => rw [if_neg hc]; exact hend.1

end

section
/-! The trips of a session (R15, R16). -/

namespace Sys2Proof.Machine

variable {s t u : State} {o : OutletId}

/-! ### The notice in the transmit queue (R125) -/

/-- A frame that waits, but for a SHORE_STATUS, stays when another joins. -/
theorem ShipLink.mem_join {l : ShipLink} {f : ShoreFrame} (hf : f.isStatus = false) (h : f ∈ l.queue)
    (g : ShoreFrame) : f ∈ (l.join g).queue := by
  unfold ShipLink.join
  split
  · exact List.mem_append_left _ h
  · split
    · refine List.mem_append_left _ ?_
      unfold ShipLink.withoutWaitingStatus ShipLink.waiting
      split
      · rw [← List.take_append_drop 1 l.queue, List.mem_append] at h
        rw [List.mem_append, List.mem_filter]
        exact h.imp_right fun h => ⟨h, by simp [hf]⟩
      · rw [List.nil_append, List.mem_filter]
        exact ⟨h, by simp [hf]⟩
    · exact h

theorem ShipLink.mem_join_self {l : ShipLink} (h : l.hasRoom = true) (f : ShoreFrame) : f ∈ (l.join f).queue := by
  unfold ShipLink.join
  split
  · exact List.mem_append_right _ List.mem_cons_self
  · next hlen =>
    have hw : l.waiting.any (·.isStatus) = true := by simpa [ShipLink.hasRoom, hlen] using h
    rw [if_pos hw]
    exact List.mem_append_right _ List.mem_cons_self

theorem State.mem_startSending {f : ShoreFrame} (hf : f.isStatus = false) (h : f ∈ (s.outlet o).link.queue) :
    f ∈ ((s.startSending o).outlet o).link.queue := by
  simp only [State.startSending]
  split
  · split
    · exact h
    · next rest hq =>
      rw [State.link_modifyLink]
      rw [hq, List.mem_cons] at h
      refine List.mem_cons_of_mem _ (h.resolve_left fun e => ?_)
      rw [e] at hf
      cases hf
    · rw [State.link_modifyLink]
      exact h
  · exact h

theorem State.mem_send {f : ShoreFrame} (hf : f.isStatus = false) (h : f ∈ (s.outlet o).link.queue) (g : ShoreFrame) :
    f ∈ ((s.send o g).outlet o).link.queue := by
  unfold State.send
  split
  · refine State.mem_startSending hf ?_
    rw [State.link_modifyLink]
    exact ShipLink.mem_join hf h g
  · exact h

theorem State.mem_send_self {f : ShoreFrame} (hf : f.isStatus = false) (hup : (s.outlet o).link.up = true)
    (hroom : (s.outlet o).link.hasRoom = true) : f ∈ ((s.send o f).outlet o).link.queue := by
  unfold State.send
  rw [if_pos hup]
  refine State.mem_startSending hf ?_
  rw [State.link_modifyLink]
  exact ShipLink.mem_join_self hroom f

theorem State.mem_recomputeLimit {f : ShoreFrame} (hf : f.isStatus = false) (h : f ∈ (s.outlet o).link.queue) :
    f ∈ ((s.recomputeLimit o).outlet o).link.queue := by
  simp only [State.recomputeLimit]
  split
  · exact h
  · split
    · refine State.mem_send hf ?_ _
      rw [State.outlet_modify_self]
      exact h
    · rw [State.outlet_modify_self]
      exact h

/-! ### The count and the notice of a trip -/

/-- TRIP_NOTICE waits for the ship, where the link is UP and its queue had room (R16). -/
def ShipLink.noticed (l l' : ShipLink) (cause : TripCause) : Prop :=
  l'.up = l.up ∧ (l.up = true → l.hasRoom = true → ShoreFrame.tripNotice cause ∈ l'.queue)

/-- The count of a trip and its notice touch the outlet's session and link alone (R15, R16). -/
theorem State.tripNotice_spec (s : State) (o : OutletId) (cause : TripCause) :
    let u := s.tripNotice o cause
    u.modules = s.modules ∧ u.grants = s.grants ∧
      u.outlet o = { s.outlet o with
        session := (s.outlet o).session.map (·.countTrip cause), link := (u.outlet o).link } ∧
      (s.outlet o).link.noticed (u.outlet o).link cause := by
  generalize hp : s.modifySession o (·.countTrip cause) = p
  have hpo : p.outlet o = { s.outlet o with session := (s.outlet o).session.map (·.countTrip cause) } := by
    rw [← hp, State.modifySession, State.outlet_modify_self]
  have hpl : (p.outlet o).link = (s.outlet o).link := by rw [hpo]
  have e : s.tripNotice o cause = p.send o (.tripNotice cause) := by rw [← hp]; rfl
  obtain ⟨l, hsend, hl⟩ := p.send_spec o (.tripNotice cause)
  have hul : ((p.send o (.tripNotice cause)).outlet o) = { p.outlet o with link := l } := by
    rw [hsend, State.modifyLink, State.outlet_modify_self]
  dsimp only
  rw [e]
  refine ⟨by rw [hsend, ← hp]; rfl, by rw [hsend, ← hp]; rfl, by rw [hul, hpo], ?_, fun hup hroom => ?_⟩
  · have hup : l.up = (p.outlet o).link.up := by rw [hl]
    rw [hul]
    exact hup.trans (congrArg ShipLink.up hpl)
  · exact State.mem_send_self rfl (by rw [hpl, hup]) (by rw [hpl, hroom])

/-- What has been written of a trip and not of its outlet's state. -/
theorem State.hasNoted_of {cause : TripCause} (hs : (t.outlet o).session = (s.outlet o).session.map (·.countTrip cause))
    (hl : (s.outlet o).link.noticed (t.outlet o).link cause) : t.hasNoted s o cause = true := by
  simp only [State.hasNoted, Bool.and_eq_true, beq_iff_eq, Bool.or_eq_true, Bool.not_eq_true', List.contains_iff_mem]
  refine ⟨hs, ?_⟩
  cases hup : (s.outlet o).link.up
  · exact .inl (.inl (hl.1.trans hup))
  · cases hroom : (s.outlet o).link.hasRoom
    · exact .inl (.inr rfl)
    · exact .inr (hl.2 hup hroom)

/-! ### A trip of a session state (R15) -/

/-- An outlet right after its trip: halted, its breakers asked where the cause says so, its session counted. -/
def Outlet.tripped (x : Outlet) (cause : TripCause) : Outlet :=
  let y := if cause.commandsBoth then x.halt.askBothOpen else x.halt
  { y with
    state := .tripped, phase := none, limit := 0, session := x.session.map (·.countTrip cause)
    handover := { y.handover with overloadTimer := none } }

theorem State.trip_spec {cause : TripCause} (h : (s.outlet o).state.within .admitted .separating = true) :
    let u := s.trip o cause
    Releases o s u ∧ u.group o = [] ∧
      (∃ (ref : Reference) (l : ShipLink), u.outlet o = { (s.outlet o).tripped cause with
          reference := ref.stop, link := l } ∧
        (s.outlet o).link.noticed l cause) := by
  have hacts := s.actsAt_trip o cause
  have e : s.trip o cause = (((((if cause.commandsBoth then (s.modify o Outlet.halt).openBreakers o
      else s.modify o Outlet.halt).withdraw o).tripNotice o cause).stopGroup o).recomputeLimit o).enter o .tripped :=
    if_pos h
  dsimp only
  rw [e] at hacts ⊢
  generalize hp : (if cause.commandsBoth then (s.modify o Outlet.halt).openBreakers o else s.modify o Outlet.halt) = p
    at hacts ⊢
  generalize hy : (if cause.commandsBoth then (s.outlet o).halt.askBothOpen else (s.outlet o).halt) = y
  have hpo : p = s.modify o fun _ => y := by
    rw [← hp, ← hy]
    split
    · rw [State.openBreakers_eq (by rw [State.outlet_modify_self]; rfl), State.modify_modify]
      exact State.modify_congr rfl
    · exact State.modify_congr rfl
  have hyl : y.link = (s.outlet o).link ∧ y.session = (s.outlet o).session ∧ y.state = (s.outlet o).state := by
    rw [← hy]
    split <;> exact ⟨rfl, rfl, rfl⟩
  generalize hw : p.withdraw o = w at hacts ⊢
  have hwo : w.outlet o = y := by
    rw [← hw, hpo]
    exact State.outlet_modify_self s o fun _ => y
  have hwm : w.modules = s.modules := by rw [← hw, hpo]; rfl
  have hwr : ∀ r ∈ w.grants, r.outlet ≠ o := hw ▸ State.requests_withdraw _ o
  obtain ⟨hnm, hng, hno, hnl⟩ := w.tripNotice_spec o cause
  generalize w.tripNotice o cause = n at hacts hnm hng hno hnl ⊢
  obtain ⟨hlim, hgroup⟩ := n.limit_stopGroup o
  have hwind := (WindsDown.of_stopGroup n o).trans (.of_recomputeLimit _ o)
  obtain ⟨l, hl, hro⟩ := (n.stopGroup o).recomputeLimit_self o
  rw [State.outlet_stopGroup] at hl hro
  have hmem (f : ShoreFrame) (hf : f.isStatus = false) (h : f ∈ (n.outlet o).link.queue) : f ∈ l.queue := by
    have h' := State.mem_recomputeLimit (s := n.stopGroup o) (o := o) hf (by rw [State.outlet_stopGroup]; exact h)
    rw [hro] at h'
    exact h'
  generalize (n.stopGroup o).recomputeLimit o = z at hacts hlim hgroup hwind hro ⊢
  have hne : (z.outlet o).state ≠ .tripped := by
    rw [hro, hno, hwo]
    show y.state ≠ _
    rw [hyl.2.2]
    intro k
    rw [k] at h
    exact absurd h (by decide)
  have hshed : Sheds s (z.enter o .tripped) :=
    (Sheds.trans (.of_same fun m => by simp only [State.module, hnm, hwm]) hwind.sheds).trans (.of_enter z o .tripped)
  refine ⟨⟨hacts, hshed, ?_⟩, Sheds.group_nil (.of_enter z o .tripped) hgroup, (z.outlet o).reference, l, ?_, ?_, ?_⟩
  · rw [z.grants_enter, hwind.grants, hng]
    exact hwr
  · have hz : z.outlet o = { y with
        session := y.session.map (·.countTrip cause), limit := 0, reference := (z.outlet o).reference, link := l } := by
      rw [hro] at hlim
      rw [hro, hno, hwo]
      exact congrArg (fun k => ({ y with
        session := y.session.map (·.countTrip cause), limit := k, reference := (z.outlet o).reference
        link := l } : Outlet)) hlim
    rw [State.outlet_enter_stopped hne rfl]
    generalize (z.outlet o).reference = ref at hz ⊢
    rw [hz]
    simp only [Outlet.tripped, hy, hyl.2.1]
  · rw [hl, ← hyl.1, ← hwo]
    exact hnl.1
  · intro hup hroom
    rw [← hyl.1, ← hwo] at hup hroom
    exact hmem _ rfl (hnl.2 hup hroom)

end Sys2Proof.Machine
end

section
/-! A breaker's act and the trip it makes: what the end of the event leaves (R15, R16, R21). -/

namespace Sys2Proof.Machine

variable {s t u : State} {o : OutletId}

/-! ### A state from which an event sets out -/

/-- What soundness gives of a ready part, in a form that the passing of time keeps. -/
structure State.Steady (s : State) : Prop where
  ready : s.ready = true
  queued : s.queued
  freeApart : s.freeApart
  log : s.log.wellFormed = true
  requests : ∀ o, (s.outlet o).state ≠ .admitted → (s.outlet o).state.supplied = false → ∀ r ∈ s.grants, r.outlet ≠ o
  session : ∀ o, (s.outlet o).session.isSome = (s.outlet o).state.inSession

theorem State.Steady.of_sound (hs : s.ready = true) (hsound : s.sound = true) (hacc : s.accounts = true) :
    s.Steady where
  ready := hs
  queued := State.queued_of_sound hsound
  freeApart := State.freeApart_of_sound hsound
  log := State.log_of_accounts hacc
  requests _ := State.no_request_of_sound hsound
  session := State.session_of_accounts (s.ready_iff.1 hs).1 hacc

theorem State.Steady.elapse (h : s.Steady) (n : Nat) : (s.elapse n).Steady where
  ready := (s.ready_elapse n).trans h.ready
  queued := s.queued_elapse n h.queued
  freeApart m hm := by
    rw [State.elapse_module] at hm ⊢
    exact h.freeApart m (by rwa [Module.isFree_elapse] at hm)
  log := h.log
  requests o h1 h2 r hr := by
    rw [State.elapse_outlet] at h1 h2
    simp only [State.elapse, List.mem_map] at hr
    obtain ⟨k, hk, rfl⟩ := hr
    exact h.requests o h1 h2 k hk
  session o := by
    rw [State.elapse_outlet]
    exact h.session o

/-! ### The end of an event at which a breaker has acted and the session trips -/

/-- An outlet with its breakers moved. -/
def Outlet.withBreakers (x : Outlet) (sb : ShoreBreaker) (pb : ParallelBreaker) : Outlet :=
  { x with sb := sb, pb := pb }

/-- What an event leaves at which the breakers of an outlet have moved and its outlet controller has taken a trip cause
that it did not decide: by the state of the outlet, the whole of R15, a further trip (R16), or nothing more. -/
structure TripEnds (o : OutletId) (s t : State) (sb : ShoreBreaker) (pb : ParallelBreaker) (cause : TripCause) :
    Prop where
  sb : (t.outlet o).sb = sb
  pb : if (s.outlet o).state.within .admitted .separating = true ∧ cause.commandsBoth = true then
    (t.outlet o).pb.channel = .tripPulse else (t.outlet o).pb = pb
  tripped : (s.outlet o).state.within .admitted .separating = true → t.hasTripped s o cause = true
  noted : (s.outlet o).state = .tripped → (t.outlet o).state = .tripped ∧ t.hasNoted s o cause = true
  closed : (s.outlet o).state = .deEnergising → ∀ r, (s.outlet o).session = some r →
    t.hasClosed s o (r.countTrip cause) ((s.outlet o).endCause.getD .ended) = true
  others : (s.outlet o).state ≠ .deEnergising → t.leavesOthers s o = true
  follows : t.follows s = true

variable {sb : ShoreBreaker} {pb : ParallelBreaker} {cause : TripCause}

theorem ShoreBreaker.requestOpen_of_left {b : ShoreBreaker} (h1 : b.channel ≠ .closing) (h2 : b.channel ≠ .closed) :
    b.requestOpen = b := by
  unfold ShoreBreaker.requestOpen
  split
  · exact absurd ‹_› h1
  · exact absurd ‹_› h2
  · rfl

theorem Outlet.tripped_breakers {x : Outlet} (h1 : x.sb.channel ≠ .closing) (h2 : x.sb.channel ≠ .closed) :
    (x.tripped cause).sb = x.sb ∧
      if cause.commandsBoth = true then (x.tripped cause).pb.channel = .tripPulse else (x.tripped cause).pb = x.pb := by
  unfold Outlet.tripped
  split
  · exact ⟨ShoreBreaker.requestOpen_of_left h1 h2, ParallelBreaker.requestTrip_channel _⟩
  · exact ⟨rfl, rfl⟩

/-- What a trip clears, its breakers aside. -/
theorem Outlet.tripped_eq (x : Outlet) (cause : TripCause) :
    x.tripped cause = ({ x.halt with
      state := .tripped, phase := none, limit := 0, session := x.session.map (·.countTrip cause) } : Outlet).withBreakers
        (x.tripped cause).sb (x.tripped cause).pb := by
  unfold Outlet.tripped
  split <;> rfl

/-- The level of TRIPPED at the end of an event (R193). -/
theorem State.tripped_stated (h : t.stated = true) (hst : (t.outlet o).state = .tripped) :
    (t.status.get (.outlet o)).conditions.contains .tripped = true := by
  rw [(State.stated_iff t).1 h (.outlet o) .tripped (by cases o <;> decide)]
  simp [State.level, hst]

/-- The trip of a session whose breakers have moved. -/
theorem State.Steady.trips (h : s.Steady) (h1 : sb.channel ≠ .closing) (h2 : sb.channel ≠ .closed)
    (hw : (s.outlet o).state.within .admitted .separating = true) :
    TripEnds o s ((s.modify o (·.withBreakers sb pb)).trip o cause).finish sb pb cause := by
  generalize hb : s.modify o (·.withBreakers sb pb) = b
  have hbo : b.outlet o = (s.outlet o).withBreakers sb pb := by rw [← hb, State.outlet_modify_self]
  have hbw : (b.outlet o).state.within .admitted .separating = true := by rw [hbo]; exact hw
  have hacts : ActsAt o s b := hb ▸ s.actsAt_modify o _
  obtain ⟨hrel, hgroup, ref, l, huo, hlup, hlnoticed⟩ := State.trip_spec (cause := cause) hbw
  have hrel : Releases o s (b.trip o cause) :=
    ⟨hacts.trans hrel.acts, Sheds.trans (hb ▸ .of_same fun _ => rfl) hrel.sheds,
      hrel.requests⟩
  rw [hbo] at huo hlup hlnoticed
  obtain ⟨hsb, hpb⟩ := Outlet.tripped_breakers (x := (s.outlet o).withBreakers sb pb) (cause := cause) h1 h2
  rw [Outlet.tripped_eq] at huo
  obtain ⟨hrest, _, hleaves, hfollows⟩ := hrel.finish h.ready h.queued h.freeApart (by rw [huo]; rfl)
    (State.endsNow_of_state (by rw [huo]; exact nofun))
  have hto := hrest.idle hgroup (by rw [huo]; rfl)
  have hgr := hrest.group.trans hgroup
  have hreq := State.request_none fun r hr => hrel.requests r (hrest.grants r hr)
  generalize (b.trip o cause).finish = t at hrest hleaves hfollows hto hgr hreq
  rw [huo] at hto
  have hstated := (State.follows_iff.1 hfollows).1
  refine ⟨by rw [hto]; exact hsb, ?_, fun _ => ?_, fun e => ?_, fun e => ?_, fun _ => hleaves, hfollows⟩
  · split at hpb
    · next hc => rw [if_pos ⟨hw, hc⟩, hto]; exact hpb
    · next hc => rw [if_neg (fun k => hc k.2), hto]; exact hpb
  · have hnoted : t.hasNoted s o cause = true :=
      State.hasNoted_of (by rw [hto]; rfl) ⟨by rw [hto]; exact hlup, fun a b => by rw [hto]; exact hlnoticed a b⟩
    have hcond := State.tripped_stated (o := o) hstated (by rw [hto]; rfl)
    simp only [State.hasTripped, hnoted, hcond, hgr, hreq, hto]
    simp [Outlet.withBreakers, Outlet.halt, SyncCheck.exit, Handover.clear, Reference.stop, Outlet.apart]
  all_goals
    rw [e] at hw
    exact absurd hw (by decide)

/-- A further trip of an outlet whose breakers have moved (R16): where it rests in TRIPPED, and where its session
closes. -/
theorem State.Steady.notes (h : s.Steady) (hst : (s.outlet o).state = .tripped ∨ (s.outlet o).state = .deEnergising)
    (hbyc : cause.byController = false)
    (he : (s.outlet o).state = .deEnergising → sb.feedback = false ∨ sb.channel = .stuck) :
    TripEnds o s ((s.modify o (·.withBreakers sb pb)).trip o cause).finish sb pb cause := by
  generalize hb : s.modify o (·.withBreakers sb pb) = b
  have hbo : b.outlet o = (s.outlet o).withBreakers sb pb := by rw [← hb, State.outlet_modify_self]
  have hbst : (b.outlet o).state = (s.outlet o).state := by rw [hbo]; rfl
  have hacts : ActsAt o s (b.trip o cause) := .trans (hb ▸ s.actsAt_modify o _) (b.actsAt_trip o cause)
  have hact : b.trip o cause = b.tripNotice o cause := by
    unfold State.trip
    rw [hbst, hbyc]
    rcases hst with e | e <;> rw [e] <;> rfl
  obtain ⟨hm, hg, huo, hlink⟩ := b.tripNotice_spec o cause
  rw [← hact] at hm hg huo hlink
  generalize b.trip o cause = u at hacts hm hg huo hlink
  have hw : ¬(s.outlet o).state.within .admitted .separating = true := by rcases hst with e | e <;> rw [e] <;> decide
  have hrel : Releases o s u := by
    refine ⟨hacts, .of_same fun m => ?_, ?_⟩
    · simp only [State.module, hm, ← hb]
      rfl
    · have hun : (s.outlet o).state ≠ .admitted ∧ (s.outlet o).state.supplied = false := by
        rcases hst with e | e <;> rw [e] <;> decide
      rw [hg, ← hb]
      exact h.requests o hun.1 hun.2
  rw [hbo] at huo hlink
  by_cases hd : (s.outlet o).state = .deEnergising
  · obtain ⟨r, hr⟩ : ∃ r, (s.outlet o).session = some r :=
      Option.isSome_iff_exists.1 ((h.session o).trans (by rw [hd]; rfl))
    have hends : u.endsNow o = true := by
      rw [State.endsNow, huo]
      simpa [Outlet.withBreakers, hd] using he hd
    have hc := hrel.closes h.ready h.queued h.freeApart h.log hends (r := r.countTrip cause)
      (by rw [huo]; exact congrArg (Option.map _) hr) (by rw [huo]; rfl) (by rw [huo]; rfl)
    obtain ⟨st, held, l, ref, hto, _⟩ := hc.outlet
    have hcause : (u.outlet o).endCause = (s.outlet o).endCause := by rw [huo]; rfl
    have hclosed := hc.closed
    rw [hcause] at hclosed
    rw [huo] at hto
    refine ⟨by rw [hto]; rfl, by rw [if_neg fun k => hw k.1, hto]; rfl, fun k => absurd k hw, fun k => ?_,
      fun _ r' hr' => ?_, fun k => absurd hd k, hc.follows⟩
    · rw [hd] at k
      cases k
    · rw [hr] at hr'
      cases hr'
      exact hclosed
  · have ht := hst.resolve_right hd
    obtain ⟨hrest, _, hleaves, hfollows⟩ := hrel.finish h.ready h.queued h.freeApart
      (by rw [huo]; exact (congrArg OutletState.supplied ht).trans rfl)
      (State.endsNow_of_state (by rw [huo]; exact hd))
    have hto := hrest.outlet
    have hlink' : (s.outlet o).link.noticed (u.finish.outlet o).link cause := by rw [hto]; exact hlink
    rw [huo] at hto
    refine ⟨by rw [hto]; rfl, by rw [if_neg fun k => hw k.1, hto]; rfl, fun k => absurd k hw, fun _ => ⟨?_, ?_⟩,
      fun k => absurd k hd, fun _ => hleaves, hfollows⟩
    · rw [hto]
      exact ht
    · exact State.hasNoted_of (by rw [hto]; rfl) hlink'

/-- An outlet without a session, whose breakers have moved, takes no trip. -/
theorem State.Steady.passes (h : s.Steady) (hst : (s.outlet o).state.inSession = false) :
    TripEnds o s ((s.modify o (·.withBreakers sb pb)).trip o cause).finish sb pb cause := by
  generalize hb : s.modify o (·.withBreakers sb pb) = b
  have hbo : b.outlet o = (s.outlet o).withBreakers sb pb := by rw [← hb, State.outlet_modify_self]
  have hw : ¬(s.outlet o).state.within .admitted .separating = true := by
    revert hst
    cases (s.outlet o).state <;> decide
  have hact : b.trip o cause = b := by
    unfold State.trip
    rw [hbo, if_neg (show ¬((s.outlet o).withBreakers sb pb).state.within _ _ = true from hw), if_neg]
    exact fun k => Bool.false_ne_true (hst.symm.trans k)
  obtain ⟨t, e, ht, hleaves, hfollows, _⟩ := ActsAt.event
    (act := fun s => (s.modify o (·.withBreakers sb pb)).trip o cause)
    h.ready (by rw [hb, hact]) (hb ▸ s.actsAt_modify o _) (hb ▸ .of_modify rfl) (by rw [hbo]; rfl)
    (State.endsNow_of_state (by
      rw [hbo]
      intro k
      rw [show (s.outlet o).state = .deEnergising from k] at hst
      cases hst)) (hb ▸ State.closesNow_modify h.ready rfl rfl)
  rw [atEvent_of_running (s.ready_iff.1 h.ready).1, hb] at e
  cases e
  have hto : (b.trip o cause).finish.outlet o = b.outlet o := by rw [ht]; rfl
  rw [hbo] at hto
  refine ⟨by rw [hto]; rfl, by rw [if_neg fun k => hw k.1, hto]; rfl, fun k => absurd k hw, fun k => ?_, fun k => ?_,
    fun _ => hleaves, hfollows⟩ <;>
  · rw [k] at hst
    cases hst

/-- A trip that the outlet controller did not decide, at an outlet whose breakers have moved. -/
theorem State.Steady.tripEnds (h : s.Steady) (hbyc : cause.byController = false) (h1 : sb.channel ≠ .closing)
    (h2 : sb.channel ≠ .closed)
    (he : (s.outlet o).state = .deEnergising → sb.feedback = false ∨ sb.channel = .stuck) :
    TripEnds o s ((s.modify o (·.withBreakers sb pb)).trip o cause).finish sb pb cause := by
  by_cases hw : (s.outlet o).state.within .admitted .separating = true
  · exact h.trips h1 h2 hw
  · cases hin : (s.outlet o).state.inSession with
    | false => exact h.passes hin
    | true =>
      refine h.notes ?_ hbyc he
      revert hw hin
      cases (s.outlet o).state <;> decide

end Sys2Proof.Machine
end

section
/-! The shore breaker's feedback opening and its timers (R12, R21, R34 to R36). -/

namespace Sys2Proof.Machine

variable {s : State} {o : OutletId}

/-! ### The opening of the feedback -/

/-- A shore breaker whose feedback has opened. -/
def ShoreBreaker.atOpen (b : ShoreBreaker) : ShoreBreaker :=
  { b with feedback := false, channel := .opened, openTimer := none, stuckSet := false }

theorem exec_sbFeedbackOpens_same (hs : s.ready = true) (h : (s.outlet o).sb.feedback = false) :
    exec (.sbFeedbackOpens o) s = .next s := atEvent_of_idle hs (if_neg (by simp [h]))

theorem exec_sbFeedbackOpens (h : (s.outlet o).sb.feedback = true) :
    exec (.sbFeedbackOpens o) s = atEvent (fun s => s.sbOpens o) s := atEvent_congr (if_pos h)

/-- An opening without command (R36). -/
theorem State.sbOpens_closed (hc : (s.outlet o).sb.channel = .closed) :
    s.sbOpens o = (s.modify o (·.withBreakers { (s.outlet o).sb with feedback := false, channel := .opened }
      (s.outlet o).pb.requestTrip)).trip o .sbOpened := by
  simp only [State.sbOpens, hc, State.modifySb, State.requestPbTrip, State.modifyPb, State.modify_modify]
  exact congrArg (State.trip · o .sbOpened) (State.modify_congr rfl)

/-- The completion of an opening (R35, R36): what is left to do is the report of it. -/
theorem State.sbOpens_opening (hwf : (s.outlet o).sb.wellFormed = true)
    (hc : (s.outlet o).sb.channel = .opening ∨ (s.outlet o).sb.channel = .stuck) :
    s.sbOpens o = (s.modify o fun x => { x with sb := x.sb.atOpen }).sbOpenReport o := by
  rcases hc with hc | hc
  · obtain ⟨_, _, _, hstuck⟩ := ShoreBreaker.wellFormed_opening hwf hc
    simp only [State.sbOpens, hc, State.modifySb, State.modify_modify]
    refine congrArg (State.sbOpenReport · o) (State.modify_congr ?_)
    simp only [ShoreBreaker.atOpen, hstuck]
  · obtain ⟨_, _, htimer, _⟩ := ShoreBreaker.wellFormed_stuck hwf hc
    simp only [State.sbOpens, hc, State.modifySb, State.modify_modify]
    refine congrArg (State.sbOpenReport · o) (State.modify_congr ?_)
    simp only [ShoreBreaker.atOpen, htimer]

theorem State.sbOpenReport_of_not (h : ¬((s.outlet o).state = .energising ∧ (s.outlet o).phase = some .closing)) :
    s.sbOpenReport o = s := if_neg fun k => h ⟨k.1, k.2.1⟩

/-- The close request repeated in phase CLOSING, or refused by the lock (R12, R31, R33). -/
theorem State.sbOpenReport_of_closing (hst : (s.outlet o).state = .energising)
    (hph : (s.outlet o).phase = some .closing)
    (hc : (s.outlet o).sb.channel = .opened) :
    s.sbOpenReport o = s.modify o fun x => { x with
      closeWanted := false
      sb := if x.closeWanted = true ∧ s.blocking o = none then
          { x.sb with channel := .closing, closeTimer := some sbCloseTime }
        else x.sb } := by
  cases hw : (s.outlet o).closeWanted with
  | false =>
    refine (if_neg fun k => Bool.false_ne_true (hw.symm.trans k.2.2)).trans ?_
    have hself : s.modify o (fun _ => s.outlet o) = s := by cases o <;> rfl
    refine hself.symm.trans (State.modify_congr ?_)
    simp only [hw, Bool.false_eq_true, false_and, if_false]
    rw [← hw]
  | true =>
    refine (if_pos ⟨hst, hph, hw⟩).trans ?_
    simp only [State.requestSbClose, hc]
    cases hb : s.blocking o with
    | none =>
      refine (if_neg (by simp)).trans (State.modify_congr ?_)
      simp [hw]
    | some i =>
      refine (if_pos rfl).trans (State.modify_congr ?_)
      simp

theorem State.blocking_modify_sb (f : Outlet → ShoreBreaker) :
    (s.modify o fun x => { x with sb := f x }).blocking o = s.blocking o := by
  simp only [State.blocking, State.outlet_modify_self]
  rfl

/-- The close of a session as the opening completes (R21). -/
theorem State.Steady.sbOpens_closes {r : Session} (h : s.Steady) (hwf : (s.outlet o).sb.wellFormed = true)
    (hc : (s.outlet o).sb.channel = .opening ∨ (s.outlet o).sb.channel = .stuck)
    (hst : (s.outlet o).state = .deEnergising) (hr : (s.outlet o).session = some r) :
    ((s.sbOpens o).finish.outlet o).sb = (s.outlet o).sb.atOpen ∧
      (s.sbOpens o).finish.hasClosed s o r ((s.outlet o).endCause.getD .ended) = true ∧
      (s.sbOpens o).finish.group o = [] ∧ (s.sbOpens o).finish.follows s = true := by
  have hact := State.sbOpens_opening hwf hc
  generalize hu : (s.modify o fun x => { x with sb := x.sb.atOpen }) = u at hact
  have huo : u.outlet o = { s.outlet o with sb := (s.outlet o).sb.atOpen } := by rw [← hu, State.outlet_modify_self]
  have hust : (u.outlet o).state = .deEnergising := by rw [huo]; exact hst
  rw [State.sbOpenReport_of_not (by rw [hust]; exact nofun)] at hact
  have hrel : Releases o s u := ⟨hu ▸ s.actsAt_modify o _, hu ▸ .of_same fun _ => rfl, by
    rw [← hu]
    exact h.requests o (by rw [hst]; exact nofun) (by rw [hst]; rfl)⟩
  have hends : u.endsNow o = true := by simp [State.endsNow, huo, hst, ShoreBreaker.atOpen]
  have hcl := hrel.closes h.ready h.queued h.freeApart h.log hends (r := r) (by rw [huo]; exact hr) (by rw [huo])
    (by rw [huo])
  obtain ⟨st, held, l, ref, hto, _⟩ := hcl.outlet
  have hclosed := hcl.closed
  rw [huo] at hto hclosed
  rw [hact]
  exact ⟨by rw [hto]; rfl, hclosed, hcl.group, hcl.follows⟩

/-! ### The timers -/

/-- A close is judged by the records of the state it sets out from, whatever time has passed. -/
theorem State.hasClosed_elapse (t s : State) (n : Nat) (r : Session) (cause : EndCause) :
    t.hasClosed (s.elapse n) o r cause = t.hasClosed s o r cause := by
  have hfinal : (s.elapse n).finalInterval o = s.finalInterval o := by
    simp only [State.finalInterval, State.elapse_outlet]
    rfl
  have hclosed : (s.elapse n).closedSession o r cause = s.closedSession o r cause := by
    simp only [State.closedSession, hfinal]
    rfl
  simp only [State.hasClosed, State.hasClosedOne, State.turn_self, hfinal, hclosed, State.elapse_log,
    State.elapse_outlet]
  rfl

/-- The timer of a close runs out (R34). -/
theorem State.Steady.sbCloseTimer {n : Nat} (h : s.Steady) (hwf : (s.outlet o).sb.wellFormed = true)
    (hn : (s.outlet o).sb.closeTimer = some n) :
    ∃ t, exec (.sbCloseTimerExpiry o) s = .next t ∧ ∃ pb,
      TripEnds o (s.elapse n) t { (s.outlet o).sb with channel := .opened, closeTimer := none } pb .sbFail ∧
      (s.outlet o).state ≠ .deEnergising := by
  have hc : (s.outlet o).sb.channel = .closing := by
    revert hwf
    cases hc : (s.outlet o).sb.channel <;> simp [ShoreBreaker.wellFormed, hc, hn]
  obtain ⟨hfb, _, hopen, _⟩ := ShoreBreaker.wellFormed_closing hwf hc
  have hne : (s.outlet o).state ≠ .deEnergising := fun hst => by
    have := ((State.Standing.of_ready h.ready).outlets o).1
    simp [State.endsNow, hst, hfb] at this
  generalize hsb : ({ (s.outlet o).sb with channel := .opened, closeTimer := none } : ShoreBreaker) = sb
  have hact : (s.elapse n).modifySb o (fun b => { b with channel := .opened, closeTimer := none }) =
      (s.elapse n).modify o (·.withBreakers sb ((s.elapse n).outlet o).pb) := by
    refine State.modify_congr ?_
    rw [← hsb, State.elapse_outlet]
    simp [Outlet.withBreakers, Outlet.elapse, hopen, Timer.elapse]
  refine ⟨_, atEvent_of_running (s.ready_iff.1 h.ready).1, ((s.elapse n).outlet o).pb, ?_, hne⟩
  have hexp : s.atExpiry (s.outlet o).sb.closeTimer (fun s =>
      (s.modifySb o fun b => { b with channel := .opened, closeTimer := none }).trip o .sbFail) =
      ((s.elapse n).modify o (·.withBreakers sb ((s.elapse n).outlet o).pb)).trip o .sbFail := by
    rw [hn, ← hact]
    rfl
  rw [hexp]
  refine (h.elapse n).tripEnds rfl ?_ ?_ fun k => ?_
  · rw [← hsb]; exact nofun
  · rw [← hsb]; exact nofun
  · rw [State.elapse_outlet] at k
    exact absurd k hne

/-- The timer of an opening runs out (R35). -/
theorem State.Steady.sbOpenTimer {n : Nat} (h : s.Steady) (hwf : (s.outlet o).sb.wellFormed = true)
    (hn : (s.outlet o).sb.openTimer = some n) :
    ∃ t, exec (.sbOpenTimerExpiry o) s = .next t ∧ ∃ pb,
      TripEnds o (s.elapse n) t { (s.outlet o).sb with channel := .stuck, openTimer := none, stuckSet := true } pb
        .sbFail := by
  have hc : (s.outlet o).sb.channel = .opening := by
    revert hwf
    cases hc : (s.outlet o).sb.channel <;> simp [ShoreBreaker.wellFormed, hc, hn]
  obtain ⟨_, hclose, _, _⟩ := ShoreBreaker.wellFormed_opening hwf hc
  generalize hsb : ({ (s.outlet o).sb with channel := .stuck, openTimer := none, stuckSet := true } : ShoreBreaker) = sb
  have hact : (s.elapse n).modifySb o (fun b => { b with channel := .stuck, openTimer := none, stuckSet := true }) =
      (s.elapse n).modify o (·.withBreakers sb ((s.elapse n).outlet o).pb) := by
    refine State.modify_congr ?_
    rw [← hsb, State.elapse_outlet]
    simp [Outlet.withBreakers, Outlet.elapse, hclose, Timer.elapse]
  refine ⟨_, atEvent_of_running (s.ready_iff.1 h.ready).1, ((s.elapse n).outlet o).pb, ?_⟩
  have hexp : s.atExpiry (s.outlet o).sb.openTimer (fun s =>
      (s.modifySb o fun b => { b with channel := .stuck, openTimer := none, stuckSet := true }).trip o .sbFail) =
      ((s.elapse n).modify o (·.withBreakers sb ((s.elapse n).outlet o).pb)).trip o .sbFail := by
    rw [hn, ← hact]
    rfl
  rw [hexp]
  refine (h.elapse n).tripEnds rfl ?_ ?_ fun _ => .inr ?_
  · rw [← hsb]; exact nofun
  · rw [← hsb]; exact nofun
  · rw [← hsb]

/-- The level of SB_STUCK at the end of an event (R193). -/
theorem State.sbStuck_stated (h : s.stated = true) (hst : (s.outlet o).sb.stuckSet = true) :
    (s.status.get (.outlet o)).conditions.contains .sbStuck = true := by
  rw [(State.stated_iff s).1 h (.outlet o) .sbStuck (by cases o <;> decide)]
  exact hst

end Sys2Proof.Machine

open Sys2Proof.Machine in
/-- Settles O31: by the channel at the feedback's opening, and a breaker's act with its trip at either timer. -/
theorem shoreBreakerOpens : Obligations.ShoreBreakerOpens := by
  refine ⟨fun s hs hsound hacc o => ?_, fun s hs hsound hacc o => ?_⟩
  · intro x
    have hsteady := State.Steady.of_sound hs hsound hacc
    have hrun := (s.ready_iff.1 hs).1
    obtain ⟨hwf, _⟩ := State.breakers_of_sound hsound o
    have feedback (hc : x.sb.channel = .opening ∨ x.sb.channel = .stuck) : x.sb.feedback = true :=
      hc.elim (fun hc => (ShoreBreaker.wellFormed_opening hwf hc).1) fun hc => (ShoreBreaker.wellFormed_stuck hwf hc).1
    refine ⟨exec_sbFeedbackOpens_same hs, fun hc => ?closed, fun hc hd hn => ?left, fun hc hst hph => ?repeats,
      fun r hr hc hst => ?ends⟩
    case closed =>
      have h := hsteady.tripEnds (o := o) (sb := { x.sb with feedback := false, channel := .opened })
        (pb := x.pb.requestTrip) (cause := .sbOpened) rfl nofun nofun fun _ => .inl rfl
      rw [← State.sbOpens_closed hc] at h
      have hpb := h.pb
      rw [if_neg (fun k => Bool.false_ne_true k.2)] at hpb
      exact ⟨_, (exec_sbFeedbackOpens (ShoreBreaker.wellFormed_closed hwf hc).1).trans (atEvent_of_running hrun), h.sb,
        by rw [hpb]; exact ParallelBreaker.requestTrip_channel _, h.tripped, h.noted, h.follows⟩
    case left =>
      rw [exec_sbFeedbackOpens (feedback hc)]
      have hact := State.sbOpens_opening hwf hc
      rw [State.sbOpenReport_of_not (by rw [State.outlet_modify_self]; exact hn)] at hact
      exact State.event_modify (act := fun s => s.sbOpens o) hs hact rfl rfl
        (State.endsNow_of_state (by rw [State.outlet_modify_self]; exact hd)) (State.closesNow_modify hs rfl rfl)
    case repeats =>
      rw [exec_sbFeedbackOpens (feedback hc)]
      have hact := State.sbOpens_opening hwf hc
      rw [State.sbOpenReport_of_closing (by rw [State.outlet_modify_self]; exact hst)
        (by rw [State.outlet_modify_self]; exact hph) (by rw [State.outlet_modify_self]; rfl), State.modify_modify,
        State.blocking_modify_sb] at hact
      refine State.event_modify (act := fun s => s.sbOpens o) hs (hact.trans (State.modify_congr ?_)) rfl rfl
        (State.endsNow_of_state ?_) (State.closesNow_modify hs rfl rfl)
      · rfl
      · rw [State.outlet_modify_self]
        exact fun k => OutletState.noConfusion (hst.symm.trans k)
    case ends =>
      obtain ⟨hsb, hclosed, hgroup, hfollows⟩ := hsteady.sbOpens_closes hwf hc hst hr
      exact ⟨_, (exec_sbFeedbackOpens (feedback hc)).trans (atEvent_of_running hrun), by rw [hsb]; rfl,
        by rw [hsb]; rfl,
        by rw [hsb]; rfl, hclosed, hgroup, hfollows⟩
  · intro x
    have hsteady := State.Steady.of_sound hs hsound hacc
    obtain ⟨hwf, _⟩ := State.breakers_of_sound hsound o
    have hst (n : Nat) : ((s.elapse n).outlet o).state = x.state := by rw [State.elapse_outlet]; rfl
    refine ⟨fun hn => atEvent_of_idle hs (by rw [hn]; rfl), fun hn => atEvent_of_idle hs (by rw [hn]; rfl),
      fun n hn => ?_, fun n hn => ?_⟩
    · obtain ⟨t, e, pb, h, hne⟩ := hsteady.sbCloseTimer hwf hn
      have hpb := h.pb
      have htr := h.tripped
      have hoth := h.others
      rw [hst] at hpb htr hoth
      exact ⟨t, e, h.sb, fun hw => ⟨htr hw, by rwa [if_pos ⟨hw, rfl⟩] at hpb⟩, hoth hne, h.follows⟩
    · obtain ⟨t, e, pb, h⟩ := hsteady.sbOpenTimer hwf hn
      have hpb := h.pb
      have htr := h.tripped
      have hoth := h.others
      have hclosed := h.closed
      rw [hst] at hpb htr hoth hclosed
      refine ⟨t, e, fun hd => ⟨h.sb, State.sbStuck_stated (State.follows_iff.1 h.follows).1 (by rw [h.sb]), hoth hd⟩,
        fun hw => ⟨htr hw, by rwa [if_pos ⟨hw, rfl⟩] at hpb⟩, fun r hr hd => ?_, h.follows⟩
      have hc := hclosed hd r (by rw [State.elapse_outlet]; exact hr)
      rw [State.hasClosed_elapse, State.elapse_outlet] at hc
      exact hc

end

section
/-! A request for capacity (R11, R54 to R56): what the end of the event makes of it. -/

namespace Sys2Proof.Machine

variable {s t u : State} {o q : OutletId} {r : Request} {ms : List (Fin 8)}

/-! ### The grant of the only request that waits -/

/-- The members of another outlet's group at a grant of free modules. -/
theorem State.members_grant (hq : q ≠ r.outlet) (h : s.grantable r = some ms) (hfree : s.freeApart) (m : Fin 8)
    (rest : List Request) :
    m ∉ ms ∧ { (s.grant r rest ms).module m with share := 0 } = { s.module m with share := 0 } ∨
      (s.module m).group ≠ some q ∧ ((s.grant r rest ms).module m).group ≠ some q := by
  obtain ⟨hnd, hfr, _⟩ := State.grantable_spec h
  have e := State.grant_module rest hnd m (s := s) (r := r)
  by_cases hm : m ∈ ms
  · rw [if_pos hm] at e
    refine .inr ⟨?_, ?_⟩
    · rw [hfree m (hfr m hm)]
      exact nofun
    · rw [show ((s.grant r rest ms).module m).group = some r.outlet from congrArg Module.group e]
      exact fun k => hq (Option.some.inj k).symm
  · rw [if_neg hm] at e
    exact .inl ⟨hm, e⟩

/-- A grant makes no other outlet's PREPARE end. -/
theorem State.prepared_grant (hq : q ≠ r.outlet) (h : s.grantable r = some ms) (hfree : s.freeApart)
    (rest : List Request) : (s.grant r rest ms).prepared q = s.prepared q := by
  have hmod (m : Fin 8) := State.members_grant hq h hfree m rest
  have hmem (sts : List ModuleState) : (s.grant r rest ms).members q sts = s.members q sts := by
    refine State.members_congr fun m => ?_
    rcases hmod m with ⟨_, e⟩ | ⟨h1, h2⟩
    · have hg := congrArg Module.group e
      have hst := congrArg Module.state e
      dsimp only at hg hst
      rw [hg, hst]
    · exact ⟨fun k => absurd k.1 h2, fun k => absurd k.1 h1⟩
  have hall : (s.members q [.precharging, .selfTest]).all (fun m => !((s.grant r rest ms).module m).initial) =
      (s.members q [.precharging, .selfTest]).all fun m => !(s.module m).initial := by
    rw [Bool.eq_iff_iff, List.all_eq_true, List.all_eq_true]
    refine forall₂_congr fun m hmm => ?_
    rcases hmod m with ⟨_, e⟩ | ⟨h1, _⟩
    · have hi := congrArg Module.initial e
      dsimp only at hi
      rw [hi]
    · exact absurd ((s.mem_members q _ m).1 hmm).1 h1
  simp only [State.prepared, hmem, hall]

/-- The modules just granted to an outlet without a group all precharge. -/
theorem State.prepared_granted (h : s.grantable r = some ms) (hg : s.group r.outlet = []) (rest : List Request) :
    (s.grant r rest ms).prepared r.outlet = false := by
  obtain ⟨hnd, _, _⟩ := State.grantable_spec h
  have hempty : (s.grant r rest ms).members r.outlet [.standby] = [] := by
    refine List.eq_nil_iff_forall_not_mem.2 fun m hm => ?_
    obtain ⟨hgr, hst⟩ := (State.mem_members _ _ _ m).1 hm
    have e := State.grant_module rest hnd m (s := s) (r := r)
    have eg := congrArg Module.group e
    have es := congrArg Module.state e
    dsimp only at eg es
    by_cases hmm : m ∈ ms
    · rw [if_pos hmm] at es
      rw [es] at hst
      exact absurd hst (by decide : ModuleState.precharging ∉ [ModuleState.standby])
    · rw [if_neg hmm] at eg
      have : m ∈ s.group r.outlet := (s.mem_group _ m).2 (eg ▸ hgr)
      rw [hg] at this
      cases this
  simp [State.prepared, hempty]

/-- An outlet as an initial grant starts it (R11). -/
def Outlet.started (x : Outlet) : Outlet :=
  { x with
    state := .energising, phase := some .prepare, rampComplete := false, closeWanted := false
    reference := x.reference.stop, handover := { x.handover with overloadTimer := none } }

theorem State.outlet_grant_ne (hq : q ≠ r.outlet) (rest : List Request) :
    (s.grant r rest ms).outlet q = s.outlet q := by
  unfold State.grant
  dsimp only
  split
  · rw [State.startEnergising, State.outlet_modify_ne _ _ hq, (State.enter_frame _ _ _).2.2.1 q hq,
      State.outlet_modifyModules]
    rfl
  · rw [State.outlet_modifyModules]
    rfl

theorem State.outlet_grant_initial (hk : r.kind = .initial) (hst : (s.outlet r.outlet).state ≠ .energising)
    (rest : List Request) : (s.grant r rest ms).outlet r.outlet = (s.outlet r.outlet).started := by
  unfold State.grant
  simp only [hk]
  generalize hu : ({ s with grants := rest } : State).modifyModules ms (·.grantTo r.outlet .initial) = u
  have huo : u.outlet r.outlet = s.outlet r.outlet := by rw [← hu, State.outlet_modifyModules]; rfl
  rw [State.startEnergising, State.outlet_modify_self, State.outlet_enter_stopped (by rw [huo]; exact hst) rfl, huo]
  rfl

/-- The end of an event at which one request waits and is granted, with the budget kept: the grant is all of it, but for
BUDGET_OVER and the reports. -/
theorem State.finish_of_grant (hp : s.phase = .running) (he : s.noneEnds) (hl : s.limitsStand) (hg : s.grants = [r])
    (h : s.grantable r = some ms) (hb : s.budgetOver = false)
    (hc : ∀ q, (s.grant r [] ms).closesNow q = false) :
    ∃ b, s.finish = ({ s.grant r [] ms with budgetOver := b } : State).reportAll := by
  have hlim : s.recomputeLimits = s := by
    rw [State.recomputeLimits, State.recomputeLimit_of_same (hl .a), State.recomputeLimit_of_same (hl .b),
      State.recomputeLimit_of_same (hl .c)]
  have hex : s.examine s.grants.length = s.grant r [] ms := by
    simp only [hg, List.length_singleton, State.examine, h]
  have hgb : (s.grant r [] ms).budgetOver = false := by rw [State.grant_frame]; exact hb
  have hset : s.reallocate = { s.grant r [] ms with
      budgetOver := decide ((s.grant r [] ms).gridLimit < (s.grant r [] ms).claims) } := by
    simp only [State.reallocate, hlim, hex, State.settleBudget, hgb, Bool.false_and, Bool.false_eq_true, if_false]
  generalize decide ((s.grant r [] ms).gridLimit < (s.grant r [] ms).claims) = b at hset
  refine ⟨b, ?_⟩
  have hcb (q : OutletId) : ({ s.grant r [] ms with budgetOver := b } : State).closesNow q = false := hc q
  rw [State.finish, whenRunning_of_running hp, State.settle, State.completeEnd_of_not (he .a),
    State.completeEnd_of_not (he .b), State.completeEnd_of_not (he .c), hset, State.endPrepare_of_not (hcb .a),
    State.endPrepare_of_not (hcb .b), State.endPrepare_of_not (hcb .c)]

/-! ### An act that asks for a session's capacity -/

/-- What an act leaves after which an outlet without a group waits in ADMITTED with a new request at the tail of the
queue. -/
structure Asks (s u : State) (r : Request) : Prop where
  kind : r.kind = .initial
  others : ∀ q, q ≠ r.outlet → u.outlet q = s.outlet q
  state : (u.outlet r.outlet).state = .admitted
  limit : (u.outlet r.outlet).limit = 0
  modules : u.modules = s.modules
  grants : u.grants = s.grants ++ [r]
  gridLimit : u.gridLimit = s.gridLimit
  budget : u.budgetOver = s.budgetOver
  phase : u.phase = s.phase

theorem State.committed_of_no_group (h : s.group o = []) : s.committed o = 0 := by
  simp [State.committed, State.members, h, State.ratings]

namespace Asks

variable (h : Asks s u r)
include h

theorem module (m : Fin 8) : u.module m = s.module m := by simp only [State.module, h.modules]

theorem group (q : OutletId) : u.group q = s.group q := by simp only [State.group, h.module]

theorem ratings (ms : List (Fin 8)) : u.ratings ms = s.ratings ms := State.ratings_congr fun m _ => by rw [h.module]

theorem members (q : OutletId) (sts : List ModuleState) : u.members q sts = s.members q sts :=
  State.members_congr fun m => by rw [h.module]

theorem committed (q : OutletId) : u.committed q = s.committed q := by
  simp only [State.committed, h.members, h.ratings]

theorem groupCapacity (q : OutletId) : u.groupCapacity q = s.groupCapacity q := by
  simp only [State.groupCapacity, h.members, h.ratings]

theorem admitted (hq : q ≠ r.outlet) : u.admitted q = s.admitted q := by simp only [State.admitted, h.others q hq]

theorem claim (hg : s.group r.outlet = []) (q : OutletId) : u.claim q = s.claim q := by
  simp only [State.claim, h.committed]
  by_cases hq : q = r.outlet
  · subst hq
    rw [State.committed_of_no_group hg, Nat.min_zero, Nat.min_zero]
  · rw [h.admitted hq]

theorem claims (hg : s.group r.outlet = []) : u.claims = s.claims := by simp only [State.claims, h.claim hg]

theorem take (ms : List (Fin 8)) (n : Nat) : u.take ms n = s.take ms n := by
  induction ms generalizing n with
  | nil => rfl
  | cons m ms ih => simp only [State.take, ih, h.module]

/-- A request of another outlet can be granted as it could be before. -/
theorem grantable (hg : s.group r.outlet = []) {k : Request} (hk : k.outlet ≠ r.outlet) :
    u.grantable k = s.grantable k := by
  simp only [State.grantable, State.claimsWith, h.take, h.committed, h.ratings, h.admitted hk, h.claims hg, h.claim hg,
    h.gridLimit]
  rfl

theorem noneEnds (hs : s.ready = true) : u.noneEnds := fun q => by
  by_cases hq : q = r.outlet
  · subst hq
    exact State.endsNow_of_state (by rw [h.state]; exact nofun)
  · exact (State.endsNow_congr (s := s) (by rw [h.others q hq]) (by rw [h.others q hq])).trans
      ((State.Standing.of_ready hs).outlets q).1

theorem limitsStand (hs : s.ready = true) (hg : s.group r.outlet = []) : u.limitsStand := fun q => by
  by_cases hq : q = r.outlet
  · subst hq
    rw [h.limit, State.newLimit_of_no_group ((h.group _).trans hg)]
  · rw [h.others q hq, ((State.Standing.of_ready hs).outlets q).2.1]
    simp only [State.newLimit, h.admitted hq, h.groupCapacity, h.budget, h.others q hq]

theorem closesNow (hs : s.ready = true) (q : OutletId) : u.closesNow q = false := by
  by_cases hq : q = r.outlet
  · subst hq
    exact State.closesNow_of_state (by rw [h.state]; exact nofun)
  · exact (State.closesNow_congr (s := s) h.modules (by rw [h.others q hq]) (by rw [h.others q hq])).trans
      ((State.Standing.of_ready hs).outlets q).2.2

/-- Where the head of the queue waits nothing is left to settle. -/
theorem standing (hs : s.ready = true) (hg : s.group r.outlet = []) (hw : u.queueWaits = true) : u.Standing :=
  ⟨fun q => ⟨h.noneEnds hs q, h.limitsStand hs hg q, h.closesNow hs q⟩, hw, by
    rw [h.budget, h.gridLimit, h.claims hg]
    exact (State.Standing.of_ready hs).budget⟩

theorem queued (hq : s.queued) (hg : s.group r.outlet = []) (hr : ∀ k ∈ s.grants, k.outlet ≠ r.outlet) : u.queued := by
  refine ⟨?_, fun k hk hi => ?_⟩
  · rw [h.grants, List.map_append, List.nodup_append]
    refine ⟨hq.1, List.nodup_singleton _, fun x hx y hy => ?_⟩
    obtain ⟨k, hk, rfl⟩ := List.mem_map.1 hx
    rw [List.mem_singleton.1 hy]
    exact hr k hk
  · rw [h.grants, List.mem_append, List.mem_singleton] at hk
    rcases hk with hk | rfl
    · rw [h.others _ (hr k hk), h.group]
      exact hq.2 k hk hi
    · exact ⟨h.state, (h.group _).trans hg⟩

/-- A request that can be granted fits the budget, so that BUDGET_OVER stands Clear (R55). -/
theorem budget_of_grantable (hs : s.ready = true) (hg : s.group r.outlet = []) (hr : u.grantable r = some ms) :
    u.budgetOver = false := by
  obtain ⟨_, _, hc⟩ := State.grantable_spec hr
  have hz : u.claim r.outlet = 0 := by
    rw [State.claim, h.committed, State.committed_of_no_group hg, Nat.min_zero]
  rw [State.claimsWith, hz, Nat.sub_zero, h.claims hg, h.gridLimit] at hc
  rw [h.budget, (State.Standing.of_ready hs).budget, decide_eq_false_iff_not]
  omega

end Asks

/-- What the end of an event leaves of a request: it waits at the tail, or was the only one and is granted at once. -/
structure Asked (s u t : State) (r : Request) : Prop where
  outcome : (t.outlet r.outlet = u.outlet r.outlet ∧ t.grants = s.grants ++ [r] ∧ t.modules = s.modules) ∨
    (t.outlet r.outlet = (u.outlet r.outlet).started ∧ t.grants = [])
  others : ∀ q, q ≠ r.outlet → t.outlet q = s.outlet q
  kept : ∀ m, (s.module m).keptBy (t.module m) = true
  common : t.common = u.common
  stated : t.stated = true

/-- The closes of a grant to an outlet that waited in ADMITTED. -/
theorem Asks.closesNow_grant (h : Asks s u r) (hs : s.ready = true) (hfree : s.freeApart) (hg : s.group r.outlet = [])
    (hr : u.grantable r = some ms) (q : OutletId) : (u.grant r [] ms).closesNow q = false := by
  have hf : u.freeApart := State.freeApart_of_module hfree h.module
  by_cases hq : q = r.outlet
  · subst hq
    simp [State.closesNow, State.prepared_granted hr ((h.group _).trans hg)]
  · have hc := h.closesNow hs q
    simp only [State.closesNow, State.prepared_grant hq hr hf, State.outlet_grant_ne hq] at hc ⊢
    exact hc

theorem Asks.finish (h : Asks s u r) (hs : s.ready = true) (hq : s.queued) (hfree : s.freeApart)
    (hg : s.group r.outlet = []) (hr : ∀ k ∈ s.grants, k.outlet ≠ r.outlet) : Asked s u u.finish r := by
  have hp : u.phase = .running := h.phase.trans (s.ready_iff.1 hs).1
  have hans := u.answers_finish (h.queued hq hg hr) (h.noneEnds hs)
  have hkept (m : Fin 8) : (s.module m).keptBy (u.finish.module m) = true := by
    rw [← h.module m]
    exact hans.modules m
  have waits (hw : u.queueWaits = true) : Asked s u u.finish r := by
    have e := (h.standing hs hg hw).finish hp
    have hf := u.reportAll_spec.1
    generalize u.reportAll.status = v at hf
    rw [hf] at e
    exact ⟨.inl ⟨by rw [e]; rfl, by rw [e]; exact h.grants, by rw [e]; exact h.modules⟩,
      fun q hq => by rw [e]; exact h.others q hq, hkept, hans.common, State.finish_stated hp⟩
  cases hgr : s.grants with
  | cons k rest =>
    have hk : k.outlet ≠ r.outlet := hr k (by rw [hgr]; exact List.mem_cons_self)
    have hwait : s.queueWaits = true := (State.Standing.of_ready hs).queue
    refine waits ?_
    simp only [State.queueWaits, h.grants, hgr, List.cons_append, h.grantable hg hk] at hwait ⊢
    exact hwait
  | nil =>
    have hug : u.grants = [r] := by rw [h.grants, hgr]; rfl
    cases hm : u.grantable r with
    | none => exact waits (by simp [State.queueWaits, hug, hm])
    | some ms =>
      obtain ⟨b, e⟩ := State.finish_of_grant hp (h.noneEnds hs) (h.limitsStand hs hg) hug hm
        (h.budget_of_grantable hs hg hm) (h.closesNow_grant hs hfree hg hm)
      have hf := ({ u.grant r [] ms with budgetOver := b } : State).reportAll_spec.1
      generalize ({ u.grant r [] ms with budgetOver := b } : State).reportAll.status = v at hf
      rw [hf] at e
      have hout (q : OutletId) : u.finish.outlet q = (u.grant r [] ms).outlet q := by rw [e]; rfl
      refine ⟨.inr ⟨?_, ?_⟩, fun q hq => ?_, hkept, hans.common, State.finish_stated hp⟩
      · rw [hout, State.outlet_grant_initial h.kind (by rw [h.state]; exact nofun)]
      · rw [e]
        show (u.grant r [] ms).grants = []
        rw [State.grant_frame]
      · rw [hout, State.outlet_grant_ne hq, h.others q hq]

end Sys2Proof.Machine
end

section
/-! ADMIT and RESUME accepted (R4, R7, R9, R17, R54). -/

namespace Sys2Proof.Machine

variable {s u : State} {o : OutletId} {r : Session} {request : Request}

/-! ### The frame that welcomes -/

theorem State.statusFields_modifyLink (s : State) (o : OutletId) (f : ShipLink → ShipLink) :
    (s.modifyLink o f).statusFields o = { s.statusFields o with refusal := (f (s.outlet o).link).lastRefusal } := by
  simp only [State.statusFields, State.modifyLink, State.outlet_modify_self]

theorem State.link_startSending_congr (hl : (u.outlet o).link = (s.outlet o).link)
    (hf : u.statusFields o = s.statusFields o) :
    ((u.startSending o).outlet o).link = ((s.startSending o).outlet o).link := by
  simp only [State.startSending, hl, hf]
  split
  · split
    · exact hl
    · simp only [State.link_modifyLink, hl]
    · simp only [State.link_modifyLink, hl]
  · exact hl

/-- What the sending of a frame makes of a link reads the link and the fields of a SHORE_STATUS alone. -/
theorem State.link_send_congr (hl : (u.outlet o).link = (s.outlet o).link)
    (hf : u.statusFields o = s.statusFields o) (f : ShoreFrame) :
    ((u.send o f).outlet o).link = ((s.send o f).outlet o).link := by
  simp only [State.send, hl]
  split
  · refine State.link_startSending_congr ?_ ?_
    · simp only [State.link_modifyLink, hl]
    · simp only [State.statusFields_modifyLink, hl, hf]
  · exact hl

/-! ### The request of a session for its capacity -/

/-- The request that a session in ADMITTED makes (R10, R54). -/
def initialRequest (o : OutletId) (kW : Nat) : Request :=
  { outlet := o, kind := .initial, wanted := kW, wait := 300 * Config.ticksPerSecond }

/-- An outlet in ADMITTED with its link (R9, R17). -/
def Outlet.waiting (x : Outlet) (l : ShipLink) : Outlet :=
  { x with
    state := .admitted, phase := none, link := l, reference := x.reference.stop
    handover := { x.handover with overloadTimer := none } }

theorem State.ask_of_none (h : ∀ k ∈ s.grants, k.outlet ≠ o) (kW : Nat) :
    s.ask o .initial kW = { s with grants := s.grants ++ [initialRequest o kW] } :=
  if_neg (by rw [State.request_none h]; exact nofun)

/-- A session asks for its capacity, is welcomed and waits in ADMITTED (R9, R17). -/
theorem State.asks_spec {kW : Nat} (hr : (s.outlet o).session = some r) (hst : (s.outlet o).state ≠ .admitted)
    (hreq : ∀ k ∈ s.grants, k.outlet ≠ o) (hg : s.group o = []) (hl : (s.outlet o).limit = 0) :
    let u := ((s.ask o .initial kW).welcome o).enter o .admitted
    Asks s u (initialRequest o kW) ∧ u.common = s.common ∧
      u.outlet o =
        (s.outlet o).waiting ((s.send o (.welcome r.number r.profileNumber (s.outlet o).limit)).outlet o).link := by
  have hacts := ((s.actsAt_ask o .initial kW).trans (State.actsAt_welcome _ o)).trans (State.actsAt_enter _ o .admitted)
  rw [State.ask_of_none hreq] at hacts ⊢
  generalize hp : ({ s with grants := s.grants ++ [initialRequest o kW] } : State) = p at hacts ⊢
  have hpo : p.outlet o = s.outlet o := by rw [← hp]; rfl
  have hwel : p.welcome o = p.send o (.welcome r.number r.profileNumber (s.outlet o).limit) := by
    simp only [State.welcome, hpo, hr]
  have hlink := State.link_send_congr (s := s) (u := p) (o := o) (by rw [hpo]) (by simp only [State.statusFields, hpo])
    (.welcome r.number r.profileNumber (s.outlet o).limit)
  obtain ⟨l, hsend, _⟩ := p.send_spec o (.welcome r.number r.profileNumber (s.outlet o).limit)
  rw [hwel] at hacts ⊢
  rw [← hlink]
  rw [hsend] at hacts ⊢
  generalize hw : p.modifyLink o (fun _ => l) = w at hacts ⊢
  have hwo : w.outlet o = { s.outlet o with link := l } := by
    rw [← hw, State.modifyLink, State.outlet_modify_self, hpo]
  have hne : (w.outlet o).state ≠ .admitted := by rw [hwo]; exact hst
  have hout := State.outlet_enter_stopped (s := w) (o := o) hne rfl
  have hwm : w.modules = s.modules := by rw [← hw, ← hp]; rfl
  have hmod : (w.enter o .admitted).modules = s.modules := by
    refine Vector.ext fun i hi => ?_
    have := w.module_enter_stopped o .admitted rfl (fun m hm => absurd ((s.mem_group o m).2 ?_) (by simp [hg])) ⟨i, hi⟩
    · simpa [State.module, hwm] using this
    · simpa [State.module, hwm] using hm
  obtain ⟨hphase, _⟩ := State.common_fields hacts.common
  have hlimit : ((w.enter o .admitted).outlet o).limit = 0 := by rw [hout, hwo]; exact hl
  refine ⟨⟨rfl, hacts.outlets, congrArg Outlet.state hout, hlimit, hmod, ?_, ?_, hacts.budget, hphase⟩,
    hacts.common, ?_⟩
  · rw [State.grants_enter, ← hw, ← hp]
    rfl
  · rw [(w.enter_frame o .admitted).1, ← hw, ← hp]
    rfl
  · rw [hout, hwo]
    rfl

theorem Asks.answer (h : Asks s u request) (a : Reply) : Asks s (u.answer a) request :=
  ⟨h.kind, h.others, h.state, h.limit, h.modules, h.grants, h.gridLimit, h.budget, h.phase⟩

/-- What soundness gives of an outlet that is neither in ADMITTED nor supplied. -/
theorem State.spare_of_sound (hs : s.ready = true) (hsound : s.sound = true)
    (hst : (s.outlet o).state = .cabled ∨ (s.outlet o).state = .announced ∨ (s.outlet o).state = .tripped) :
    (s.outlet o).state ≠ .admitted ∧ (∀ k ∈ s.grants, k.outlet ≠ o) ∧ s.group o = [] ∧ (s.outlet o).limit = 0 := by
  obtain ⟨h1, h2, h3⟩ : (s.outlet o).state ≠ .admitted ∧ (s.outlet o).state.supplied = false ∧
      (s.outlet o).state.within .energising .deEnergising = false := by
    rcases hst with e | e | e <;> rw [e] <;> decide
  have hg := State.no_group_of_sound hsound h3
  exact ⟨h1, State.no_request_of_sound hsound h1 h2, hg,
    ((State.Standing.of_ready hs).outlets o).2.1.trans (State.newLimit_of_no_group hg)⟩

/-! ### ADMIT -/

theorem clampCapacity_eq (kW : Nat) : clampCapacity kW = if kW = 0 then 1 else min kW 60000 := by
  unfold clampCapacity clampNat
  split_ifs <;> omega

/-- An outlet whose session has just opened (R4, R9). -/
def Outlet.opened (x : Outlet) (r : Session) : Outlet :=
  { x with
    announcement := none, session := some r, interval := none, endCause := none
    meter := { x.meter with importAcc := 0, exportAcc := 0 } }

theorem State.openSession_spec {n kW : Nat} {v a : Option Text} (hs : s.ready = true) (hsound : s.sound = true)
    (hst : (s.outlet o).state = .cabled ∨ (s.outlet o).state = .announced) :
    let r := newSession (s.sessionCounter + 1) o ((s.outlet o).chosenVessel v) a n (s.profileAt n) kW s.stamp
    let u := s.openSession o n kW v a
    Asks s u (initialRequest o kW) ∧ u.common = { s.common with sessionCounter := s.sessionCounter + 1 } ∧
      u.outlet o = ((s.outlet o).opened r).waiting ((s.send o (.welcome r.number n 0)).outlet o).link := by
  obtain ⟨h1, hreq, hg, hl⟩ := State.spare_of_sound hs hsound (hst.elim .inl fun e => .inr (.inl e))
  intro r u
  generalize hp : ({ s with sessionCounter := s.sessionCounter + 1 } : State).modify o (·.opened r) = p
  have hpo : p.outlet o = (s.outlet o).opened r := by
    rw [← hp, State.outlet_modify_self]
    rfl
  have hu : u = ((p.ask o .initial kW).welcome o).enter o .admitted := by rw [← hp]; rfl
  have hlink := State.link_send_congr (s := s) (u := p) (o := o) (by rw [hpo]; rfl)
    (by simp only [State.statusFields, hpo]; rfl) (.welcome r.number n 0)
  obtain ⟨hasks, hcommon, hout⟩ := State.asks_spec (s := p) (o := o) (r := r) (kW := kW) (by rw [hpo]; rfl)
    (by rw [hpo]; exact h1) (by rw [← hp]; exact hreq) (by rw [← hp]; exact hg) (by rw [hpo]; exact hl)
  have hpl : (p.outlet o).limit = 0 := by rw [hpo]; exact hl
  rw [← hu] at hasks hcommon hout
  rw [hpl, show r.profileNumber = n from rfl, hlink, hpo] at hout
  refine ⟨⟨rfl, fun q hq => ?_, hasks.state, hasks.limit, ?_, ?_, ?_, ?_, ?_⟩, ?_, hout⟩
  · rw [hasks.others q hq, ← hp, State.outlet_modify_ne (o := o) _ _ hq]
    rfl
  · rw [hasks.modules, ← hp]; rfl
  · rw [hasks.grants, ← hp]; rfl
  · rw [hasks.gridLimit, ← hp]; rfl
  · rw [hasks.budget, ← hp]; rfl
  · rw [hasks.phase, ← hp]; rfl
  · rw [hcommon, ← hp]; rfl

theorem State.openSession_counter (s : State) (o : OutletId) (n kW : Nat) (v a : Option Text) :
    (s.openSession o n kW v a).sessionCounter = s.sessionCounter + 1 := by
  have counter (p : State) : (((p.ask o .initial kW).welcome o).enter o .admitted).sessionCounter =
      p.sessionCounter := by
    have h := congrArg State.sessionCounter (((p.actsAt_ask o .initial kW).trans (State.actsAt_welcome _ o)).trans
      (State.actsAt_enter _ o .admitted)).common
    exact h
  exact counter _

/-- The answer to an ADMIT that opens the session of a number, for a capacity asked and the one given (R8). -/
def admissionReply (number kW given : Nat) : Reply :=
  if given = kW then .ok "" [("SESSION_NUMBER", .number number)]
  else .clamped [("SESSION_NUMBER", .number number), ("ADMITTED_CAPACITY", .number given)]

theorem State.admitTo_accepted {p : Option Nat} {kW : Nat} {v a : Option Text}
    (hw : (s.outlet o).state = .cabled ∨ (s.outlet o).state = .announced) (hb : s.interlocksGood o = true)
    (hsuits : (s.outlet o).profileSuits (s.profileAt ((s.outlet o).chosenProfile p)) = true)
    (hn : s.sessionCounter < 4294967295) :
    s.admitTo o p kW v a = (s.openSession o ((s.outlet o).chosenProfile p) (clampCapacity kW) v a).answer
      (admissionReply (s.sessionCounter + 1) kW (clampCapacity kW)) := by
  obtain ⟨h1, h2⟩ := State.admitTo_waiting hw
  have reply (u : State) (given : Nat) (hu : u.sessionCounter = s.sessionCounter + 1) :
      u.okOr (given != kW) ([("SESSION_NUMBER", Value.number u.sessionCounter)] ++
        if given != kW then [("ADMITTED_CAPACITY", Value.number given)] else []) =
        u.answer (admissionReply (s.sessionCounter + 1) kW given) := by
    rw [hu, admissionReply, State.okOr]
    by_cases hg : given = kW
    · simp [hg]
    · simp [hg]
  exact (if_neg h1).trans ((if_neg h2).trans ((if_neg (by simp [hb])).trans ((if_neg (by simp [hsuits])).trans
    ((if_neg (Nat.not_le.2 hn)).trans (reply _ _ (s.openSession_counter o _ _ v a))))))

/-! ### What the end of the event leaves -/

/-- The end of an event at which a session has asked for its capacity: what stands of its outlet, waiting or started. -/
theorem Asked.outlet {t : State} {kW : Nat} {x : Outlet} {l : ShipLink} (h : Asked s u t (initialRequest o kW))
    (hu : u.outlet o = x.waiting l) :
    (t.outlet o).session = x.session ∧ (t.outlet o).announcement = x.announcement ∧ (t.outlet o).limit = x.limit ∧
      (t.outlet o).sb = x.sb ∧ (t.outlet o).pb = x.pb ∧ (t.outlet o).link = l ∧
      (((t.outlet o).state = .admitted ∧ t.grants = s.grants ++ [initialRequest o kW] ∧ t.modules = s.modules) ∨
        ((t.outlet o).state = .energising ∧ (t.outlet o).phase = some .prepare ∧ t.grants = [])) := by
  rcases h.outcome with ⟨e, hg, hm⟩ | ⟨e, hg⟩ 
  · replace e : t.outlet o = u.outlet o := e
    rw [e, hu]
    exact ⟨rfl, rfl, rfl, rfl, rfl, rfl, .inl ⟨rfl, hg, hm⟩⟩
  · replace e : t.outlet o = (u.outlet o).started := e
    rw [e, hu]
    exact ⟨rfl, rfl, rfl, rfl, rfl, rfl, .inr ⟨rfl, rfl, hg⟩⟩

/-- The common parts after a request that an order made: its reply and the session counter aside, as they were. -/
theorem Asked.common_answer {t : State} {a : Reply} {n : Nat} (h : Asked s (u.answer a) t request)
    (hc : u.common = { s.common with sessionCounter := n }) :
    t.sessionCounter = n ∧ t.terminal.reply = some a ∧
      t.common = { s.common with sessionCounter := n, terminal := t.terminal } ∧ t.follows s = true := by
  have hcommon : t.common = { u.common with terminal := (u.answer a).terminal } := h.common
  rw [hc] at hcommon
  have hterminal := congrArg State.terminal hcommon
  have hcounter := congrArg State.sessionCounter hcommon
  have hsettings := congrArg State.status hcommon
  replace hterminal : t.terminal = (u.answer a).terminal := hterminal
  exact ⟨hcounter, by rw [hterminal]; rfl, by rw [hcommon, hterminal], State.follows_iff.2 ⟨h.stated, hsettings⟩⟩

theorem State.orderResume_accepted (hst : (s.outlet o).state = .tripped) (hb : s.interlocksGood o = true) :
    s.orderResume (some o) = (s.resumeSession o).answer (.ok "" []) := by
  refine (if_neg (by rw [hst]; decide)).trans ((if_neg (by rw [hst]; exact nofun)).trans ((if_neg ?_).trans
    (if_neg (by simp [hb]))))
  exact fun hn => hn hst

end Sys2Proof.Machine

open Sys2Proof.Machine in
/-- Settles O14: the session opens or returns to ADMITTED with its request, and the end of the event leaves the request
waiting or grants it. -/
theorem admitAndResumeRequestCapacity : Obligations.AdmitAndResumeRequestCapacity := by
  refine ⟨fun s hs hsound hcount o _ hst hb p kW v a hp hv ha hsuits => ?_, fun s hs hsound o r hr hst hb => ?_⟩
  · intro n number given request
    obtain ⟨_, hreq, hg, hl⟩ := State.spare_of_sound hs hsound (hst.elim .inl fun e => .inr (.inl e))
    obtain ⟨hasks, hcommon, hout⟩ := State.openSession_spec (o := o) (n := n) (kW := given) (v := v) (a := a)
      hs hsound hst
    have hact := (State.orderAdmit_of_allowed hp hv ha kW).trans
      (State.admitTo_accepted (v := v) (a := a) (kW := kW) hst hb hsuits hcount)
    rw [clampCapacity_eq] at hact
    have h := (hasks.answer (admissionReply number kW given)).finish hs (State.queued_of_sound hsound)
      (State.freeApart_of_sound hsound) hg hreq
    obtain ⟨hsession, hann, hlimit, hsb, hpb, hlink, hends⟩ := h.outlet hout
    obtain ⟨hnumber, hreply, hcom, hfollows⟩ := h.common_answer hcommon
    have hexec : exec (.admitVessel (some o) p kW v a) s = .next
        ((s.openSession o n given v a).answer (admissionReply number kW given)).finish := by
      rw [← hact]
      exact atEvent_of_running (s.ready_iff.1 hs).1
    exact ⟨_, hexec, hnumber, hsession, hann, hlimit.trans hl, hsb, hpb, hends, hlink, hreply, h.others, h.kept, hcom,
      hfollows⟩
  · intro request
    obtain ⟨hne, hreq, hg, hl⟩ := State.spare_of_sound hs hsound (.inr (.inr hst))
    obtain ⟨hasks, hcommon, hout⟩ := State.asks_spec (kW := r.admitted) hr hne hreq hg hl
    have hres : s.resumeSession o = ((s.ask o .initial r.admitted).welcome o).enter o .admitted := by
      simp only [State.resumeSession, State.admitted, hr]
    rw [← hres] at hasks hcommon hout
    have h := (hasks.answer (.ok "" [])).finish hs (State.queued_of_sound hsound) (State.freeApart_of_sound hsound)
      hg hreq
    obtain ⟨hsession, _, _, hsb, hpb, hlink, hends⟩ := h.outlet hout
    obtain ⟨_, hreply, hcom, hfollows⟩ := h.common_answer (n := s.sessionCounter) hcommon
    have hexec : exec (.resume (some o)) s = .next ((s.resumeSession o).answer (.ok "" [])).finish := by
      rw [← State.orderResume_accepted hst hb]
      exact atEvent_of_running (s.ready_iff.1 hs).1
    exact ⟨_, hexec, hreply, hsession.trans hr, hends, hlink, hsb, hpb, h.others, h.kept, hcom, hfollows⟩

end

section
/-! Every command completes, and the power-on state meets every invariant. -/

namespace Sys2Proof.Machine

/-- An ill-formed command names no event of the part (log entry 36). -/
theorem exec_notAnEvent {c : Instr} (hw : c.wellFormed = false) (s : State) : exec c s = .fault .notAnEvent := by
  cases c with
  | frameComplete o f => exact if_neg (by simpa [Instr.wellFormed] using hw)
  | tlCharacter ch => exact if_pos (by simpa [Instr.wellFormed] using hw)
  | moduleFault m code => exact if_pos (by simpa [Instr.wellFormed] using hw)
  | linkTestResult o returned => exact if_neg (by simpa [Instr.wellFormed] using hw)
  | _ => exact (Bool.false_ne_true hw.symm).elim

/-- A well-formed command answers a next state. -/
theorem exec_completes {c : Instr} (hw : c.wellFormed = true) (s : State) : ∃ t, exec c s = .next t := by
  by_cases hc : c.isPowerRow = true
  · cases c with
    | powerOn => exact ⟨_, rfl⟩
    | powerLoss => exact ⟨_, rfl⟩
    | rstAsserted => exact ⟨_, rfl⟩
    | rstReleased => exact ⟨_, rfl⟩
    | startUpComplete => exact ⟨_, rfl⟩
    | _ => exact (Bool.false_ne_true hc).elim
  by_cases hr : c.isReceiverRow = true
  · obtain ⟨act, _, e, _⟩ := exec_atReceiver c s hr hw
    exact e ▸ atReceiver_next act s
  · obtain ⟨act, e, _⟩ := exec_atEvent c s (by simpa using hc) (by simpa using hr) hw
    exact e ▸ atEvent_next act s

/-- A part that does not run ignores a well-formed command other than those of supply, RST# and start-up, and, in
start-up, those of the receivers (log entry 6). -/
theorem exec_of_stopped {c : Instr} {s : State} (hp : s.phase ≠ .running) (hc : c.isPowerRow = false)
    (hw : c.wellFormed = true) (hr : s.phase = .startingUp → c.isReceiverRow = false) : exec c s = .next s := by
  by_cases h : c.isReceiverRow = true
  · obtain ⟨act, _, e, _⟩ := exec_atReceiver c s h hw
    rw [e, atReceiver_of_stopped hp fun hs => Bool.false_ne_true ((hr hs).symm.trans h)]
  · obtain ⟨act, e, _⟩ := exec_atEvent c s hc (by simpa using h) hw
    rw [e, atEvent_of_ne hp]

/-- The rows of an outlet's receiver take what arrives at its link alone, where the outlet is unplugged and the link
DOWN in start-up (R130). -/
theorem exec_receiver_takes {s : State} {o : OutletId} (hp : s.phase = .startingUp)
    (hplug : (s.outlet o).interlocks.plug = false) (hup : (s.outlet o).link.up = false) (ch : Received) (f : RawFrame)
    {c : Instr} (hc : c ∈ [Instr.shipCharacter o ch, .frameGapTimeout o, .lineBreak o, .frameComplete o f])
    (hw : c.wellFormed = true) : ∃ t, exec c s = .next t ∧ Takes o s t := by
  simp only [List.mem_cons, List.not_mem_nil, or_false] at hc
  rcases hc with rfl | rfl | rfl | rfl
  · exact ⟨_, atReceiver_of_startingUp hp, .whenConnected (.takeCharacter hplug ch)⟩
  · refine ⟨_, atReceiver_of_startingUp hp, ?_⟩
    simp only [hp, ↓reduceIte]
    exact .ite (fun _ => .of_modifyLink s o _ rfl) fun _ => .refl o s
  · refine ⟨_, atReceiver_of_startingUp hp, .whenConnected ?_⟩
    have h : Takes o s (s.modifyLink o fun l => { l with
        assembling := none, gapTimer := none, counts := { l.counts with breaks := count16 l.counts.breaks } }) :=
      .of_modifyLink s o _ rfl
    exact h.trans (.linkDown (by rw [State.link_modifyLink]; exact hup) _)
  · exact ⟨_, (if_pos hw).trans (atReceiver_of_startingUp hp), .whenConnected (.completeFrame hplug f)⟩

end Sys2Proof.Machine

open Sys2Proof.Machine in
/-- Settles O2: the rows of supply act by themselves, every other well-formed command is an event or a row of the
receiver. -/
theorem commandsComplete : Obligations.CommandsComplete := by
  refine ⟨fun c s => ⟨fun hw => exec_completes hw s, fun hw => exec_notAnEvent hw s⟩,
    fun c s hp hc hw hr => exec_of_stopped hp hc hw hr, fun s hp hrest o ch f c hc hw => ?_⟩
  have ho := (State.outlet_of_atRest hp hrest o).1
  obtain ⟨t, e, h⟩ := exec_receiver_takes hp (congrArg (·.interlocks.plug) ho) (congrArg (·.link.up) ho) ch f hc hw
  obtain ⟨_, ht⟩ := h.atRest hp hrest
  obtain ⟨l, rfl, hl⟩ := h
  refine ⟨_, e, by rw [State.link_modifyLink], ht, ?_, ?_⟩
  · rw [State.link_modifyLink]
    exact (congrArg ShipLink.up hl).trans (congrArg (·.link.up) ho)
  · rw [State.link_modifyLink]
    exact (congrArg ShipLink.fifo hl).trans (congrArg (·.link.fifo) ho)

open Sys2Proof.Machine in
/-- Settles O4: each invariant evaluates to true at the power-on state, and start-up settles a part at rest. -/
theorem resetMeetsInvariants : Obligations.ResetMeetsInvariants := by
  have hrest : State.reset.atRest = true := by decide +kernel
  obtain ⟨hrun, hsettled⟩ := State.startUp_settled (by decide) hrest
  exact ⟨by decide +kernel, by decide +kernel, by decide +kernel, by decide +kernel, by decide +kernel,
    by decide +kernel, by decide +kernel, rfl, State.ready_iff _ |>.2 ⟨hrun, hsettled⟩⟩

end

section
/-! What the protective rules read of the part: the core of an outlet, of a module and of a request, and the operations
that leave every core as it was. -/

namespace Sys2Proof.Machine

/-! ### Cores -/

/-- The figures of an outlet that the protective rules read: of a timer, whether it runs. -/
structure OutletCore where
  state : OutletState
  phase : Option EnergisePhase
  closeWanted : Bool
  interlocks : Interlocks
  sb : ShoreBreaker
  pb : ParallelBreaker
  check : CheckState
  feedback : Bool
  parallel : Bool
  overload : Bool
  admitted : Nat

/-- A timer as running or stopped, its time aside. -/
def Timer.mark (t : Timer) : Timer := t.map fun _ => 0

def ShoreBreaker.marked (b : ShoreBreaker) : ShoreBreaker :=
  { b with closeTimer := Timer.mark b.closeTimer, openTimer := Timer.mark b.openTimer }

def ParallelBreaker.marked (b : ParallelBreaker) : ParallelBreaker :=
  { b with closeTimer := Timer.mark b.closeTimer, tripTimer := Timer.mark b.tripTimer }

/-- The admitted capacity of the session, 0 without one. -/
def Outlet.admitted (x : Outlet) : Nat :=
  match x.session with
  | none => 0
  | some r => r.admitted

def Outlet.core (x : Outlet) : OutletCore where
  state := x.state
  phase := x.phase
  closeWanted := x.closeWanted
  interlocks := x.interlocks
  sb := x.sb.marked
  pb := x.pb.marked
  check := x.check.state
  feedback := x.check.feedbackTimer.isSome
  parallel := x.handover.parallelTimer.isSome
  overload := x.handover.overloadTimer.isSome
  admitted := x.admitted

/-- The figures of a module that the protective rules read. -/
structure ModuleCore where
  state : ModuleState
  rating : Nat
  group : Option OutletId
  releasePending : Bool
  rest : Bool
  precharge : Bool
  selfTest : Bool
  drain : Bool

def Module.core (m : Module) : ModuleCore where
  state := m.state
  rating := m.rating
  group := m.group
  releasePending := m.releasePending
  rest := m.rest.isSome
  precharge := m.precharge.isSome
  selfTest := m.selfTest.isSome
  drain := m.drain.isSome

/-- A request, its wait aside. -/
def Request.core (r : Request) : Request := { r with wait := 0 }

theorem State.admitted_eq (s : State) (o : OutletId) : s.admitted o = (s.outlet o).admitted := rfl

theorem Timer.mark_elapse (t : Timer) (n : Nat) : Timer.mark (Timer.elapse n t) = Timer.mark t := by
  cases t <;> rfl

theorem ShoreBreaker.wellFormed_marked (b : ShoreBreaker) : b.marked.wellFormed = b.wellFormed := by
  simp [ShoreBreaker.wellFormed, ShoreBreaker.marked, Timer.mark]

theorem ParallelBreaker.wellFormed_marked (b : ParallelBreaker) : b.marked.wellFormed = b.wellFormed := by
  simp [ParallelBreaker.wellFormed, ParallelBreaker.marked, Timer.mark]

theorem Outlet.core_elapse (x : Outlet) (n : Nat) : (x.elapse n).core = x.core := by
  simp [Outlet.core, Outlet.elapse, ShoreBreaker.marked, ParallelBreaker.marked, Timer.mark_elapse, Timer.isSome_elapse,
    Outlet.admitted]

theorem Module.core_elapse (m : Module) (n : Nat) : (m.elapse n).core = m.core := by
  simp [Module.core, Module.elapse, Timer.isSome_elapse]

/-! ### Acts that leave the cores -/

/-- Between `s` and `t` nothing has moved that the protective rules read. -/
structure Inert (s t : State) : Prop where
  outlet : ∀ o, (t.outlet o).core = (s.outlet o).core
  estop : t.estopAllMade = s.estopAllMade
  module : ∀ m, (t.module m).core = (s.module m).core
  grants : t.grants.map Request.core = s.grants.map Request.core

theorem Inert.refl (s : State) : Inert s s := ⟨fun _ => rfl, rfl, fun _ => rfl, rfl⟩

theorem Inert.trans {s t u : State} (h : Inert s t) (k : Inert t u) : Inert s u :=
  ⟨fun o => (k.outlet o).trans (h.outlet o), k.estop.trans h.estop, fun m => (k.module m).trans (h.module m),
    k.grants.trans h.grants⟩

theorem Inert.ite {s a b : State} {c : Prop} [Decidable c] (h : c → Inert s a) (k : ¬c → Inert s b) :
    Inert s (if c then a else b) := by
  split
  · next e => exact h e
  · next e => exact k e

theorem Inert.foldl {α : Type} {f : State → α → State} (h : ∀ s a, Inert s (f s a)) (xs : List α) (s : State) :
    Inert s (xs.foldl f s) := by
  induction xs generalizing s with
  | nil => exact .refl s
  | cons x xs ih => exact (h s x).trans (ih _)

/-- An act on the common parts alone. -/
theorem Inert.of_same {s t : State} (ho : t.outlets = s.outlets) (he : t.estopAllMade = s.estopAllMade)
    (hm : t.modules = s.modules) (hg : t.grants = s.grants) : Inert s t :=
  ⟨fun o => by simp only [State.outlet, ho], he, fun m => by simp only [State.module, hm], by rw [hg]⟩

theorem State.inert_modify (s : State) (o : OutletId) (f : Outlet → Outlet)
    (h : (f (s.outlet o)).core = (s.outlet o).core) : Inert s (s.modify o f) := by
  refine ⟨fun q => ?_, rfl, fun _ => rfl, rfl⟩
  by_cases hq : q = o
  · subst hq; rw [State.outlet_modify_self, h]
  · rw [State.outlet_modify_ne _ _ hq]

theorem State.inert_modifyLink (s : State) (o : OutletId) (f : ShipLink → ShipLink) : Inert s (s.modifyLink o f) :=
  s.inert_modify o _ rfl

theorem State.inert_modifyRef (s : State) (o : OutletId) (f : Reference → Reference) : Inert s (s.modifyRef o f) :=
  s.inert_modify o _ rfl

/-- An update of the session that leaves its admitted capacity. -/
theorem Outlet.core_of_session {x y : Outlet} {f : Session → Session} (hs : y.session = x.session.map f)
    (h : ∀ r, (f r).admitted = r.admitted) (hc : ({ y with session := x.session } : Outlet).core = x.core) :
    y.core = x.core := by
  have ha : y.admitted = ({ y with session := x.session } : Outlet).admitted := by
    simp only [Outlet.admitted, hs]
    cases x.session with
    | none => rfl
    | some r => exact h r
  rw [← hc]
  simp only [Outlet.core, ha]

theorem State.inert_modifySession (s : State) (o : OutletId) (f : Session → Session)
    (h : ∀ r, (f r).admitted = r.admitted) : Inert s (s.modifySession o f) :=
  s.inert_modify o _ (Outlet.core_of_session rfl h rfl)

theorem State.inert_modifyModule (s : State) (m : Fin 8) (f : Module → Module)
    (h : (f (s.module m)).core = (s.module m).core) : Inert s (s.modifyModule m f) := by
  refine ⟨fun _ => rfl, rfl, fun k => ?_, rfl⟩
  by_cases hk : k = m
  · subst hk; rw [State.module_modifyModule_self, h]
  · rw [State.module_modifyModule_ne _ _ hk]

theorem State.inert_modifyModules (s : State) (ms : List (Fin 8)) (f : Module → Module)
    (h : ∀ m, (f m).core = m.core) : Inert s (s.modifyModules ms f) :=
  .foldl (fun u m => u.inert_modifyModule m f (h _)) ms s

theorem State.inert_elapse (s : State) (n : Nat) : Inert s (s.elapse n) := by
  refine ⟨fun o => by rw [State.elapse_outlet, Outlet.core_elapse], rfl,
    fun m => by rw [State.elapse_module, Module.core_elapse], ?_⟩
  simp only [State.elapse, List.map_map]
  rfl

/-! ### The status unit, the replies and the transmit queue -/

theorem State.inert_raiseAt (s : State) (o : OutletId) (x : Item) : Inert s (s.raiseAt o x) := .of_same rfl rfl rfl rfl

theorem State.inert_raiseSome (s : State) (o : OutletId) (x : Option Item) : Inert s (s.raiseSome o x) := by
  cases x with
  | none => exact .refl s
  | some x => exact s.inert_raiseAt o x

theorem State.inert_reportAll (s : State) : Inert s s.reportAll := by
  obtain ⟨e, _⟩ := s.reportAll_spec
  generalize s.reportAll.status = u at e
  rw [e]
  exact .of_same rfl rfl rfl rfl

theorem State.inert_answer (s : State) (r : Reply) : Inert s (s.answer r) := .of_same rfl rfl rfl rfl

theorem State.inert_pushError (s : State) (code : Nat) (text : String) : Inert s (s.pushError code text) :=
  .of_same rfl rfl rfl rfl

theorem State.inert_refuse (s : State) (code : Nat) (text : String) : Inert s (s.refuse code text) :=
  .of_same rfl rfl rfl rfl

theorem State.inert_no (s : State) (code : Nat) : Inert s (s.no code) := s.inert_refuse code _

theorem State.inert_send (s : State) (o : OutletId) (f : ShoreFrame) : Inert s (s.send o f) := by
  obtain ⟨l, e, _⟩ := s.send_spec o f
  rw [e]; exact s.inert_modifyLink o _

theorem State.inert_sendStatus (s : State) (o : OutletId) : Inert s (s.sendStatus o) := by
  obtain ⟨l, e, _⟩ := s.sendStatus_spec o
  rw [e]; exact s.inert_modifyLink o _

theorem State.inert_sendRefuse (s : State) (o : OutletId) (type : Byte) (cause : RefuseCause) :
    Inert s (s.sendRefuse o type cause) := by
  obtain ⟨l, e, _⟩ := s.sendRefuse_spec o type cause
  rw [e]; exact s.inert_modifyLink o _

theorem State.inert_startSending (s : State) (o : OutletId) : Inert s (s.startSending o) := by
  obtain ⟨l, e, _⟩ := s.startSending_spec o
  rw [e]; exact s.inert_modifyLink o _

theorem State.inert_welcome (s : State) (o : OutletId) : Inert s (s.welcome o) := by
  unfold State.welcome
  split
  · exact .refl s
  · exact s.inert_send o _

theorem State.inert_tripNotice (s : State) (o : OutletId) (cause : TripCause) : Inert s (s.tripNotice o cause) :=
  Inert.trans (s.inert_modifySession o (·.countTrip cause) fun _ => rfl) (State.inert_send _ o _)

/-! ### Shares and limits -/

theorem State.inert_shareOut (remainder n : Nat) (ms : List (Fin 8)) (i : Nat) (s : State) :
    Inert s (s.shareOut remainder n ms i) := by
  induction ms generalizing s i with
  | nil => exact .refl s
  | cons m ms ih => exact (s.inert_modifyModule m _ rfl).trans (ih _ _)

theorem State.inert_computeShares (s : State) (o : OutletId) : Inert s (s.computeShares o) := by
  simp only [State.computeShares]
  exact .ite (fun _ => .foldl (fun u m => u.inert_modifyModule m _ rfl) _ s) fun _ => s.inert_shareOut _ _ _ _

theorem State.inert_recomputeLimit (s : State) (o : OutletId) : Inert s (s.recomputeLimit o) := by
  simp only [State.recomputeLimit]
  have h (n : Nat) : Inert s (s.modify o fun x => { x with limit := n, reference := x.reference.clampTo n }) :=
    s.inert_modify o _ rfl
  exact .ite (fun _ => .refl s) fun _ => .ite (fun _ => (h _).trans (State.inert_send _ o _)) fun _ => h _

theorem State.inert_recomputeLimits (s : State) : Inert s s.recomputeLimits :=
  ((s.inert_recomputeLimit .a).trans (State.inert_recomputeLimit _ .b)).trans (State.inert_recomputeLimit _ .c)

theorem State.inert_settleBudget (s : State) : Inert s s.settleBudget := by
  simp only [State.settleBudget]
  refine .ite (fun _ => .trans ?_ (State.inert_recomputeLimits _)) fun _ => .of_same rfl rfl rfl rfl
  exact .of_same rfl rfl rfl rfl

/-! ### The receiver, the frames and the control step -/

theorem State.inert_takeLinkUp (s : State) (o : OutletId) : Inert s (s.takeLinkUp o) := by
  unfold State.takeLinkUp
  exact .ite (fun _ => (s.inert_modify o _ rfl).trans (State.inert_send _ o _)) fun _ => .refl s

theorem State.inert_linkUp (s : State) (o : OutletId) : Inert s (s.linkUp o) := by
  simp only [State.linkUp]
  exact ((s.inert_modifyLink o _).trans (State.inert_sendStatus _ o)).trans (State.inert_takeLinkUp _ o)

theorem State.inert_refuseFormat (s : State) (o : OutletId) (type : Byte) (cause : RefuseCause) :
    Inert s (s.refuseFormat o type cause) :=
  (s.inert_sendRefuse o type cause).trans (State.inert_modifyLink _ o _)

theorem State.inert_sortFrame (s : State) (o : OutletId) (f : RawFrame) : Inert s (s.sortFrame o f) := by
  unfold State.sortFrame
  split
  · exact s.inert_refuseFormat o _ _
  · exact .ite (fun _ => s.inert_modifyLink o _) fun _ => s.inert_refuseFormat o _ _

theorem State.inert_validFrame (s : State) (o : OutletId) (f : RawFrame) : Inert s (s.validFrame o f) := by
  simp only [State.validFrame]
  refine (s.inert_modifyLink o _).trans (.ite (fun _ => ?_) fun _ => .refl _)
  refine Inert.trans ?_ (.trans (.ite (fun _ => .refl _) fun _ => State.inert_linkUp _ o) (State.inert_sortFrame _ o f))
  exact State.inert_modify _ o _ rfl

theorem State.inert_completeFrame (s : State) (o : OutletId) (f : RawFrame) : Inert s (s.completeFrame o f) := by
  simp only [State.completeFrame]
  exact (s.inert_modifyLink o _).trans (.ite (fun _ => State.inert_validFrame _ o f)
    fun _ => State.inert_modifyLink _ o _)

theorem State.inert_takeByte (s : State) (o : OutletId) (b : Byte) : Inert s (s.takeByte o b) := by
  unfold State.takeByte
  split
  · exact .ite (fun _ => s.inert_modifyLink o _) fun _ => s.inert_modifyLink o _
  · exact .ite (fun _ => s.inert_modifyLink o _) fun _ => s.inert_modifyLink o _
  · exact .ite (fun _ => s.inert_completeFrame o _) fun _ => s.inert_modifyLink o _

theorem State.inert_takeCharacter (s : State) (o : OutletId) (ch : Received) : Inert s (s.takeCharacter o ch) := by
  unfold State.takeCharacter
  exact .ite (fun _ => s.inert_modifyLink o _) fun _ => s.inert_takeByte o _

theorem State.inert_takeStatus (s : State) (o : OutletId) (payload : List Byte) : Inert s (s.takeStatus o payload) := by
  unfold State.takeStatus
  split
  · exact .refl s
  · exact s.inert_modify o _ rfl

theorem State.inert_controlOutlet (s : State) (o : OutletId) : Inert s (s.controlOutlet o) := by
  simp only [State.controlOutlet]
  split
  · exact .refl s
  · refine .ite (fun _ => .refl s) fun _ => Inert.trans ?_
      ((State.inert_modifyModules _ _ Module.drainStep fun _ => rfl).trans (State.inert_computeShares _ o))
    exact s.inert_modify o _ rfl

theorem State.inert_mapModules (s : State) (f : Module → Module) (h : ∀ m, (f m).core = m.core) :
    Inert s { s with modules := s.modules.map f } :=
  ⟨fun _ => rfl, rfl, fun m => by simp [State.module, h], rfl⟩

theorem State.inert_controlStep (s : State) : Inert s s.controlStep :=
  (((s.inert_controlOutlet .a).trans (State.inert_controlOutlet _ .b)).trans (State.inert_controlOutlet _ .c)).trans
    (State.inert_mapModules _ _ fun _ => rfl)

/-! ### Metering -/

theorem State.inert_handInterval (s : State) (o : OutletId) (f : IntervalFigures) : Inert s (s.handInterval o f) := by
  unfold State.handInterval
  split
  · exact .refl s
  · refine .ite (fun _ => Inert.trans ?_ (State.inert_modifySession _ o _ fun _ => rfl))
      fun _ => s.inert_modifySession o _ fun _ => rfl
    exact .of_same rfl rfl rfl rfl

theorem State.inert_closeInterval (s : State) (more : List IntervalFlag) (o : OutletId) :
    Inert s (s.closeInterval more o) := by
  unfold State.closeInterval
  split
  · exact .refl s
  · exact Inert.trans (s.inert_modify o _ (Outlet.core_of_session (f := (·.bill s.tariff _)) rfl (fun _ => rfl) rfl)) (State.inert_handInterval _ o _)

theorem State.inert_openInterval (s : State) (o : OutletId) : Inert s (s.openInterval o) := s.inert_modify o _ rfl

theorem State.inert_switchTariff (s : State) : Inert s s.switchTariff := by
  unfold State.switchTariff
  split
  · exact .refl s
  · exact .ite (fun _ => .of_same rfl rfl rfl rfl) fun _ => .refl s

theorem State.inert_completeIntervals (s : State) : Inert s s.completeIntervals := by
  unfold State.completeIntervals
  split
  · exact .ite (fun _ => (Inert.foldl (fun u o => u.inert_closeInterval _ o) _ s).trans (State.inert_switchTariff _))
      fun _ => .refl s
  · exact .foldl (fun u o => u.inert_closeInterval _ o) _ s

theorem Outlet.core_meterTick (x : Outlet) (band : Nat) : (x.meterTick band).core = x.core := by
  unfold Outlet.meterTick
  split
  · dsimp only
    split
    · exact Outlet.core_of_session rfl (fun _ => rfl) rfl
    · split
      · exact Outlet.core_of_session rfl (fun _ => rfl) rfl
      · rfl
  · rfl

theorem State.inert_meterTick (s : State) : Inert s s.meterTick := by
  simp only [State.meterTick]
  refine Inert.trans (Inert.trans (Inert.trans (Inert.trans ?_ (.foldl (fun u o => ?_) _ _)) (.foldl (fun u o => ?_) _ _))
    (State.inert_completeIntervals _)) (.foldl (fun u o => u.inert_openInterval o) _ _)
  · exact .of_same rfl rfl rfl rfl
  · exact u.inert_modify o _ (Outlet.core_meterTick _ _)
  · exact u.inert_modify o _ rfl

theorem State.inert_orderTime (s : State) (y m d h i j : Nat) : Inert s (s.orderTime y m d h i j) := by
  simp only [State.orderTime]
  refine .ite (fun _ => Inert.trans ?_ (State.inert_answer _ _)) fun _ => s.inert_no _
  simp only [State.setClock]
  refine Inert.trans (Inert.trans (Inert.trans ?_ (.foldl (fun u o => u.inert_closeInterval _ o) _ _))
    (State.inert_switchTariff _)) (.foldl (fun u o => u.inert_openInterval o) _ _)
  exact .of_same rfl rfl rfl rfl

end Sys2Proof.Machine
end

section
/-! The protective rules of one outlet: its breakers, the check and the handover's timers, and what each request and
report does to them. -/

namespace Sys2Proof.Machine

/-! ### The breakers of an outlet -/

/-- Every input of an outlet is made, ESTOP_ALL's level given (R28, R31). -/
def Interlocks.made (i : Interlocks) (estopAll : Bool) : Bool := i.plug && i.pilot && i.earth && i.estop && estopAll

theorem State.blocking_isNone (s : State) (o : OutletId) :
    (s.blocking o).isNone = (s.outlet o).interlocks.made s.estopAllMade := by
  rw [Bool.eq_iff_iff, Option.isNone_iff_eq_none, State.blocking_none]
  simp [Interlocks.made, and_assoc]

/-- The breakers of an outlet stand as the tables of sections 2.3 and 2.4 have them: no close command and no close
pulse under the lock, and no close pulse unless the SB is closed. `q` is what a close pulse answers to. -/
structure Wired (free : Bool) (q : Prop) (sb : ShoreBreaker) (pb : ParallelBreaker) : Prop where
  sbForm : sb.wellFormed = true
  pbForm : pb.wellFormed = true
  command : sb.channel = .closing ∨ sb.channel = .closed → free = true
  pulse : pb.channel = .closePulse → free = true ∧ sb.channel = .closed ∧ q

section
variable {free free' : Bool} {q : Prop} {sb : ShoreBreaker} {pb : ParallelBreaker}

/-- Breakers with neither a close command nor a close pulse stand under the lock too. -/
theorem Wired.of_open (hsb : sb.wellFormed = true) (hpb : pb.wellFormed = true) (h1 : sb.channel ≠ .closing)
    (h2 : sb.channel ≠ .closed) (h3 : pb.channel ≠ .closePulse) : Wired free q sb pb :=
  ⟨hsb, hpb, fun h => (h.elim h1 h2).elim, fun h => (h3 h).elim⟩

theorem Wired.unpulsed (h : Wired free q sb pb) (hc : sb.channel ≠ .closed) : pb.channel ≠ .closePulse :=
  fun hp => hc (h.pulse hp).2.1

/-- Another PB under the same SB, without a close pulse. -/
theorem Wired.withPb {pb' : ParallelBreaker} (h : Wired free q sb pb) (hw : pb'.wellFormed = true)
    (hc : pb'.channel ≠ .closePulse) : Wired free q sb pb' :=
  ⟨h.sbForm, hw, h.command, fun k => (hc k).elim⟩

theorem Wired.requestTrip (h : Wired free q sb pb) : Wired free q sb pb.requestTrip :=
  h.withPb (ParallelBreaker.wellFormed_requestTrip h.pbForm) (by rw [ParallelBreaker.requestTrip_channel]; nofun)

/-- An SB open request leaves neither a close command nor a close pulse (R35, R38). -/
theorem Wired.askOpen (h : Wired free q sb pb) :
    Wired free' q sb.requestOpen (if sb.channel = .closed then pb.cancelClose else pb) := by
  obtain ⟨h1, h2⟩ := sb.requestOpen_channel
  refine .of_open (ShoreBreaker.wellFormed_requestOpen h.sbForm) ?_ h1 h2 ?_
  · split
    · exact ParallelBreaker.wellFormed_cancelClose h.pbForm
    · exact h.pbForm
  · split
    · exact ParallelBreaker.cancelClose_channel pb
    · next hc => exact h.unpulsed hc

end

/-! ### The rules of an outlet -/

/-- What the protective rules keep at an outlet, but for the breakers of the transfer states. An SB close command
answers to `p` or to phase CLOSING (R11, R12), a close pulse to `q`. -/
structure Outlet.Guarded (estopAll : Bool) (p q : Prop) (x : Outlet) : Prop where
  wired : Wired (x.interlocks.made estopAll) q x.sb x.pb
  wanted : x.closeWanted = true →
    x.state = .energising ∧ x.phase = some .closing ∧ (x.sb.channel = .opening ∨ x.sb.channel = .stuck)
  closing : x.sb.channel = .closing → p ∨ x.state = .energising ∧ x.phase = some .closing
  check : x.check.state = .inactive ∨ x.state = .synchronising
  feedback : x.check.feedbackTimer = none ∨ x.check.state = .closing
  parallel : x.handover.parallelTimer = none ∨ x.state = .transferIn ∨ x.state = .transferOut
  overload : x.handover.overloadTimer = none ∨ x.state.isTransfer = true

/-- In the transfer states both breakers report closed with no pulse in progress (R132). -/
def Outlet.Seated (x : Outlet) : Prop :=
  x.state.isTransfer = true →
    x.sb.channel = .closed ∧ x.sb.feedback = true ∧ x.pb.channel = .idle ∧ x.pb.feedback = true

theorem Outlet.seated_of_not {x : Outlet} (h : x.state.isTransfer = false) : x.Seated :=
  fun k => absurd k (by simp [h])

variable {e : Bool} {p q : Prop} {x y : Outlet}

theorem ShoreBreaker.of_marked {b b' : ShoreBreaker} (h : b'.marked = b.marked) :
    b'.channel = b.channel ∧ b'.feedback = b.feedback := by
  simp only [ShoreBreaker.marked, ShoreBreaker.mk.injEq] at h
  exact ⟨h.2.1, h.1⟩

theorem ParallelBreaker.of_marked {b b' : ParallelBreaker} (h : b'.marked = b.marked) :
    b'.channel = b.channel ∧ b'.feedback = b.feedback := by
  simp only [ParallelBreaker.marked, ParallelBreaker.mk.injEq] at h
  exact ⟨h.2.1, h.1⟩

theorem Wired.congr {free : Bool} {sb sb' : ShoreBreaker} {pb pb' : ParallelBreaker} (h : Wired free q sb pb)
    (hs : sb'.marked = sb.marked) (hp : pb'.marked = pb.marked) : Wired free q sb' pb' := by
  have hsc := (ShoreBreaker.of_marked hs).1
  have hpc := (ParallelBreaker.of_marked hp).1
  refine ⟨?_, ?_, by rw [hsc]; exact h.command, by rw [hsc, hpc]; exact h.pulse⟩
  · rw [← ShoreBreaker.wellFormed_marked, hs, ShoreBreaker.wellFormed_marked]
    exact h.sbForm
  · rw [← ParallelBreaker.wellFormed_marked, hp, ParallelBreaker.wellFormed_marked]
    exact h.pbForm

theorem Option.eq_none_congr {α β : Type} {a : Option α} {b : Option β} (h : a.isSome = b.isSome) (hb : b = none) :
    a = none := by
  subst hb
  exact Option.isNone_iff_eq_none.1 (by simpa using h)

/-- The rules read the core alone. -/
theorem Outlet.Guarded.congr (hx : x.Guarded e p q) (h : y.core = x.core) : y.Guarded e p q := by
  simp only [Outlet.core, OutletCore.mk.injEq] at h
  obtain ⟨hst, hph, hcw, hil, hsb, hpb, hck, hfb, hpar, hov, _⟩ := h
  have hsc := (ShoreBreaker.of_marked hsb).1
  refine ⟨by rw [hil]; exact hx.wired.congr hsb hpb, by rw [hcw, hst, hph, hsc]; exact hx.wanted,
    by rw [hst, hph, hsc]; exact hx.closing, by rw [hck, hst]; exact hx.check, ?_, ?_, ?_⟩
  · rw [hck]; exact hx.feedback.imp_left (Option.eq_none_congr hfb)
  · rw [hst]; exact hx.parallel.imp_left (Option.eq_none_congr hpar)
  · rw [hst]; exact hx.overload.imp_left (Option.eq_none_congr hov)

theorem Outlet.Seated.congr (hx : x.Seated) (h : y.core = x.core) : y.Seated := by
  simp only [Outlet.core, OutletCore.mk.injEq] at h
  obtain ⟨hst, _, _, _, hsb, hpb, _⟩ := h
  obtain ⟨hsc, hsf⟩ := ShoreBreaker.of_marked hsb
  obtain ⟨hpc, hpf⟩ := ParallelBreaker.of_marked hpb
  unfold Outlet.Seated
  rw [hst, hsc, hsf, hpc, hpf]
  exact hx

/-! ### What the rules say by state -/

theorem Outlet.Guarded.unwanted (hx : x.Guarded e p q)
    (h : ¬(x.state = .energising ∧ x.phase = some .closing) ∨ (x.sb.channel ≠ .opening ∧ x.sb.channel ≠ .stuck)) :
    x.closeWanted = false := by
  by_contra hw
  obtain ⟨h1, h2, h3⟩ := hx.wanted (by simpa using hw)
  exact h.elim (fun k => k ⟨h1, h2⟩) fun k => h3.elim k.1 k.2

theorem Outlet.Guarded.unchecked (hx : x.Guarded e p q) (h : x.state ≠ .synchronising) : x.check.state = .inactive :=
  hx.check.resolve_right h

theorem Outlet.Guarded.feedback_none (hx : x.Guarded e p q) (h : x.check.state ≠ .closing) :
    x.check.feedbackTimer = none := hx.feedback.resolve_right h

theorem Outlet.Guarded.parallel_none (hx : x.Guarded e p q) (h1 : x.state ≠ .transferIn) (h2 : x.state ≠ .transferOut) :
    x.handover.parallelTimer = none := hx.parallel.resolve_right (not_or.2 ⟨h1, h2⟩)

/-! ### Requests and other updates that keep the state -/

/-- An update of the breakers with neither a close request waiting nor a close command given. -/
theorem Outlet.Guarded.withBreakers (hx : x.Guarded e p q) {sb : ShoreBreaker} {pb : ParallelBreaker}
    (hw : Wired (x.interlocks.made e) q sb pb) (hc : x.closeWanted = true → sb.channel = .opening ∨ sb.channel = .stuck)
    (hn : sb.channel = .closing → x.sb.channel = .closing) : (x.withBreakers sb pb).Guarded e p q :=
  ⟨hw, fun k => ⟨(hx.wanted k).1, (hx.wanted k).2.1, hc k⟩, fun k => hx.closing (hn k), hx.check, hx.feedback,
    hx.parallel, hx.overload⟩

/-- Another PB without a close pulse. -/
theorem Outlet.Guarded.withPb (hx : x.Guarded e p q) {pb : ParallelBreaker} (hw : pb.wellFormed = true)
    (hc : pb.channel ≠ .closePulse) : ({ x with pb := pb } : Outlet).Guarded e p q :=
  hx.withBreakers (hx.wired.withPb hw hc) (fun k => (hx.wanted k).2.2) id

theorem Outlet.Guarded.requestTrip (hx : x.Guarded e p q) :
    ({ x with pb := x.pb.requestTrip } : Outlet).Guarded e p q :=
  hx.withBreakers hx.wired.requestTrip (fun k => (hx.wanted k).2.2) id

theorem ShoreBreaker.requestOpen_of_wanted {b : ShoreBreaker} (h : b.channel = .opening ∨ b.channel = .stuck) :
    b.requestOpen = b :=
  ShoreBreaker.requestOpen_of_left (by rcases h with h | h <;> rw [h] <;> nofun)
    (by rcases h with h | h <;> rw [h] <;> nofun)

theorem Outlet.Guarded.askSbOpen (hx : x.Guarded e p q) : x.askSbOpen.Guarded e p q :=
  hx.withBreakers hx.wired.askOpen
    (fun k => by
      have h := (hx.wanted k).2.2
      rwa [ShoreBreaker.requestOpen_of_wanted h])
    fun k => ((x.sb.requestOpen_channel).1 k).elim

theorem Outlet.Guarded.askBothOpen (hx : x.Guarded e p q) : x.askBothOpen.Guarded e p q := hx.askSbOpen.requestTrip

theorem Outlet.askSbOpen_channel (x : Outlet) : x.askSbOpen.sb.channel ≠ .closing ∧ x.askSbOpen.sb.channel ≠ .closed :=
  x.sb.requestOpen_channel

/-! ### Entries to a state -/

/-- An outlet at the entry to another state (R1, R67). -/
def Outlet.entered (x : Outlet) (st : OutletState) : Outlet :=
  { x with
    state := st, phase := none, reference := x.selectMode st
    handover := if st.within .transferIn .transferOut then x.handover
      else { x.handover with overloadTimer := none } }

theorem State.outlet_enter_cases (s : State) (o : OutletId) (st : OutletState) :
    (s.enter o st).outlet o = if (s.outlet o).state = st then s.outlet o else (s.outlet o).entered st := by
  split
  · next h => rw [State.enter, if_pos h]
  · next h => exact State.outlet_enter h

/-- What an outlet must be for an entry to a state to keep the rules. -/
structure Outlet.MayEnter (e : Bool) (p q : Prop) (st : OutletState) (x : Outlet) : Prop where
  wired : Wired (x.interlocks.made e) q x.sb x.pb
  unwanted : x.closeWanted = false
  closing : x.sb.channel = .closing → p
  check : x.check.state = .inactive ∨ st = .synchronising
  feedback : x.check.feedbackTimer = none ∨ x.check.state = .closing
  parallel : x.handover.parallelTimer = none ∨ st = .transferIn ∨ st = .transferOut
  overload : x.handover.overloadTimer = none ∨ x.state.isTransfer = true

/-- An outlet that keeps the rules may leave for any state, where no close command stands of phase CLOSING and its check
is not at work. -/
theorem Outlet.Guarded.mayEnter (hx : x.Guarded e p q) {st : OutletState}
    (hc : ¬(x.state = .energising ∧ x.phase = some .closing))
    (hs : x.state ≠ .synchronising) (hi : x.state ≠ .transferIn) (ho : x.state ≠ .transferOut) : x.MayEnter e p q st :=
  ⟨hx.wired, hx.unwanted (.inl hc), fun k => (hx.closing k).resolve_right hc, .inl (hx.unchecked hs), hx.feedback,
    .inl (hx.parallel_none hi ho), hx.overload⟩

theorem State.guarded_enter {s : State} {o : OutletId} {st : OutletState} (h : (s.outlet o).MayEnter e p q st) :
    ((s.enter o st).outlet o).Guarded e p q := by
  rw [State.outlet_enter_cases]
  split
  · next hst =>
    exact ⟨h.wired, fun k => absurd (h.unwanted.symm.trans k) (by decide), fun k => .inl (h.closing k),
      by rw [hst]; exact h.check, h.feedback, by rw [hst]; exact h.parallel, h.overload⟩
  · refine ⟨h.wired, fun k => absurd (h.unwanted.symm.trans k) (by decide), fun k => .inl (h.closing k), h.check,
      h.feedback, ?_, ?_⟩
    · simp only [Outlet.entered]
      split <;> exact h.parallel
    · cases hw : st.within .transferIn .transferOut
      · left; simp [Outlet.entered, hw]
      · right; exact hw

theorem State.seated_enter {s : State} {o : OutletId} {st : OutletState} (h : st.isTransfer = false) :
    ((s.enter o st).outlet o).Seated := by
  refine Outlet.seated_of_not ?_
  rw [(s.enter_frame o st).2.1, h]

/-- An outlet in a transfer state that goes on to another keeps its breakers (R138, R143). -/
theorem State.seated_enter_of {s : State} {o : OutletId} {st : OutletState}
    (h : (s.outlet o).sb.channel = .closed ∧ (s.outlet o).sb.feedback = true ∧ (s.outlet o).pb.channel = .idle ∧
      (s.outlet o).pb.feedback = true) : ((s.enter o st).outlet o).Seated := by
  intro _
  rw [(s.enter_frame o st).2.2.2.1]
  exact h

end Sys2Proof.Machine
end

section
/-! The protective rules of the whole part, and what an act at one outlet leaves of them elsewhere. -/

namespace Sys2Proof.Machine

/-! ### The pool's figures as sums over the modules -/

/-- What a module counts in the unmarked committed rating of an outlet (R53, R54). -/
def Module.carries (o : OutletId) (m : Module) : Nat :=
  if m.group = some o ∧ m.state ∈ committedStates ∧ m.releasePending = false then m.rating else 0

theorem sum_map_filter {α : Type} (c : α → Bool) (f : α → Nat) (xs : List α) :
    ((xs.filter c).map f).sum = (xs.map fun x => if c x then f x else 0).sum := by
  induction xs with
  | nil => rfl
  | cons x xs ih =>
    rw [List.filter_cons]
    split
    · next h => simp [h, ih]
    · next h => simp [h, ih]

theorem State.committedUnmarked_eq (s : State) (o : OutletId) :
    s.committedUnmarked o = (allModules.map fun m => (s.module m).carries o).sum := by
  simp only [State.committedUnmarked, State.ratings, State.members, State.group, List.filter_filter, sum_map_filter]
  congr 1
  refine List.map_congr_left fun m _ => ?_
  unfold Module.carries
  refine if_congr ?_ rfl rfl
  simp [and_left_comm, and_comm]

theorem State.hasMarks_iff (s : State) (o : OutletId) :
    s.hasMarks o = true ↔ ∃ m, (s.module m).group = some o ∧ (s.module m).releasePending = true := by
  simp [State.hasMarks, State.mem_group]

/-- The unmarked rating does not fall where no module counts less. -/
theorem State.committedUnmarked_le {s t : State} {o : OutletId}
    (h : ∀ m, (s.module m).carries o ≤ (t.module m).carries o) : s.committedUnmarked o ≤ t.committedUnmarked o := by
  rw [State.committedUnmarked_eq, State.committedUnmarked_eq]
  exact List.sum_le_sum fun m _ => h m

/-! ### The rules -/

/-- The kind of a request and the state of its outlet: an initial one in ADMITTED, a top-up in ENERGISING to
SEPARATING (R10, R53, R54). -/
def RequestKind.fits (st : OutletState) : RequestKind → Prop
  | .initial => st = .admitted
  | .topUp => st.supplied = true

/-- A module stands as its state has it. Its lifecycle timers run only in the state each bounds, where `M` (R46, R47,
R49). -/
structure Module.Placed (M : Prop) (m : Module) : Prop where
  group : m.group.isSome = m.state.isMember
  rest : m.rest = none ∨ m.state = .off
  pending : m.releasePending = true → m.state = .running
  timers : M → m.timersSound = true

/-- A request covers what the unmarked members are short of, and marked members are a surplus (R54, R62). -/
structure State.Covered (s : State) (o : OutletId) : Prop where
  wanted : ∀ r ∈ s.grants, r.outlet = o → s.admitted o ≤ s.committedUnmarked o + r.wanted
  marks : s.hasMarks o = true → (s.outlet o).state.supplied = true → s.admitted o ≤ s.committedUnmarked o

/-- The pool at one outlet: a group only in ENERGISING to DE_ENERGISING, at most one request, of the kind the state has.
Where `T`, the figures are covered. -/
structure State.Pooled (T : Prop) (s : State) (o : OutletId) : Prop where
  home : ∀ m, (s.module m).group = some o → (s.outlet o).state.within .energising .deEnergising = true
  kinds : ∀ r ∈ s.grants, r.outlet = o → r.kind.fits (s.outlet o).state
  single : s.grants.countP (·.outlet == o) ≤ 1
  figures : T → s.Covered o

/-- The rules of the whole part, but for the breakers of the transfer states. -/
structure State.Ruled (p q : OutletId → Prop) (M T : Prop) (s : State) : Prop where
  outlet : ∀ o, (s.outlet o).Guarded s.estopAllMade (p o) (q o)
  module : ∀ m, (s.module m).Placed M
  pool : ∀ o, s.Pooled T o

/-- The protective rules of the whole part. -/
structure State.Protected (p q : OutletId → Prop) (M T : Prop) (s : State) : Prop extends s.Ruled p q M T where
  seated : ∀ o, (s.outlet o).Seated

variable {p q : OutletId → Prop} {M T : Prop} {s t : State} {o : OutletId}

/-! ### The rules read the cores -/

theorem Module.Placed.congr {m m' : Module} (h : m.Placed M) (e : m'.core = m.core) : m'.Placed M := by
  simp only [Module.core, ModuleCore.mk.injEq] at e
  obtain ⟨hst, _, hg, hp, hr, h1, h2, h3⟩ := e
  refine ⟨by rw [hg, hst]; exact h.group, ?_, by rw [hp, hst]; exact h.pending, fun k => ?_⟩
  · rw [hst]; exact h.rest.imp_left (Option.eq_none_congr hr)
  · have := h.timers k
    simp only [Module.timersSound, ← Option.not_isSome, hst, h1, h2, h3] at this ⊢
    exact this

theorem Module.carries_congr {m m' : Module} (e : m'.core = m.core) : m'.carries o = m.carries o := by
  simp only [Module.core, ModuleCore.mk.injEq] at e
  obtain ⟨hst, hr, hg, hp, _⟩ := e
  simp only [Module.carries, hst, hr, hg, hp]

/-- The pool at an outlet reads the modules of its group. -/
theorem State.figures_congr (h : ∀ m, (s.module m).group = some o ∨ (t.module m).group = some o →
    (t.module m).core = (s.module m).core) :
    (∀ m, (t.module m).group = some o ↔ (s.module m).group = some o) ∧
      t.committedUnmarked o = s.committedUnmarked o ∧ t.hasMarks o = s.hasMarks o := by
  have hgroup (m : Fin 8) : (t.module m).group = some o ↔ (s.module m).group = some o :=
    ⟨fun k => (congrArg ModuleCore.group (h m (.inr k))).symm.trans k,
      fun k => (congrArg ModuleCore.group (h m (.inl k))).trans k⟩
  refine ⟨hgroup, ?_, ?_⟩
  · rw [State.committedUnmarked_eq, State.committedUnmarked_eq]
    refine congrArg List.sum (List.map_congr_left fun m _ => ?_)
    by_cases hm : (s.module m).group = some o
    · exact Module.carries_congr (h m (.inl hm))
    · simp only [Module.carries, hgroup m, hm, false_and, if_false]
  · rw [Bool.eq_iff_iff, State.hasMarks_iff, State.hasMarks_iff]
    refine exists_congr fun m => ?_
    rw [hgroup m]
    refine and_congr_right fun k => ?_
    rw [show (t.module m).releasePending = (s.module m).releasePending from
      congrArg ModuleCore.releasePending (h m (.inl k))]

theorem Request.mem_of_core {rs rs' : List Request} (h : rs'.map Request.core = rs.map Request.core) {r : Request}
    (hr : r ∈ rs') : ∃ r' ∈ rs, r'.outlet = r.outlet ∧ r'.kind = r.kind ∧ r'.wanted = r.wanted := by
  have : r.core ∈ rs.map Request.core := h ▸ List.mem_map_of_mem hr
  obtain ⟨r', hr', e⟩ := List.mem_map.1 this
  simp only [Request.core, Request.mk.injEq] at e
  exact ⟨r', hr', e.1, e.2.1, e.2.2.1⟩

/-- Requests of an outlet that differ in their waits alone. -/
theorem Request.count_of_core {rs rs' : List Request} (h : rs'.map Request.core = rs.map Request.core) (o : OutletId) :
    rs'.countP (·.outlet == o) = rs.countP (·.outlet == o) := by
  have e (l : List Request) : l.countP (·.outlet == o) = (l.map Request.core).countP (·.outlet == o) := by
    rw [List.countP_map]
    rfl
  rw [e rs', h, ← e rs]

theorem State.Pooled.congr (h : s.Pooled T o) (hst : (t.outlet o).state = (s.outlet o).state)
    (ha : t.admitted o = s.admitted o) (hm : ∀ m, (s.module m).group = some o ∨ (t.module m).group = some o →
      (t.module m).core = (s.module m).core) (hg : t.grants.map Request.core = s.grants.map Request.core) :
    t.Pooled T o := by
  obtain ⟨hgroup, hcu, hmarks⟩ := State.figures_congr hm
  refine ⟨fun m k => by rw [hst]; exact h.home m ((hgroup m).1 k), fun r hr hro => ?_, ?_,
    fun k => ⟨fun r hr hro => ?_, by rw [hst, ha, hcu, hmarks]; exact (h.figures k).marks⟩⟩
  · obtain ⟨r', hr', e1, e2, _⟩ := Request.mem_of_core hg hr
    rw [hst, ← e2]
    exact h.kinds r' hr' (e1.trans hro)
  · rw [Request.count_of_core hg]
    exact h.single
  · obtain ⟨r', hr', e1, _, e3⟩ := Request.mem_of_core hg hr
    rw [ha, hcu, ← e3]
    exact (h.figures k).wanted r' hr' (e1.trans hro)

theorem Inert.state (h : Inert s t) (o : OutletId) : (t.outlet o).state = (s.outlet o).state :=
  congrArg OutletCore.state (h.outlet o)

theorem Inert.admitted (h : Inert s t) (o : OutletId) : t.admitted o = s.admitted o :=
  congrArg OutletCore.admitted (h.outlet o)

theorem State.Ruled.inert (hs : s.Ruled p q M T) (h : Inert s t) : t.Ruled p q M T :=
  ⟨fun o => by rw [h.estop]; exact (hs.outlet o).congr (h.outlet o), fun m => (hs.module m).congr (h.module m),
    fun o => (hs.pool o).congr (h.state o) (h.admitted o) (fun m _ => h.module m) h.grants⟩

theorem State.Protected.inert (hs : s.Protected p q M T) (h : Inert s t) : t.Protected p q M T :=
  ⟨hs.toRuled.inert h, fun o => (hs.seated o).congr (h.outlet o)⟩

/-! ### Acts at one outlet -/

/-- Between `s` and `t` nothing has moved that the rules of the other outlets read. -/
structure Within (o : OutletId) (s t : State) : Prop where
  outlets : ∀ o', o' ≠ o → (t.outlet o').core = (s.outlet o').core
  estop : t.estopAllMade = s.estopAllMade
  modules : ∀ m, (t.module m).core = (s.module m).core ∨
    ∀ o', o' ≠ o → (s.module m).group ≠ some o' ∧ (t.module m).group ≠ some o'
  requests : (t.grants.filter (·.outlet != o)).map Request.core = (s.grants.filter (·.outlet != o)).map Request.core

/-- No module has joined a group between `s` and `t`. -/
def Shrinks (s t : State) : Prop := ∀ m, (t.module m).group = none ∨ (t.module m).group = (s.module m).group

theorem Shrinks.refl (s : State) : Shrinks s s := fun _ => .inr rfl

theorem Shrinks.trans {u : State} (h : Shrinks s t) (k : Shrinks t u) : Shrinks s u := fun m => by
  rcases k m with k | k
  · exact .inl k
  · rw [k]; exact h m

theorem Shrinks.ite {c : Prop} [Decidable c] {a b : State} (h : c → Shrinks s a) (k : ¬c → Shrinks s b) :
    Shrinks s (if c then a else b) := by
  split
  · next e => exact h e
  · next e => exact k e

theorem Inert.shrinks (h : Inert s t) : Shrinks s t := fun m => .inr (congrArg ModuleCore.group (h.module m))

theorem Within.of_acts (h : ActsAt o s t) (hg : Shrinks s t) : Within o s t := by
  refine ⟨fun o' ho => by rw [h.outlets o' ho], (State.common_fields h.common).2.2.2.2.2.1, fun m => ?_,
    by rw [h.requests]⟩
  by_cases hm : (s.module m).group = some o
  · refine .inr fun o' ho' => ⟨by rw [hm]; simpa using ho'.symm, ?_⟩
    rcases hg m with k | k <;> rw [k]
    · nofun
    · rw [hm]; simpa using ho'.symm
  · exact .inl (by rw [h.modules m hm])

theorem Inert.within (h : Inert s t) (o : OutletId) : Within o s t := by
  refine ⟨fun o' _ => h.outlet o', h.estop, fun m => .inl (h.module m), ?_⟩
  have e (rs : List Request) : (rs.filter (·.outlet != o)).map Request.core =
      (rs.map Request.core).filter (·.outlet != o) := by
    rw [List.filter_map]
    rfl
  rw [e, e, h.grants]

theorem Within.trans {u : State} (h : Within o s t) (k : Within o t u) : Within o s u := by
  refine ⟨fun o' ho => (k.outlets o' ho).trans (h.outlets o' ho), k.estop.trans h.estop, fun m => ?_,
    k.requests.trans h.requests⟩
  rcases h.modules m with h | h <;> rcases k.modules m with k | k
  · exact .inl (k.trans h)
  · refine .inr fun o' ho => ⟨?_, (k o' ho).2⟩
    rw [← show (t.module m).group = (s.module m).group from congrArg ModuleCore.group h]
    exact (k o' ho).1
  · refine .inr fun o' ho => ⟨(h o' ho).1, ?_⟩
    rw [show (u.module m).group = (t.module m).group from congrArg ModuleCore.group k]
    exact (h o' ho).2
  · exact .inr fun o' ho => ⟨(h o' ho).1, (k o' ho).2⟩

/-- The requests of another outlet, their waits aside. -/
theorem Within.requests_of (h : Within o s t) {o' : OutletId} (ho : o' ≠ o) :
    (t.grants.filter (·.outlet == o')).map Request.core = (s.grants.filter (·.outlet == o')).map Request.core := by
  have e (rs : List Request) : (rs.filter (·.outlet == o')).map Request.core =
      ((rs.filter (·.outlet != o)).map Request.core).filter (·.outlet == o') := by
    rw [List.filter_map, List.filter_filter]
    refine congrArg (List.map _) (List.filter_congr fun r _ => ?_)
    rw [Bool.eq_iff_iff]
    simp only [Function.comp, Request.core, beq_iff_eq, Bool.and_eq_true, bne_iff_ne]
    exact ⟨fun k => ⟨k, k ▸ ho⟩, fun k => k.1⟩
  rw [e, e, h.requests]

/-- The pool at another outlet. -/
theorem State.Pooled.within (h : Within o s t) {o' : OutletId} (ho : o' ≠ o) (hp : s.Pooled T o') : t.Pooled T o' := by
  have hm (m : Fin 8) (k : (s.module m).group = some o' ∨ (t.module m).group = some o') :
      (t.module m).core = (s.module m).core := by
    refine (h.modules m).resolve_right fun n => ?_
    exact k.elim (n o' ho).1 (n o' ho).2
  have hst : (t.outlet o').state = (s.outlet o').state := congrArg OutletCore.state (h.outlets o' ho)
  have ha : t.admitted o' = s.admitted o' := congrArg OutletCore.admitted (h.outlets o' ho)
  have hreq := h.requests_of ho
  obtain ⟨hgroup, hcu, hmarks⟩ := State.figures_congr hm
  have hmem (r : Request) (hr : r ∈ t.grants) (hro : r.outlet = o') :
      ∃ r' ∈ s.grants, r'.outlet = r.outlet ∧ r'.kind = r.kind ∧ r'.wanted = r.wanted := by
    obtain ⟨r', hr', e⟩ := Request.mem_of_core hreq (List.mem_filter.2 ⟨hr, by simpa using hro⟩)
    exact ⟨r', (List.mem_filter.1 hr').1, e⟩
  refine ⟨fun m k => by rw [hst]; exact hp.home m ((hgroup m).1 k), fun r hr hro => ?_, ?_,
    fun k => ⟨fun r hr hro => ?_, by rw [hst, ha, hcu, hmarks]; exact (hp.figures k).marks⟩⟩
  · obtain ⟨r', hr', e1, e2, _⟩ := hmem r hr hro
    rw [hst, ← e2]
    exact hp.kinds r' hr' (e1.trans hro)
  · have := congrArg List.length hreq
    rw [List.length_map, List.length_map, ← List.countP_eq_length_filter, ← List.countP_eq_length_filter] at this
    rw [this]
    exact hp.single
  · obtain ⟨r', hr', e1, _, e3⟩ := hmem r hr hro
    rw [ha, hcu, ← e3]
    exact (hp.figures k).wanted r' hr' (e1.trans hro)

/-- The rules after an act at one outlet, from what it leaves there. -/
theorem State.Ruled.within (hs : s.Ruled p q M T) (h : Within o s t)
    (hx : (t.outlet o).Guarded s.estopAllMade (p o) (q o))
    (hm : ∀ m, (t.module m).core ≠ (s.module m).core → (t.module m).Placed M)
    (hp : t.Pooled T o) : t.Ruled p q M T := by
  refine ⟨fun o' => ?_, fun m => ?_, fun o' => ?_⟩
  · rw [h.estop]
    by_cases ho : o' = o
    · subst ho; exact hx
    · exact (hs.outlet o').congr (h.outlets o' ho)
  · by_cases e : (t.module m).core = (s.module m).core
    · exact (hs.module m).congr e
    · exact hm m e
  · by_cases ho : o' = o
    · subst ho; exact hp
    · exact (hs.pool o').within h ho

theorem State.Protected.within (hs : s.Protected p q M T) (h : Within o s t)
    (hx : (t.outlet o).Guarded s.estopAllMade (p o) (q o)) (hseat : (t.outlet o).Seated)
    (hm : ∀ m, (t.module m).core ≠ (s.module m).core → (t.module m).Placed M) (hp : t.Pooled T o) :
    t.Protected p q M T := by
  refine ⟨hs.toRuled.within h hx hm hp, fun o' => ?_⟩
  by_cases ho : o' = o
  · subst ho; exact hseat
  · exact (hs.seated o').congr (h.outlets o' ho)

/-- The figures of an act at one outlet that keeps the other rules. -/
theorem State.Protected.covered (hs : s.Protected p q M T) (h : Within o s t) (ht : t.Protected p q M False)
    (hc : T → t.Covered o) : t.Protected p q M T := by
  refine ⟨⟨ht.outlet, ht.module, fun o' => ?_⟩, ht.seated⟩
  by_cases ho : o' = o
  · subst ho
    exact ⟨(ht.pool o').home, (ht.pool o').kinds, (ht.pool o').single, hc⟩
  · exact (hs.pool o').within h ho

/-- The rules without the figures. -/
theorem State.Protected.uncovered (hs : s.Protected p q M T) : s.Protected p q M False :=
  ⟨⟨hs.outlet, hs.module, fun o => ⟨(hs.pool o).home, (hs.pool o).kinds, (hs.pool o).single, False.elim⟩⟩, hs.seated⟩

/-! ### Moves of an outlet that leave the pool -/

theorem OutletState.within_of_supplied {st : OutletState} (h : st.supplied = true) :
    st.within .energising .deEnergising = true := by
  revert h; cases st <;> decide

/-- An outlet may move from one state to another without regard to the pool: within ENERGISING to SEPARATING, or where it
has neither group nor request. -/
def OutletState.mayMove (st st' : OutletState) : Prop :=
  st' = st ∨ (st.supplied = true ∧ st'.supplied = true) ∨
    (st.within .energising .deEnergising = false ∧ st ≠ .admitted)

theorem State.Pooled.move (hs : s.Pooled T o) (hst : (s.outlet o).state.mayMove (t.outlet o).state)
    (ha : t.admitted o = s.admitted o) (hm : ∀ m, (t.module m).core = (s.module m).core)
    (hg : t.grants.map Request.core = s.grants.map Request.core) : t.Pooled T o := by
  rcases hst with hst | ⟨h1, h2⟩ | ⟨h1, h2⟩
  · exact hs.congr hst ha (fun m _ => hm m) hg
  all_goals obtain ⟨hgroup, hcu, hmarks⟩ := State.figures_congr (o := o) fun m _ => hm m
  · refine ⟨fun m _ => ?_, fun r hr hro => ?_, ?_, fun k => ⟨fun r hr hro => ?_, fun hmk _ => ?_⟩⟩
    · exact OutletState.within_of_supplied h2
    · obtain ⟨r', hr', e1, e2, _⟩ := Request.mem_of_core hg hr
      have := hs.kinds r' hr' (e1.trans hro)
      rw [e2] at this
      cases hk : r.kind
      · rw [hk] at this
        rw [show (s.outlet o).state = .admitted from this] at h1
        exact absurd h1 (by decide)
      · exact h2
    · rw [Request.count_of_core hg]
      exact hs.single
    · obtain ⟨r', hr', e1, _, e3⟩ := Request.mem_of_core hg hr
      rw [ha, hcu, ← e3]
      exact (hs.figures k).wanted r' hr' (e1.trans hro)
    · rw [ha, hcu]
      exact (hs.figures k).marks (hmarks ▸ hmk) h1
  · have hnone (m : Fin 8) : (s.module m).group ≠ some o := fun k => by
      rw [hs.home m k] at h1
      cases h1
    have hreq (r : Request) (hr : r ∈ t.grants) : r.outlet ≠ o := fun hro => by
      obtain ⟨r', hr', e1, _⟩ := Request.mem_of_core hg hr
      have := hs.kinds r' hr' (e1.trans hro)
      cases hk : r'.kind
      · rw [hk] at this
        exact h2 this
      · rw [hk] at this
        rw [OutletState.within_of_supplied this] at h1
        cases h1
    refine ⟨fun m k => (hnone m ((hgroup m).1 k)).elim, fun r hr hro => (hreq r hr hro).elim, ?_,
      fun _ => ⟨fun r hr hro => (hreq r hr hro).elim, fun hmk => ?_⟩⟩
    · rw [Request.count_of_core hg]
      exact hs.single
    · rw [hmarks] at hmk
      obtain ⟨m, hm, _⟩ := s.hasMarks_iff o |>.1 hmk
      exact (hnone m hm).elim

/-- Between `s` and `t` an outlet may have moved, and nothing else that the rules read. -/
structure Moves (o : OutletId) (s t : State) : Prop where
  outlet : ∀ o', o' ≠ o → (t.outlet o').core = (s.outlet o').core
  estop : t.estopAllMade = s.estopAllMade
  admitted : t.admitted o = s.admitted o
  module : ∀ m, (t.module m).core = (s.module m).core
  grants : t.grants.map Request.core = s.grants.map Request.core

theorem Moves.refl (o : OutletId) (s : State) : Moves o s s := ⟨fun _ _ => rfl, rfl, rfl, fun _ => rfl, rfl⟩

theorem Moves.trans {u : State} (h : Moves o s t) (k : Moves o t u) : Moves o s u :=
  ⟨fun o' ho => (k.outlet o' ho).trans (h.outlet o' ho), k.estop.trans h.estop, k.admitted.trans h.admitted,
    fun m => (k.module m).trans (h.module m), k.grants.trans h.grants⟩

theorem Inert.moves (h : Inert s t) (o : OutletId) : Moves o s t :=
  ⟨fun o' _ => h.outlet o', h.estop, h.admitted o, h.module, h.grants⟩

theorem Moves.of_modify {f : Outlet → Outlet} (h : (f (s.outlet o)).admitted = (s.outlet o).admitted) :
    Moves o s (s.modify o f) :=
  ⟨fun o' ho => by rw [State.outlet_modify_ne _ _ ho], rfl,
    by rw [State.admitted_eq, State.admitted_eq, State.outlet_modify_self, h], fun _ => rfl, rfl⟩

theorem Module.core_of_share {m m' : Module} (h : { m' with share := 0 } = { m with share := 0 }) :
    m'.core = m.core :=
  (congrArg Module.core h : Module.core { m' with share := 0 } = Module.core { m with share := 0 })

theorem State.moves_enter (s : State) (o : OutletId) (st : OutletState) : Moves o s (s.enter o st) := by
  obtain ⟨e, _, hne, ho, hm, _⟩ := s.enter_frame o st
  refine ⟨fun o' h => by rw [hne o' h], by rw [e], ?_, fun m => Module.core_of_share (hm m), by rw [e]⟩
  rw [State.admitted_eq, State.admitted_eq, ho]
  rfl

theorem State.Ruled.moves (hs : s.Ruled p q M T) (h : Moves o s t) (hst : (s.outlet o).state.mayMove (t.outlet o).state)
    (hx : (t.outlet o).Guarded s.estopAllMade (p o) (q o)) : t.Ruled p q M T := by
  refine ⟨fun o' => ?_, fun m => (hs.module m).congr (h.module m), fun o' => ?_⟩
  · rw [h.estop]
    by_cases ho : o' = o
    · subst ho; exact hx
    · exact (hs.outlet o').congr (h.outlet o' ho)
  · by_cases ho : o' = o
    · subst ho; exact (hs.pool o').move hst h.admitted h.module h.grants
    · exact (hs.pool o').congr (congrArg OutletCore.state (h.outlet o' ho))
        (congrArg OutletCore.admitted (h.outlet o' ho)) (fun m _ => h.module m) h.grants

theorem State.Protected.moves (hs : s.Protected p q M T) (h : Moves o s t)
    (hst : (s.outlet o).state.mayMove (t.outlet o).state)
    (hx : (t.outlet o).Guarded s.estopAllMade (p o) (q o)) (hseat : (t.outlet o).Seated) : t.Protected p q M T := by
  refine ⟨hs.toRuled.moves h hst hx, fun o' => ?_⟩
  by_cases ho : o' = o
  · subst ho; exact hseat
  · exact (hs.seated o').congr (h.outlet o' ho)

/-- An update of an outlet that keeps its state and its admitted capacity. -/
theorem State.Protected.modify (hs : s.Protected p q M T) {f : Outlet → Outlet}
    (ha : (f (s.outlet o)).admitted = (s.outlet o).admitted) (hst : (f (s.outlet o)).state = (s.outlet o).state)
    (hx : (f (s.outlet o)).Guarded s.estopAllMade (p o) (q o)) (hseat : (f (s.outlet o)).Seated) :
    (s.modify o f).Protected p q M T :=
  hs.moves (.of_modify ha) (by rw [State.outlet_modify_self, hst]; exact .inl rfl)
    (by rw [State.outlet_modify_self]; exact hx) (by rw [State.outlet_modify_self]; exact hseat)

end Sys2Proof.Machine
end

section
/-! Trips and endings keep the protective rules (R15, R16, R18, R19). -/

namespace Sys2Proof.Machine

variable {p q : OutletId → Prop} {M T : Prop} {s t u : State} {o : OutletId}

/-! ### Modules that leave their group -/

/-- Between `s` and `t` modules have left their group at most. -/
def Drops (s t : State) : Prop :=
  ∀ m, (t.module m).core = (s.module m).core ∨ ((t.module m).group = none ∧ ∀ M, (t.module m).Placed M)

theorem Drops.trans (h : Drops s t) (k : Drops t u) : Drops s u := fun m => by
  rcases k m with k | k
  · rcases h m with h | ⟨h1, h2⟩
    · exact .inl (k.trans h)
    · exact .inr ⟨(congrArg ModuleCore.group k).trans h1, fun M => (h2 M).congr k⟩
  · exact .inr k

theorem Drops.shrinks (h : Drops s t) : Shrinks s t := fun m =>
  (h m).symm.imp (·.1) (congrArg ModuleCore.group ·)

theorem Drops.of_same (h : t.modules = s.modules) : Drops s t := fun m => by
  simp only [State.module, h, true_or]

theorem Inert.drops (h : Inert s t) : Drops s t := fun m => .inl (h.module m)

theorem Moves.drops (h : Moves o s t) : Drops s t := fun m => .inl (h.module m)

theorem Drops.ite {c : Prop} [Decidable c] {a b : State} (h : c → Drops s a) (k : ¬c → Drops s b) :
    Drops s (if c then a else b) := by
  split
  · next e => exact h e
  · next e => exact k e

theorem Module.placed_stop (m : Module) : m.stop.Placed M := by
  unfold Module.stop Module.retire
  split
  · exact ⟨rfl, .inl rfl, nofun, fun _ => rfl⟩
  · exact ⟨rfl, .inr rfl, nofun, fun _ => rfl⟩

theorem State.drops_stopGroup (s : State) (o : OutletId) : Drops s (s.stopGroup o) := fun m => by
  rw [State.module_stopGroup]
  split
  · exact .inr ⟨Module.group_stop _, fun _ => Module.placed_stop _⟩
  · exact .inl rfl

/-- The rules after an act at one outlet whose requests have gone, with modules dropped at most: its group is empty, or
it is in DE_ENERGISING. -/
theorem State.Ruled.drops (hs : s.Ruled p q M T) (hw : Within o s t) (hm : Drops s t)
    (hr : ∀ r ∈ t.grants, r.outlet ≠ o)
    (hg : (∀ m, (t.module m).group ≠ some o) ∨ (t.outlet o).state = .deEnergising)
    (hx : (t.outlet o).Guarded s.estopAllMade (p o) (q o)) : t.Ruled p q M T := by
  refine hs.within hw hx (fun m _ => ?_) ⟨fun m k => ?_, fun r h1 h2 => (hr r h1 h2).elim, ?_,
    fun _ => ⟨fun r h1 h2 => (hr r h1 h2).elim, fun hmk hsup => ?_⟩⟩
  · rcases hm m with k | ⟨_, k⟩
    · exact (hs.module m).congr k
    · exact k M
  · rcases hg with hg | hg
    · exact (hg m k).elim
    · rw [hg]; rfl
  · rw [List.countP_eq_zero.2 fun r h1 => by simpa using hr r h1]
    exact Nat.zero_le 1
  · rcases hg with hg | hg
    · obtain ⟨m, h1, _⟩ := (t.hasMarks_iff o).1 hmk
      exact (hg m h1).elim
    · rw [hg] at hsup
      cases hsup

/-! ### Open requests -/

/-- An open request of the SB where the rules hold: a waiting close request waits on (R12, R35). -/
theorem State.requestSbOpen_of {e : Bool} {a b : Prop} (h : (s.outlet o).Guarded e a b) :
    s.requestSbOpen o = s.modify o Outlet.askSbOpen := by
  cases hw : (s.outlet o).closeWanted
  · exact State.requestSbOpen_eq hw
  · obtain ⟨_, _, hc⟩ := h.wanted hw
    have hne : (s.outlet o).sb.channel ≠ .closed ∧ (s.outlet o).sb.answersOpen = false := by
      rcases hc with hc | hc <;> simp [hc, ShoreBreaker.answersOpen]
    simp only [State.requestSbOpen, if_neg hne.1, hne.2, Bool.false_eq_true, if_false]
    refine State.modify_congr ?_
    simp [Outlet.askSbOpen, hne.1]

theorem State.openBreakers_of {e : Bool} {a b : Prop} (h : (s.outlet o).Guarded e a b) :
    s.openBreakers o = s.modify o Outlet.askBothOpen := by
  rw [State.openBreakers, State.requestSbOpen_of h, State.requestPbTrip, State.modifyPb, State.modify_modify]
  rfl

/-! ### Trips -/

theorem Outlet.Guarded.tripped {e : Bool} {a b : Prop} {x : Outlet} {cause : TripCause} {ref : Reference}
    {l : ShipLink} (hx : x.Guarded e a b) (hc : cause.commandsBoth = true ∨ x.sb.channel ≠ .closing) :
    ({ x.tripped cause with reference := ref, link := l } : Outlet).Guarded e a b := by
  unfold Outlet.tripped
  split
  · refine ⟨hx.wired.askOpen.requestTrip, nofun, fun k => (x.sb.requestOpen_channel.1 k).elim, .inl rfl, .inl rfl,
      .inl rfl, .inl rfl⟩
  · next hn => exact ⟨hx.wired, nofun, fun k => ((hc.resolve_left hn) k).elim, .inl rfl, .inl rfl, .inl rfl, .inl rfl⟩

theorem State.drops_requestSbOpen (s : State) (o : OutletId) : Drops s (s.requestSbOpen o) := by
  refine .of_same ?_
  have hc (v : State) : (v.requestSbClose o).modules = v.modules := by
    unfold State.requestSbClose
    split
    · split <;> rfl
    all_goals rfl
  have hr (v : State) : (v.sbOpenReport o).modules = v.modules := by
    unfold State.sbOpenReport
    dsimp only
    split
    · exact hc v
    · rfl
  simp only [State.requestSbOpen]
  split
  · rw [hr]; split <;> rfl
  · split <;> rfl

theorem State.drops_openBreakers (s : State) (o : OutletId) : Drops s (s.openBreakers o) :=
  (s.drops_requestSbOpen o).trans (.of_same rfl)

theorem State.drops_trip (s : State) (o : OutletId) (cause : TripCause) : Drops s (s.trip o cause) := by
  simp only [State.trip]
  refine .ite (fun _ => ?_) fun _ => .ite (fun _ => Drops.trans ?_ (State.inert_tripNotice _ o _).drops)
    fun _ => .of_same rfl
  · have h : Drops s (if cause.commandsBoth then (s.modify o Outlet.halt).openBreakers o else s.modify o Outlet.halt) :=
      .ite (fun _ => (Drops.of_same rfl).trans (State.drops_openBreakers _ o)) fun _ => .of_same rfl
    refine Drops.trans (Drops.trans (Drops.trans (Drops.trans (h.trans ?_) (State.inert_tripNotice _ o _).drops)
      (State.drops_stopGroup _ o)) (State.inert_recomputeLimit _ o).drops) (State.moves_enter _ o _).drops
    exact .of_same rfl
  · exact .ite (fun _ => s.drops_openBreakers o) fun _ => .of_same rfl

/-- A trip keeps the rules. Where the controller does not ask both breakers to open, no close command stands. -/
theorem State.Ruled.trip {cause : TripCause} (hs : s.Ruled p q M T)
    (hc : cause.commandsBoth = true ∨ (s.outlet o).sb.channel ≠ .closing) : (s.trip o cause).Ruled p q M T := by
  by_cases hw : (s.outlet o).state.within .admitted .separating = true
  · obtain ⟨hrel, hgroup, ref, l, hto, _⟩ := State.trip_spec (cause := cause) hw
    refine hs.drops (.of_acts hrel.acts (s.drops_trip o cause).shrinks) (s.drops_trip o cause) hrel.requests (.inl fun m k => ?_) ?_
    · have := (State.mem_group _ o m).2 k
      rw [hgroup] at this
      cases this
    · rw [hto]
      exact (hs.outlet o).tripped hc
  · rw [State.trip, if_neg hw]
    split
    · have hmove : Moves o s (if cause.byController then s.openBreakers o else s) := by
        split
        · rw [State.openBreakers_of (hs.outlet o)]
          exact .of_modify rfl
        · exact .refl o s
      refine State.Ruled.inert (hs.moves hmove (.inl ?_) ?_) (State.inert_tripNotice _ o cause)
      · split
        · rw [State.openBreakers_of (hs.outlet o), State.outlet_modify_self]
          rfl
        · rfl
      · split
        · rw [State.openBreakers_of (hs.outlet o), State.outlet_modify_self]
          exact (hs.outlet o).askBothOpen
        · exact hs.outlet o
    · exact hs

/-- After a trip the outlet is in no transfer state. -/
theorem State.seated_trip (s : State) (o : OutletId) (cause : TripCause) : ((s.trip o cause).outlet o).Seated := by
  refine Outlet.seated_of_not ?_
  by_cases hw : (s.outlet o).state.within .admitted .separating = true
  · obtain ⟨_, _, ref, l, hto, _⟩ := State.trip_spec (cause := cause) hw
    rw [hto]
    rfl
  · have hst : ((s.trip o cause).outlet o).state = (s.outlet o).state := by
      rw [State.trip, if_neg hw]
      have hb : ((s.openBreakers o).outlet o).state = (s.outlet o).state := by
        have hc (v : State) : ((v.requestSbClose o).outlet o).state = (v.outlet o).state := by
          rw [(v.requestSbClose_spec o).1]
        have hr (v : State) : ((v.sbOpenReport o).outlet o).state = (v.outlet o).state := by
          simp only [State.sbOpenReport]
          split
          · exact hc v
          · rfl
        rw [State.openBreakers, State.requestPbTrip, State.modifyPb, State.outlet_modify_self]
        simp only [State.requestSbOpen]
        split <;> [rw [hr]; skip] <;> split <;> simp [State.modifySb, State.modifyPb]
      split
      · rw [(State.inert_tripNotice _ o cause).state]
        split
        · exact hb
        · rfl
      · rfl
    rw [hst]
    revert hw
    cases (s.outlet o).state <;> decide

theorem State.Protected.trip {cause : TripCause} (hs : s.Ruled p q M T) (hseat : ∀ o', o' ≠ o → (s.outlet o').Seated)
    (hc : cause.commandsBoth = true ∨ (s.outlet o).sb.channel ≠ .closing) : (s.trip o cause).Protected p q M T := by
  refine ⟨hs.trip hc, fun o' => ?_⟩
  by_cases ho : o' = o
  · subst ho; exact s.seated_trip o' cause
  · rw [(s.actsAt_trip o cause).outlets o' ho]
    exact hseat o' ho

/-! ### Endings -/

/-- What an END asks of the breakers leaves them as the tables have them, and no close command of phase CLOSING. -/
theorem State.wired_windDown {free : Bool} {a : Prop} (h : (s.outlet o).closeWanted = false)
    (hw : Wired free a (s.outlet o).sb (s.outlet o).pb) (st : OutletState) :
    let y := (s.windDown o st).outlet o
    Wired free a y.sb y.pb ∧ (y.sb.channel = .closing → st ≠ .energising ∧ (s.outlet o).sb.channel = .closing) := by
  cases st with
  | energising =>
    have hi : ((((s.stopGroup o).recomputeLimit o)).outlet o).core = (s.outlet o).core := by
      rw [(State.inert_recomputeLimit _ o).outlet, State.outlet_stopGroup]
    rw [State.windDown, State.requestSbOpen_eq ((congrArg OutletCore.closeWanted hi).trans h), State.outlet_modify_self]
    exact ⟨(hw.congr (congrArg OutletCore.sb hi) (congrArg OutletCore.pb hi)).askOpen,
      fun k => ((ShoreBreaker.requestOpen_channel _).1 k).elim⟩
  | cableLive =>
    rw [State.windDown, State.requestSbOpen_eq h, State.outlet_modify_self]
    exact ⟨hw.askOpen, fun k => ((ShoreBreaker.requestOpen_channel _).1 k).elim⟩
  | synchronising =>
    rw [State.windDown, State.openBreakers_eq h, State.outlet_modify_self]
    exact ⟨hw.askOpen.requestTrip, fun k => ((ShoreBreaker.requestOpen_channel _).1 k).elim⟩
  | _ => exact ⟨hw, fun k => ⟨nofun, k⟩⟩

theorem State.outlet_withdraw (s : State) (o o' : OutletId) : (s.withdraw o).outlet o' = s.outlet o' := rfl

/-- The states an END takes a session from (R18, R20, R57). -/
def OutletState.mayEnd (st : OutletState) : Prop := st.within .admitted .synchronising = true ∨ st = .tripped

theorem State.drops_windDown (s : State) (o : OutletId) (st : OutletState) : Drops s (s.windDown o st) := by
  cases st with
  | energising =>
    exact ((s.drops_stopGroup o).trans (State.inert_recomputeLimit _ o).drops).trans (State.drops_requestSbOpen _ o)
  | cableLive => exact s.drops_requestSbOpen o
  | synchronising => exact s.drops_openBreakers o
  | _ => exact .of_same rfl

theorem State.Ruled.deEnergise (hs : s.Ruled p q M T) (hst : (s.outlet o).state.mayEnd) (cause : EndCause) :
    (s.deEnergise o cause).Ruled p q M T := by
  have hacts := s.actsAt_deEnergise o cause
  rw [State.deEnergise_eq] at hacts ⊢
  generalize hb : (s.modify o (·.ending cause)).withdraw o = b at hacts ⊢
  have hbo : b.outlet o = (s.outlet o).ending cause := by
    rw [← hb, State.outlet_withdraw, State.outlet_modify_self]
  have hbr : ∀ r ∈ b.grants, r.outlet ≠ o := hb ▸ State.requests_withdraw _ o
  have hbd : Drops s b := hb ▸ .of_same rfl
  have hx := hs.outlet o
  have hcw : (b.outlet o).closeWanted = false := by rw [hbo]; rfl
  obtain ⟨hwind, _⟩ := State.windDown_spec hcw (s.outlet o).state
  obtain ⟨hwired, hclosing⟩ := State.wired_windDown (free := (s.outlet o).interlocks.made s.estopAllMade)
    (a := q o) hcw (by rw [hbo]; exact hx.wired) (s.outlet o).state
  have hdrops := hbd.trans (b.drops_windDown o (s.outlet o).state)
  generalize b.windDown o (s.outlet o).state = w at hacts hwind hwired hclosing hdrops ⊢
  have hdrops := hdrops.trans (State.moves_enter w o .deEnergising).drops
  refine hs.drops (.of_acts hacts hdrops.shrinks) hdrops ?_
    (.inr (w.enter_frame o .deEnergising).2.1) (State.guarded_enter ?_)
  · rw [State.grants_enter, hwind.grants]
    exact hbr
  · have hwo := hwind.outlet
    rw [hbo] at hwo
    have hnt : (s.outlet o).state ≠ .transferIn ∧ (s.outlet o).state ≠ .transferOut := by
      rcases hst with h | h
      · revert h; cases (s.outlet o).state <;> decide
      · rw [h]; decide
    rw [hbo] at hclosing
    generalize (w.outlet o).sb = sb at hwo hwired hclosing
    generalize (w.outlet o).pb = pb at hwo hwired
    rw [hwo]
    exact ⟨hwired, rfl, fun k => (hx.closing (hclosing k).2).resolve_right fun n => (hclosing k).1 n.1, .inl rfl,
      .inl rfl, .inl (hx.parallel_none hnt.1 hnt.2), hx.overload⟩

theorem State.Protected.deEnergise (hs : s.Protected p q M T) (hst : (s.outlet o).state.mayEnd) (cause : EndCause) :
    (s.deEnergise o cause).Protected p q M T := by
  refine ⟨hs.toRuled.deEnergise hst cause, fun o' => ?_⟩
  by_cases ho : o' = o
  · subst ho
    rw [State.deEnergise_eq]
    exact State.seated_enter rfl
  · rw [(s.actsAt_deEnergise o cause).outlets o' ho]
    exact hs.seated o'

theorem State.Protected.force (hs : s.Protected p q M T) (o : OutletId) : (s.force o).Protected p q M T := by
  have hacts := s.actsAt_force o
  have hx := hs.outlet o
  generalize hb : (s.modify o fun x => { x.halt with endCause := some .forced }).withdraw o = b
  have hbo : b.outlet o = { (s.outlet o).halt with endCause := some .forced } := by
    rw [← hb, State.outlet_withdraw, State.outlet_modify_self]
  have hbr : ∀ r ∈ b.grants, r.outlet ≠ o := hb ▸ State.requests_withdraw _ o
  have e : s.force o = ((((b.modify o Outlet.askBothOpen).stopGroup o).recomputeLimit o)).enter o .deEnergising := by
    rw [State.force, hb, State.openBreakers_eq (by rw [hbo]; rfl)]
  rw [e] at hacts ⊢
  have hdrops : Drops s (((b.modify o Outlet.askBothOpen).stopGroup o).recomputeLimit o) :=
    ((hb ▸ Drops.of_same rfl : Drops s (b.modify o Outlet.askBothOpen)).trans (State.drops_stopGroup _ o)).trans
      (State.inert_recomputeLimit _ o).drops
  have hcore : ((((b.modify o Outlet.askBothOpen).stopGroup o).recomputeLimit o).outlet o).core =
      (b.outlet o).askBothOpen.core := by
    rw [(State.inert_recomputeLimit _ o).outlet, State.outlet_stopGroup, State.outlet_modify_self]
  have hgr : (((b.modify o Outlet.askBothOpen).stopGroup o).recomputeLimit o).grants = b.grants := by
    rw [(WindsDown.of_recomputeLimit _ o).grants, (WindsDown.of_stopGroup _ o).grants]
    rfl
  generalize ((b.modify o Outlet.askBothOpen).stopGroup o).recomputeLimit o = w at hacts hdrops hcore hgr ⊢
  have hdrops := hdrops.trans (State.moves_enter w o .deEnergising).drops
  refine ⟨hs.toRuled.drops (.of_acts hacts hdrops.shrinks) hdrops ?_
    (.inr (w.enter_frame o .deEnergising).2.1) (State.guarded_enter ?_), fun o' => ?_⟩
  · rw [State.grants_enter, hgr]
    exact hbr
  · rw [hbo] at hcore
    have hg : (w.outlet o).Guarded s.estopAllMade (p o) (q o) := by
      refine Outlet.Guarded.congr (Outlet.Guarded.askBothOpen ?_) hcore
      exact ⟨hx.wired, nofun, hx.closing, .inl rfl, .inl rfl, .inl rfl, .inl rfl⟩
    simp only [Outlet.core, OutletCore.mk.injEq] at hcore
    obtain ⟨_, _, hcw, _, hsb, _, hck, _, hpar, _⟩ := hcore
    have hcl : (w.outlet o).sb.channel ≠ .closing := by
      rw [(ShoreBreaker.of_marked hsb).1]
      exact ((s.outlet o).sb.requestOpen_channel).1
    exact ⟨hg.wired, hcw, fun k => (hcl k).elim, .inl hck, hg.feedback, .inl (Option.eq_none_congr hpar rfl), hg.overload⟩
  · by_cases ho : o' = o
    · subst ho; exact State.seated_enter rfl
    · rw [hacts.outlets o' ho]; exact hs.seated o'

end Sys2Proof.Machine
end

section
/-! The module pool keeps the rules: requests, marks, the loss of a member, and a change of an admitted capacity
(chapter 3). -/

namespace Sys2Proof.Machine

variable {p q : OutletId → Prop} {M T : Prop} {s t u : State} {o : OutletId}

/-! ### Module updates -/

/-- An update of a module that joins no group, takes nothing off the unmarked rating and marks nothing. -/
structure Module.Settles (M T : Prop) (m m' : Module) : Prop where
  placed : m'.Placed M
  group : m'.group = none ∨ m'.group = m.group
  carries : T → ∀ o, m.carries o ≤ m'.carries o
  pending : T → m'.releasePending = true → m.releasePending = true

theorem Module.Settles.of_core {m m' : Module} (hm : m.Placed M) (h : m'.core = m.core) : m.Settles M T m' :=
  ⟨hm.congr h, .inr (congrArg ModuleCore.group h), fun _ o => by rw [Module.carries_congr h],
    fun _ k => (congrArg ModuleCore.releasePending h).symm.trans k⟩

/-- A module that counts nothing, leaving its group or outside any. -/
theorem Module.carries_of_not {m : Module} (h : m.group = none ∨ m.state ∉ committedStates ∨ m.releasePending = true)
    (o : OutletId) : m.carries o = 0 := by
  refine if_neg fun k => ?_
  obtain ⟨k1, k2, k3⟩ := k
  rcases h with h | h | h
  · rw [h] at k1; cases k1
  · exact h k2
  · rw [k3] at h; cases h

theorem State.Covered.settle (h : s.Covered o) (ho : ∀ o, (t.outlet o).core = (s.outlet o).core)
    (hg : t.grants = s.grants) (hc : ∀ m, (s.module m).carries o ≤ (t.module m).carries o)
    (hk : ∀ m, (t.module m).group = some o → (t.module m).releasePending = true →
      (s.module m).group = some o ∧ (s.module m).releasePending = true) : t.Covered o := by
  have ha : t.admitted o = s.admitted o := congrArg OutletCore.admitted (ho o)
  have hst : (t.outlet o).state = (s.outlet o).state := congrArg OutletCore.state (ho o)
  have hcu := State.committedUnmarked_le hc
  refine ⟨fun r hr hro => ?_, fun hmk hsup => ?_⟩
  · have := h.wanted r (hg ▸ hr) hro
    omega
  · obtain ⟨m, h1, h2⟩ := (t.hasMarks_iff o).1 hmk
    obtain ⟨k1, k2⟩ := hk m h1 h2
    have := h.marks ((s.hasMarks_iff o).2 ⟨m, k1, k2⟩) (hst ▸ hsup)
    omega

/-- Modules updated, no outlet and no request. -/
theorem State.Protected.settle (hs : s.Protected p q M T) (ho : t.outlets = s.outlets)
    (he : t.estopAllMade = s.estopAllMade) (hg : t.grants = s.grants)
    (hm : ∀ m, (s.module m).Settles M T (t.module m)) : t.Protected p q M T := by
  have hout (o' : OutletId) : t.outlet o' = s.outlet o' := by simp only [State.outlet, ho]
  have hback {o' : OutletId} (m : Fin 8) (k : (t.module m).group = some o') : (s.module m).group = some o' := by
    rcases (hm m).group with h | h
    · rw [h] at k; cases k
    · exact h ▸ k
  refine ⟨⟨fun o' => by rw [hout, he]; exact hs.outlet o', fun m => (hm m).placed, fun o' => ?_⟩,
    fun o' => by rw [hout]; exact hs.seated o'⟩
  have hp := hs.pool o'
  refine ⟨fun m k => by rw [hout]; exact hp.home m (hback m k), by rw [hg, hout]; exact hp.kinds,
    by rw [hg]; exact hp.single, fun k => ?_⟩
  exact (hp.figures k).settle (fun o' => by rw [hout]) hg (fun m => (hm m).carries k o')
    fun m h1 h2 => ⟨hback m h1, (hm m).pending k h2⟩

theorem State.Protected.modifyModule (hs : s.Protected p q M T) {m : Fin 8} {f : Module → Module}
    (h : (s.module m).Settles M T (f (s.module m))) : (s.modifyModule m f).Protected p q M T := by
  refine hs.settle rfl rfl rfl fun k => ?_
  by_cases hk : k = m
  · subst hk; rw [State.module_modifyModule_self]; exact h
  · rw [State.module_modifyModule_ne _ _ hk]; exact .of_core (hs.module k) rfl

theorem State.Protected.modifyModules (hs : s.Protected p q M T) {ms : List (Fin 8)} {f : Module → Module}
    (hms : ms.Nodup) (h : ∀ m ∈ ms, (s.module m).Settles M T (f (s.module m))) :
    (s.modifyModules ms f).Protected p q M T := by
  refine hs.settle (by rw [State.modifyModules_eq]) (by rw [State.modifyModules_eq]) (by rw [State.modifyModules_eq])
    fun m => ?_
  rw [State.module_modifyModules _ _ _ _ hms]
  split
  · next hm => exact h m hm
  · exact .of_core (hs.module m) rfl

theorem State.Protected.stopGroup (hs : s.Protected p q M False) (o : OutletId) :
    (s.stopGroup o).Protected p q M False :=
  hs.modifyModules (s.group_nodup o) fun _ _ => ⟨Module.placed_stop _, .inl (Module.group_stop _), nofun, nofun⟩

theorem Module.settles_run {m : Module} (hm : m.Placed M) (h : m.state = .standby) : m.Settles M T m.run := by
  refine ⟨⟨by rw [show m.run.group = m.group from rfl, hm.group, h]; rfl, .inl (hm.rest.resolve_right (by simp [h])),
    fun _ => rfl, fun k => ?_⟩, .inr rfl, fun _ o => le_of_eq ?_, fun _ => id⟩
  · have := hm.timers k
    simp only [Module.timersSound, Module.run, h] at this ⊢
    exact this
  · simp [Module.carries, Module.run, h, committedStates]

theorem State.Protected.runGroup (hs : s.Protected p q M T) (o : OutletId) : (s.runGroup o).Protected p q M T := by
  refine State.Protected.inert (hs.modifyModules (s.members_nodup o _) fun m hm => ?_) (State.inert_computeShares _ o)
  obtain ⟨_, hst⟩ := (s.mem_members o _ m).1 hm
  exact Module.settles_run (hs.module m) (by simpa using hst)

/-! ### The release of marked members (R63) -/

theorem Module.settles_release {m : Module} (hm : m.Placed M) (h : m.state = .running) (hr : T → m.releasePending = true) :
    m.Settles M T m.release := by
  refine ⟨⟨by rw [show m.release.group = m.group from rfl, hm.group, h]; rfl,
    .inl (hm.rest.resolve_right (by simp [h])), nofun, fun k => ?_⟩, .inr rfl, fun k o => ?_, fun _ => nofun⟩
  · have := hm.timers k
    simp only [Module.timersSound, Module.release, h, Bool.and_eq_true, Bool.or_eq_true] at this ⊢
    obtain ⟨⟨h1, h2⟩, _⟩ := this
    exact ⟨⟨.inl (h1.resolve_right (by decide)), .inl (h2.resolve_right (by decide))⟩, .inr rfl⟩
  · rw [Module.carries_of_not (.inr (.inr (hr k)))]
    exact Nat.zero_le _

theorem State.Protected.testRelease (hs : s.Protected p q M T) (o : OutletId) :
    (s.testRelease o).Protected p q M T := by
  simp only [State.testRelease]
  split
  · refine State.Protected.inert (hs.modifyModules ((s.members_nodup o _).filter _) fun m hm => ?_)
      (State.inert_computeShares _ o)
    obtain ⟨hmem, hpend⟩ := List.mem_filter.1 hm
    obtain ⟨_, hst⟩ := (s.mem_members o _ m).1 hmem
    exact Module.settles_release (hs.module m) (by simpa using hst) fun _ => hpend
  · exact hs

/-! ### Requests -/

theorem State.Protected.requeue (hs : s.Protected p q M T) {gs : List Request}
    (hk : ∀ r ∈ gs, r.kind.fits (s.outlet r.outlet).state) (h1 : ∀ o, gs.countP (·.outlet == o) ≤ 1)
    (hc : T → ∀ r ∈ gs, r ∈ s.grants) : ({ s with grants := gs } : State).Protected p q M T :=
  ⟨⟨hs.outlet, hs.module, fun o => ⟨(hs.pool o).home, fun r hr hro => hro ▸ hk r hr, h1 o,
    fun k => ⟨fun r hr hro => ((hs.pool o).figures k).wanted r (hc k r hr) hro, ((hs.pool o).figures k).marks⟩⟩⟩, hs.seated⟩

theorem State.Protected.withdraw (hs : s.Protected p q M T) (o : OutletId) : (s.withdraw o).Protected p q M T :=
  hs.requeue (fun r hr => (hs.pool r.outlet).kinds r (List.mem_filter.1 hr).1 rfl)
    (fun o' => List.filter_sublist.countP_le.trans (hs.pool o').single) fun _ _ hr => (List.mem_filter.1 hr).1

/-- The requests of an outlet after it asks: what it wants now. -/
theorem State.wanted_ask {kind : RequestKind} {w : Nat} {r : Request} (hr : r ∈ (s.ask o kind w).grants)
    (hro : r.outlet = o) : r.wanted = w := by
  unfold State.ask at hr
  split at hr
  · obtain ⟨r', _, rfl⟩ := List.mem_map.1 hr
    split
    · rfl
    · next h => rw [if_neg h] at hro; exact (h hro).elim
  · next hn =>
    rcases List.mem_append.1 hr with hr | hr
    · have : s.request o = none := by simpa using hn
      exact absurd (List.find?_eq_none.1 this r hr) (by simp [hro])
    · rw [List.mem_singleton.1 hr]

theorem State.Protected.ask (hs : s.Protected p q M False) {kind : RequestKind}
    (hk : kind.fits (s.outlet o).state) (w : Nat) : (s.ask o kind w).Protected p q M False := by
  unfold State.ask
  split
  · refine hs.requeue (fun r hr => ?_) (fun o' => ?_) nofun
    · obtain ⟨r', hr', rfl⟩ := List.mem_map.1 hr
      have := (hs.pool r'.outlet).kinds r' hr' rfl
      split <;> exact this
    · rw [List.countP_map]
      refine le_trans (le_of_eq (List.countP_congr fun r _ => ?_)) (hs.pool o').single
      simp only [Function.comp]
      split <;> rfl
  · next hn =>
    refine hs.requeue (fun r hr => ?_) (fun o' => ?_) nofun
    · rcases List.mem_append.1 hr with hr | hr
      · exact (hs.pool r.outlet).kinds r hr rfl
      · rw [List.mem_singleton.1 hr]; exact hk
    · rw [List.countP_append]
      have h1 := (hs.pool o').single
      by_cases ho : o' = o
      · subst ho
        have hnone : s.request o' = none := by simpa using hn
        have : s.grants.countP (·.outlet == o') = 0 :=
          List.countP_eq_zero.2 fun r hr => List.find?_eq_none.1 hnone r hr
        rw [this]
        exact (Nat.zero_add _).trans_le List.countP_le_length
      · have : ([({ outlet := o, kind := kind, wanted := w, wait := grantWait } : Request)]).countP (·.outlet == o') = 0 :=
          List.countP_eq_zero.2 fun r hr => by rw [List.mem_singleton.1 hr]; simpa using Ne.symm ho
        rw [this]
        exact h1

theorem State.Protected.topUp (hs : s.Protected p q M False) (h : (s.outlet o).state.supplied = true) :
    (s.topUp o).Protected p q M False := by
  unfold State.topUp
  split
  · exact hs.ask (kind := .topUp) h _
  · exact hs.withdraw o

/-- An outlet with no request asks for nothing that is not covered. -/
theorem State.Covered.of_gone (hr : ∀ r ∈ s.grants, r.outlet ≠ o)
    (hm : s.hasMarks o = true → (s.outlet o).state.supplied = true → s.admitted o ≤ s.committedUnmarked o) : s.Covered o :=
  ⟨fun r h1 h2 => (hr r h1 h2).elim, hm⟩

/-- A top-up covers the shortfall (R53, R58). -/
theorem State.Covered.topUp
    (hm : s.hasMarks o = true → (s.outlet o).state.supplied = true → s.admitted o ≤ s.committedUnmarked o) :
    (s.topUp o).Covered o := by
  have ask (kind : RequestKind) (w : Nat) (hw : s.admitted o ≤ s.committedUnmarked o + w) :
      (s.ask o kind w).Covered o := by
    have h : (s.ask o kind w).modules = s.modules ∧ (s.ask o kind w).outlets = s.outlets := by
      unfold State.ask
      split <;> exact ⟨rfl, rfl⟩
    have hmod (m : Fin 8) : (s.ask o kind w).module m = s.module m := by simp only [State.module, h.1]
    have hout : (s.ask o kind w).outlet o = s.outlet o := by simp only [State.outlet, h.2]
    obtain ⟨_, hcu, hmk⟩ := State.figures_congr (s := s) (t := s.ask o kind w) (o := o) fun m _ => by rw [hmod]
    have ha : (s.ask o kind w).admitted o = s.admitted o := by rw [State.admitted_eq, hout, State.admitted_eq]
    refine ⟨fun r hr hro => ?_, by rw [ha, hcu, hmk, hout]; exact hm⟩
    rw [ha, hcu, State.wanted_ask hr hro]
    exact hw
  unfold State.topUp
  split
  · exact ask _ _ (by omega)
  · exact .of_gone (State.requests_withdraw s o) hm

end Sys2Proof.Machine
end

section
/-! The surplus walk and what rests on it: the loss of a member, and a change of an admitted capacity (R53, R61 to R63). -/

namespace Sys2Proof.Machine

variable {p q : OutletId → Prop} {M T : Prop} {s t u : State} {o : OutletId}

/-! ### The surplus walk (R62) -/

/-- The members that are not surplus reach the admitted capacity, where any is surplus. -/
theorem State.surplusOf_spares {admitted total : Nat} {ms : List (Fin 8)}
    (h : s.surplusOf admitted total ms ≠ []) : admitted + s.ratings (s.surplusOf admitted total ms) ≤ total := by
  induction ms generalizing total with
  | nil => exact absurd rfl h
  | cons m ms ih =>
    simp only [State.surplusOf] at h ⊢
    split
    · next hc =>
      obtain ⟨h1, h2⟩ := hc
      have hr (xs : List (Fin 8)) : s.ratings (m :: xs) = (s.module m).rating + s.ratings xs := by
        simp [State.ratings]
      rw [hr]
      by_cases hn : s.surplusOf admitted (total - (s.module m).rating) ms = []
      · rw [hn]
        simp only [State.ratings, List.map_nil, List.sum_nil]
        omega
      · have := ih hn
        omega
    · next hc => rw [if_neg hc] at h; exact absurd rfl h

theorem State.surplusOf_sublist (admitted total : Nat) (ms : List (Fin 8)) :
    (s.surplusOf admitted total ms).Sublist ms := by
  induction ms generalizing total with
  | nil => exact .refl _
  | cons m ms ih =>
    simp only [State.surplusOf]
    split
    · exact (ih _).cons_cons m
    · exact List.nil_sublist _

theorem State.surplus_nodup (s : State) (o : OutletId) : (s.surplus o).Nodup :=
  (s.surplusOf_sublist _ _ _).nodup (List.nodup_reverse.2 (s.members_nodup o _))

/-- What a module counts in the committed rating of an outlet, where it is not surplus. -/
def State.spares (s : State) (o : OutletId) (m : Fin 8) : Nat :=
  if (s.module m).group = some o ∧ (s.module m).state ∈ committedStates ∧ m ∉ s.surplus o then (s.module m).rating
  else 0

theorem State.ratings_eq {ms : List (Fin 8)} (h : ms.Nodup) :
    s.ratings ms = (allModules.map fun m => if m ∈ ms then (s.module m).rating else 0).sum := by
  have e : ms.Perm (allModules.filter (· ∈ ms)) :=
    (List.perm_ext_iff_of_nodup h (allModules_nodup.filter _)).2 fun m => by simp [mem_allModules]
  rw [State.ratings, (e.map _).sum_eq, sum_map_filter]
  simp

/-- The committed rating is what the surplus rates and what is spared. -/
theorem State.committed_eq (s : State) (o : OutletId) :
    s.committed o = s.ratings (s.surplus o) + (allModules.map (s.spares o)).sum := by
  rw [State.committed, State.ratings_eq (s.members_nodup o _), State.ratings_eq (s.surplus_nodup o),
    ← List.sum_map_add]
  refine congrArg List.sum (List.map_congr_left fun m _ => ?_)
  simp only [State.spares, State.mem_members]
  by_cases hm : m ∈ s.surplus o
  · obtain ⟨h1, h2⟩ := State.mem_surplus hm
    simp [hm, h1, h2]
  · simp [hm]

/-- The modules that are not surplus reach the admitted capacity, where any is surplus. -/
theorem State.admitted_le_spares (h : s.surplus o ≠ []) : s.admitted o ≤ (allModules.map (s.spares o)).sum := by
  have h1 := State.surplusOf_spares h
  have h2 := s.committed_eq o
  rw [State.surplus] at h2
  omega

theorem State.module_markSurplus (s : State) (o : OutletId) (m : Fin 8) :
    (s.markSurplus o).module m = if (s.module m).group = some o then
      { s.module m with releasePending := decide (m ∈ s.surplus o ∧ (s.module m).state = .running) }
      else s.module m := by
  simp only [State.markSurplus]
  rw [State.module_modifyModules _ _ _ _ ((s.surplus_nodup o).filter _),
    State.module_modifyModules _ _ _ _ (s.group_nodup o)]
  simp only [State.mem_group, List.mem_filter, beq_iff_eq,
    State.module_modifyModules _ _ _ _ (s.group_nodup o)]
  by_cases hg : (s.module m).group = some o
  · simp only [hg, if_true]
    split
    · next h => simp [h]
    · next h => simp [h]
  · have hn : m ∉ s.surplus o := fun h => hg (State.mem_surplus h).1
    simp [hg, hn]

/-- After the marking each member that is not surplus counts. -/
theorem State.spares_le_carries (s : State) (o : OutletId) (m : Fin 8) :
    s.spares o m ≤ ((s.markSurplus o).module m).carries o := by
  unfold State.spares
  split
  · next h =>
    obtain ⟨h1, h2, h3⟩ := h
    rw [State.module_markSurplus, if_pos h1]
    simp [Module.carries, h1, h2, h3]
  · exact Nat.zero_le _

/-- Only surplus members are marked. -/
theorem State.surplus_of_marked {m : Fin 8} (hg : ((s.markSurplus o).module m).group = some o)
    (hp : ((s.markSurplus o).module m).releasePending = true) : m ∈ s.surplus o := by
  rw [State.module_markSurplus] at hg hp
  split at hp
  · exact (of_decide_eq_true hp).1
  · next h => rw [if_neg h] at hg; exact (h hg).elim

theorem State.markSurplus_frame (s : State) (o : OutletId) : (s.markSurplus o).outlets = s.outlets ∧
    (s.markSurplus o).estopAllMade = s.estopAllMade ∧ (s.markSurplus o).grants = s.grants := by
  have e (s : State) (ms : List (Fin 8)) (f : Module → Module) : (s.modifyModules ms f).outlets = s.outlets ∧
      (s.modifyModules ms f).estopAllMade = s.estopAllMade ∧ (s.modifyModules ms f).grants = s.grants := by
    rw [State.modifyModules_eq]
    exact ⟨rfl, rfl, rfl⟩
  obtain ⟨h1, h2, h3⟩ := e s (s.group o) fun m => { m with releasePending := false }
  simp only [State.markSurplus]
  obtain ⟨k1, k2, k3⟩ := e (s.modifyModules (s.group o) fun m => { m with releasePending := false })
    ((s.surplus o).filter fun m => ((s.modifyModules (s.group o) fun m => { m with releasePending := false }).module m).state
      == .running) fun m => { m with releasePending := true }
  exact ⟨k1.trans h1, k2.trans h2, k3.trans h3⟩

theorem State.admitted_markSurplus (s : State) (o : OutletId) : (s.markSurplus o).admitted o = s.admitted o := by
  simp only [State.admitted_eq, State.outlet, (s.markSurplus_frame o).1]

theorem State.covers_markSurplus (s : State) (o : OutletId) (h : (s.markSurplus o).hasMarks o = true) :
    (s.markSurplus o).admitted o ≤ (s.markSurplus o).committedUnmarked o := by
  obtain ⟨m, h1, h2⟩ := (State.hasMarks_iff _ o).1 h
  have hm := State.surplus_of_marked h1 h2
  rw [State.admitted_markSurplus, State.committedUnmarked_eq]
  exact (State.admitted_le_spares (List.ne_nil_of_mem hm)).trans
    (List.sum_le_sum fun m _ => s.spares_le_carries o m)

theorem State.Protected.markSurplus (hs : s.Protected p q M False) (o : OutletId) :
    (s.markSurplus o).Protected p q M False := by
  obtain ⟨ho, he, hg⟩ := s.markSurplus_frame o
  refine hs.settle ho he hg fun m => ?_
  rw [State.module_markSurplus]
  split
  · exact ⟨⟨(hs.module m).group, (hs.module m).rest, fun k => (of_decide_eq_true k).2, (hs.module m).timers⟩, .inr rfl,
      nofun, nofun⟩
  · exact .of_core (hs.module m) rfl

/-! ### The loss of a member (R53) -/

theorem State.Protected.survive (hs : s.Protected p q M False) (h : (s.outlet o).state.supplied = true)
    (marks : Bool) : (s.survive o marks).Protected p q M False := by
  simp only [State.survive]
  have hi := s.inert_recomputeLimit o
  have hsup : ((s.recomputeLimit o).outlet o).state.supplied = true := by rw [hi.state]; exact h
  have hr := hs.inert hi
  split
  · refine (hr.markSurplus o).topUp ?_
    rw [show ((s.recomputeLimit o).markSurplus o).outlet o = (s.recomputeLimit o).outlet o by
      simp only [State.markSurplus, State.outlet_modifyModules]]
    exact hsup
  · exact hr.topUp hsup

theorem Inert.hasMarks (h : Inert s t) (o : OutletId) : t.hasMarks o = s.hasMarks o :=
  (State.figures_congr fun m _ => h.module m).2.2

theorem State.Covered.survive {marks : Bool} (h : marks = false → s.hasMarks o = false) :
    (s.survive o marks).Covered o := by
  simp only [State.survive]
  refine .topUp fun hm _ => ?_
  split at hm
  · next hmarks =>
    rw [if_pos hmarks]
    exact State.covers_markSurplus _ o hm
  · next hmarks =>
    rw [(s.inert_recomputeLimit o).hasMarks, h (by simpa using hmarks)] at hm
    cases hm

/-- A trip leaves neither a group nor a request (R15, R51). -/
theorem State.Covered.trip {cause : TripCause} (hw : (s.outlet o).state.within .admitted .separating = true) :
    (s.trip o cause).Covered o := by
  obtain ⟨hrel, hgroup, _⟩ := State.trip_spec (cause := cause) hw
  refine .of_gone hrel.requests fun hm _ => ?_
  obtain ⟨m, h1, _⟩ := (State.hasMarks_iff _ o).1 hm
  have := (State.mem_group _ o m).2 h1
  rw [hgroup] at this
  cases this

theorem OutletState.within_admitted_of_supplied {st : OutletState} (h : st.supplied = true) :
    st.within .admitted .separating = true := by
  revert h; cases st <;> decide

/-- The consequences of a loss keep the rules, and leave the figures covered. -/
theorem State.Protected.memberLost (hs : s.Protected p q M False)
    (hhome : (s.outlet o).state.within .energising .deEnergising = true) {marks : Bool}
    (hm : marks = false → s.hasMarks o = false) :
    (s.memberLost o marks).Protected p q M False ∧ (s.memberLost o marks).Covered o := by
  simp only [State.memberLost]
  have hi := s.inert_computeShares o
  have hs := hs.inert hi
  rw [← hi.state] at hhome
  have hm : marks = false → (s.computeShares o).hasMarks o = false := fun k => (hi.hasMarks o).trans (hm k)
  generalize s.computeShares o = v at hs hhome hm ⊢
  have trip (w : State) (hw : w.Protected p q M False) (hsup : (w.outlet o).state.supplied = true) :
      (w.trip o .noModules).Protected p q M False ∧ (w.trip o .noModules).Covered o :=
    ⟨.trip hw.toRuled (fun o' _ => hw.seated o') (.inl rfl), .trip (OutletState.within_admitted_of_supplied hsup)⟩
  have survive (hsup : (v.outlet o).state.supplied = true) :
      (v.survive o marks).Protected p q M False ∧ (v.survive o marks).Covered o := ⟨hs.survive hsup marks, .survive hm⟩
  split
  · next h =>
    have hsup : (v.outlet o).state.supplied = true := by rw [h.1]; rfl
    split
    · exact trip v hs hsup
    · exact survive hsup
  · split
    · next hsup =>
      split
      · exact trip _ (hs.stopGroup o) (by rw [State.outlet_stopGroup]; exact hsup)
      · exact survive hsup
    · next hsup =>
      have hj := v.inert_recomputeLimit o
      refine ⟨hs.inert hj, .of_gone (fun r hr hro => ?_) fun _ k => ?_⟩
      · have := ((hs.inert hj).pool o).kinds r hr hro
        rw [hj.state] at this
        cases hk : r.kind
        · rw [hk] at this
          rw [show (v.outlet o).state = .admitted from this] at hhome
          cases hhome
        · rw [hk] at this
          exact hsup this
      · rw [hj.state] at k
        exact (hsup k).elim

theorem State.shrinks_modifyModules (s : State) (ms : List (Fin 8)) (f : Module → Module)
    (h : ∀ m, (f m).group = none ∨ (f m).group = m.group) : Shrinks s (s.modifyModules ms f) := by
  induction ms generalizing s with
  | nil => exact .refl s
  | cons m ms ih =>
    refine Shrinks.trans (fun k => ?_) (ih (s.modifyModule m f))
    by_cases hk : k = m
    · subst hk; rw [State.module_modifyModule_self]; exact h _
    · rw [State.module_modifyModule_ne _ _ hk]; exact .inr rfl

theorem Shrinks.of_same (h : t.modules = s.modules) : Shrinks s t := fun m => .inr (by simp only [State.module, h])

theorem State.modules_topUp (s : State) (o : OutletId) : (s.topUp o).modules = s.modules := by
  unfold State.topUp State.ask
  split
  · split <;> rfl
  · rfl

theorem State.shrinks_markSurplus (s : State) (o : OutletId) : Shrinks s (s.markSurplus o) :=
  fun m => .inr (s.group_markSurplus o m)

theorem State.shrinks_survive (s : State) (o : OutletId) (marks : Bool) : Shrinks s (s.survive o marks) := by
  simp only [State.survive]
  refine ((s.inert_recomputeLimit o).shrinks.trans ?_).trans (.of_same (State.modules_topUp _ o))
  exact .ite (fun _ => State.shrinks_markSurplus _ o) fun _ => .refl _

theorem State.shrinks_memberLost (s : State) (o : OutletId) (marks : Bool) : Shrinks s (s.memberLost o marks) := by
  simp only [State.memberLost]
  refine (s.inert_computeShares o).shrinks.trans (.ite (fun _ => .ite (fun _ => (State.drops_trip _ o _).shrinks)
    fun _ => State.shrinks_survive _ o _) fun _ => .ite (fun _ => .ite (fun _ => ?_)
    fun _ => State.shrinks_survive _ o _) fun _ => (State.inert_recomputeLimit _ o).shrinks)
  exact ((State.drops_stopGroup _ o).trans (State.drops_trip _ o _)).shrinks

/-- A member that leaves the committed rating, and what follows (R53). -/
theorem State.Protected.loseMember (hs : s.Protected p q M T) {m : Fin 8} (hg : (s.module m).group = some o)
    {f : Module → Module} (h : (s.module m).Settles M False (f (s.module m)))
    (hf : (f (s.module m)).releasePending = false) :
    ((s.modifyModule m f).memberLost o (s.hasMarks o)).Protected p q M T := by
  have hmark (k : s.hasMarks o = false) : (s.modifyModule m f).hasMarks o = false := by
    by_contra hn
    obtain ⟨j, h1, h2⟩ := (State.hasMarks_iff _ o).1 (by simpa using hn)
    by_cases hj : j = m
    · subst hj
      rw [State.module_modifyModule_self, hf] at h2
      cases h2
    · rw [State.module_modifyModule_ne _ _ hj] at h1 h2
      rw [(s.hasMarks_iff o).2 ⟨j, h1, h2⟩] at k
      cases k
  obtain ⟨h1, h2⟩ := (hs.uncovered.modifyModule h).memberLost ((hs.pool o).home m hg) hmark
  refine hs.covered (.of_acts ((s.actsAt_modifyModule o m f hg).trans (State.actsAt_memberLost _ o _)) ?_) h1
    fun _ => h2
  refine Shrinks.trans (fun k => ?_) (State.shrinks_memberLost _ o _)
  by_cases hk : k = m
  · subst hk; rw [State.module_modifyModule_self]; exact h.group
  · rw [State.module_modifyModule_ne _ _ hk]; exact .inr rfl

/-! ### A change of the admitted capacity (R61, R62) -/

/-- Another admitted capacity, its cover aside. -/
theorem State.Protected.modifySession (hs : s.Protected p q M False) (o : OutletId) (f : Session → Session) :
    (s.modifySession o f).Protected p q M False := by
  refine ⟨⟨fun o' => ?_, hs.module, fun o' => ?_⟩, fun o' => ?_⟩
  · by_cases ho : o' = o
    · subst ho
      have hx := hs.outlet o'
      rw [State.modifySession, State.outlet_modify_self]
      exact ⟨hx.wired, hx.wanted, hx.closing, hx.check, hx.feedback, hx.parallel, hx.overload⟩
    · rw [State.modifySession, State.outlet_modify_ne _ _ ho]; exact hs.outlet o'
  · have hst : ((s.modifySession o f).outlet o').state = (s.outlet o').state := by
      by_cases ho : o' = o
      · subst ho; rw [State.modifySession, State.outlet_modify_self]
      · rw [State.modifySession, State.outlet_modify_ne _ _ ho]
    exact ⟨fun m k => hst ▸ (hs.pool o').home m k, fun r h1 h2 => hst ▸ (hs.pool o').kinds r h1 h2,
      (hs.pool o').single, False.elim⟩
  · by_cases ho : o' = o
    · subst ho; rw [State.modifySession, State.outlet_modify_self]; exact hs.seated o'
    · rw [State.modifySession, State.outlet_modify_ne _ _ ho]; exact hs.seated o'

theorem State.Protected.raiseCapacity (hs : s.Protected p q M T) (h : (s.outlet o).state.supplied = true) (kW : Nat) :
    (s.raiseCapacity o kW).Protected p q M T := by
  simp only [State.raiseCapacity]
  have hsess := hs.uncovered.modifySession o fun r => { r with admitted := kW }
  have hacts := s.actsAt_modifySession o fun r => { r with admitted := kW }
  have hst : ((s.modifySession o fun r => { r with admitted := kW }).outlet o).state.supplied = true := by
    rw [State.modifySession, State.outlet_modify_self]; exact h
  have hsh : Shrinks s (s.modifySession o fun r => { r with admitted := kW }) := .of_same rfl
  generalize (s.modifySession o fun r => { r with admitted := kW }) = v at hsess hacts hst hsh ⊢
  have hi := v.inert_recomputeLimit o
  have hw : (((v.recomputeLimit o).markSurplus o).outlet o).state.supplied = true := by
    simp only [State.markSurplus, State.outlet_modifyModules]
    rw [hi.state]
    exact hst
  refine hs.covered (.of_acts (((hacts.trans (v.actsAt_recomputeLimit o)).trans (State.actsAt_markSurplus _ o)).trans
    (State.actsAt_topUp _ o)) ?_) (((hsess.inert hi).markSurplus o).topUp hw)
    fun _ => .topUp fun hm _ => State.covers_markSurplus _ o hm
  exact ((hsh.trans hi.shrinks).trans (State.shrinks_markSurplus _ o)).trans (.of_same (State.modules_topUp _ o))

end Sys2Proof.Machine
end

section
/-! A capacity decrease, the grants and the modules' lifecycle keep the rules (R46 to R49, R54 to R63). -/

namespace Sys2Proof.Machine

variable {p q : OutletId → Prop} {M T : Prop} {s t u : State} {o : OutletId}

/-! ### A capacity decrease (R62, R63) -/

/-- The surplus members that do not run are stopped, with the others marked. -/
def State.shed (s : State) (o : OutletId) : State :=
  (s.markSurplus o).modifyModules ((s.surplus o).filter fun m => (s.module m).state != .running) Module.stop

theorem State.decrease_eq (s : State) (o : OutletId) (kW : Nat) : s.decrease o kW =
    ((((((s.modifySession o fun x => { x with admitted := kW }).recomputeLimit o).shed o).adjustTopUp o).testRelease
      o).recomputeLimit o) := rfl

theorem State.module_shed (s : State) (o : OutletId) (m : Fin 8) : (s.shed o).module m =
    if m ∈ s.surplus o ∧ (s.module m).state ≠ .running then ((s.markSurplus o).module m).stop
    else (s.markSurplus o).module m := by
  rw [State.shed, State.module_modifyModules _ _ _ _ ((s.surplus_nodup o).filter _)]
  refine if_congr ?_ rfl rfl
  simp

theorem State.outlet_shed (s : State) (o o' : OutletId) : (s.shed o).outlet o' = s.outlet o' := by
  rw [State.shed, State.outlet_modifyModules]
  simp only [State.outlet, (s.markSurplus_frame o).1]

theorem State.Protected.shed (hs : s.Protected p q M False) (o : OutletId) : (s.shed o).Protected p q M False :=
  (hs.markSurplus o).modifyModules ((s.surplus_nodup o).filter _) fun _ _ =>
    ⟨Module.placed_stop _, .inl (Module.group_stop _), nofun, nofun⟩

theorem State.actsAt_shed (s : State) (o : OutletId) : ActsAt o s (s.shed o) := by
  refine (s.actsAt_markSurplus o).trans (State.actsAt_modifyModules _ o _ _ fun m hm => ?_)
  rw [State.group_markSurplus]
  exact (State.mem_surplus (List.mem_filter.1 hm).1).1

theorem State.shrinks_shed (s : State) (o : OutletId) : Shrinks s (s.shed o) :=
  (s.shrinks_markSurplus o).trans (State.shrinks_modifyModules _ _ _ fun _ => .inl (Module.group_stop _))

/-- The shedding keeps the members that are not surplus. -/
theorem State.covers_shed (s : State) (o : OutletId) (h : (s.shed o).hasMarks o = true) :
    (s.shed o).admitted o ≤ (s.shed o).committedUnmarked o := by
  obtain ⟨m, h1, h2⟩ := (State.hasMarks_iff _ o).1 h
  have hm : m ∈ s.surplus o := by
    rw [State.module_shed] at h1 h2
    split at h1
    · rw [Module.group_stop] at h1; cases h1
    · next hn => rw [if_neg hn] at h2; exact State.surplus_of_marked h1 h2
  rw [show (s.shed o).admitted o = s.admitted o by rw [State.admitted_eq, State.outlet_shed, State.admitted_eq],
    State.committedUnmarked_eq]
  refine (State.admitted_le_spares (List.ne_nil_of_mem hm)).trans (List.sum_le_sum fun k _ => ?_)
  rw [State.module_shed]
  split
  · next hk => simp [State.spares, hk.1]
  · exact s.spares_le_carries o k

theorem State.Covered.adjustTopUp
    (hm : s.hasMarks o = true → (s.outlet o).state.supplied = true → s.admitted o ≤ s.committedUnmarked o) :
    (s.adjustTopUp o).Covered o := by
  unfold State.adjustTopUp
  split
  · exact .topUp hm
  · next hn =>
    have hnone : s.request o = none := by simpa using hn
    exact .of_gone (fun r hr => by simpa using List.find?_eq_none.1 hnone r hr) hm

theorem State.Protected.adjustTopUp (hs : s.Protected p q M False) (h : (s.outlet o).state.supplied = true) :
    (s.adjustTopUp o).Protected p q M False := by
  unfold State.adjustTopUp
  split
  · exact hs.topUp h
  · exact hs

theorem State.modules_adjustTopUp (s : State) (o : OutletId) : (s.adjustTopUp o).modules = s.modules := by
  unfold State.adjustTopUp
  split
  · exact s.modules_topUp o
  · rfl

theorem State.Protected.decrease (hs : s.Protected p q M T) (h : (s.outlet o).state.supplied = true) (kW : Nat) :
    (s.decrease o kW).Protected p q M T := by
  rw [State.decrease_eq]
  have hsess := hs.uncovered.modifySession o fun r => { r with admitted := kW }
  have hacts := s.actsAt_modifySession o fun r => { r with admitted := kW }
  have hst : ((s.modifySession o fun r => { r with admitted := kW }).outlet o).state.supplied = true := by
    rw [State.modifySession, State.outlet_modify_self]; exact h
  have hsh : Shrinks s (s.modifySession o fun r => { r with admitted := kW }) := .of_same rfl
  generalize (s.modifySession o fun r => { r with admitted := kW }) = v at hsess hacts hst hsh ⊢
  have hi := v.inert_recomputeLimit o
  have hrec := hsess.inert hi
  have hacts := hacts.trans (v.actsAt_recomputeLimit o)
  rw [← hi.state] at hst
  have hsh := hsh.trans hi.shrinks
  generalize v.recomputeLimit o = w at hrec hacts hst hsh ⊢
  rw [← w.outlet_shed o o] at hst
  have ht : ((w.shed o).adjustTopUp o).Protected p q M T := by
    refine hs.covered (.of_acts ((hacts.trans (w.actsAt_shed o)).trans (State.actsAt_adjustTopUp _ o)) ?_)
      ((hrec.shed o).adjustTopUp hst) fun _ => .adjustTopUp fun hm _ => w.covers_shed o hm
    exact (hsh.trans (w.shrinks_shed o)).trans (.of_same (State.modules_adjustTopUp _ o))
  exact (ht.testRelease o).inert (State.inert_recomputeLimit _ o)

theorem State.state_decrease (s : State) (o o' : OutletId) (kW : Nat) :
    ((s.decrease o kW).outlet o').state = (s.outlet o').state := by
  by_cases ho : o' = o
  · subst ho
    rw [State.decrease_eq, (State.inert_recomputeLimit _ _).state]
    have ht (v : State) : ((v.testRelease o').outlet o').state = (v.outlet o').state := by
      simp only [State.testRelease]
      split
      · rw [(State.inert_computeShares _ _).state, State.outlet_modifyModules]
      · rfl
    have ha (v : State) : ((v.adjustTopUp o').outlet o').state = (v.outlet o').state := by
      have (v : State) : ((v.topUp o').outlet o').state = (v.outlet o').state := by
        unfold State.topUp State.ask
        split
        · split <;> rfl
        · rfl
      unfold State.adjustTopUp
      split
      · exact this v
      · rfl
    rw [ht, ha, State.outlet_shed, (State.inert_recomputeLimit _ _).state, State.modifySession,
      State.outlet_modify_self]
  · rw [(s.actsAt_decrease o kW).outlets o' ho]

theorem State.Protected.cutOne (hs : s.Protected p q M T) (h : (s.outlet o).state.supplied = true) :
    (s.cutOne o).Protected p q M T := by
  simp only [State.cutOne]
  split
  · exact hs
  · exact hs.decrease h _

theorem State.state_cutOne (s : State) (o o' : OutletId) : ((s.cutOne o).outlet o').state = (s.outlet o').state := by
  simp only [State.cutOne]
  split
  · rfl
  · exact s.state_decrease o o' _

theorem State.Protected.gridCut (hs : s.Protected p q M T) : s.gridCut.Protected p q M T := by
  have hcut : ∀ o ∈ s.cutOrder, (s.outlet o).state.supplied = true := fun o ho => by
    have := List.mem_reverse.1 ho
    rw [State.mem_bySession, List.mem_filter] at this
    exact this.2
  unfold State.gridCut
  generalize s.cutOrder = os at hcut
  induction os generalizing s with
  | nil => exact hs
  | cons o os ih =>
    refine ih (hs.cutOne (hcut o (List.mem_cons_self ..))) fun o' ho' => ?_
    rw [State.state_cutOne]
    exact hcut o' (List.mem_cons_of_mem _ ho')

end Sys2Proof.Machine
end

section
/-! The grants, and the orders that open a session or change a capacity, keep the rules (R9, R17, R54 to R61). -/

namespace Sys2Proof.Machine

variable {p q : OutletId → Prop} {M T : Prop} {s t u : State} {o : OutletId}

theorem Outlet.MayEnter.congr {e : Bool} {a b : Prop} {st : OutletState} {x y : Outlet} (h : x.MayEnter e a b st)
    (hc : y.core = x.core) : y.MayEnter e a b st := by
  simp only [Outlet.core, OutletCore.mk.injEq] at hc
  obtain ⟨hst, hph, hcw, hil, hsb, hpb, hck, hfb, hpar, hov, _⟩ := hc
  have hsc := (ShoreBreaker.of_marked hsb).1
  exact ⟨by rw [hil]; exact h.wired.congr hsb hpb, hcw.trans h.unwanted, by rw [hsc]; exact h.closing,
    by rw [hck]; exact h.check, by rw [hck]; exact h.feedback.imp_left (Option.eq_none_congr hfb),
    h.parallel.imp_left (Option.eq_none_congr hpar), by rw [hst]; exact h.overload.imp_left (Option.eq_none_congr hov)⟩

/-! ### Grants (R11, R54 to R56) -/

/-- An outlet at the grant of its initial request (R11). -/
def Outlet.energised (x : Outlet) : Outlet :=
  { x.entered .energising with phase := some .prepare, rampComplete := false, closeWanted := false }

/-- The outlet of an initial grant starts to energise, and no other outlet changes. -/
theorem State.outlet_grant (s : State) (r : Request) (rest : List Request) (ms : List (Fin 8)) :
    (∀ o, o ≠ r.outlet → (s.grant r rest ms).outlet o = s.outlet o) ∧
      (r.kind = .topUp → (s.grant r rest ms).outlet r.outlet = s.outlet r.outlet) ∧
      (r.kind = .initial → (s.outlet r.outlet).state = .admitted →
        (s.grant r rest ms).outlet r.outlet = (s.outlet r.outlet).energised) := by
  unfold State.grant
  dsimp only
  generalize hu : ({ s with grants := rest } : State).modifyModules ms (·.grantTo r.outlet r.kind) = u
  have huo (o : OutletId) : u.outlet o = s.outlet o := by rw [← hu, State.outlet_modifyModules]; rfl
  cases r.kind
  · refine ⟨fun o ho => ?_, nofun, fun _ hst => ?_⟩ <;> dsimp only [State.startEnergising]
    · rw [State.outlet_modify_ne _ _ ho, (u.enter_frame r.outlet .energising).2.2.1 o ho, huo]
    · rw [State.outlet_modify_self, State.outlet_enter_cases, huo, hst]
      rfl
  · exact ⟨fun o _ => huo o, fun _ => huo _, nofun⟩

theorem Module.placed_grantTo {m : Module} (hm : m.Placed M) (hf : m.isFree = true) (o : OutletId) (kind : RequestKind) :
    (m.grantTo o kind).Placed M := by
  refine ⟨rfl, .inl ?_, nofun, fun k => Module.timersSound_grantTo (hm.timers k) hf o kind⟩
  simp only [Module.isFree, Bool.and_eq_true] at hf
  exact Option.isNone_iff_eq_none.1 hf.1.2

theorem Module.group_of_free {m : Module} (hm : m.Placed M) (hf : m.isFree = true) : m.group = none := by
  have := hm.group
  rw [Module.isFree_off hf] at this
  exact Option.not_isSome_iff_eq_none.1 (by simp [this, ModuleState.isMember])

theorem Outlet.Guarded.energised {e : Bool} {a b : Prop} {x : Outlet} (hx : x.Guarded e a b) (hst : x.state = .admitted) :
    x.energised.Guarded e a b := by
  have h := hx.mayEnter (st := .energising) (by simp [hst]) (by simp [hst]) (by simp [hst]) (by simp [hst])
  exact ⟨h.wired, nofun, fun k => .inl (h.closing k), h.check, h.feedback, h.parallel, .inl rfl⟩

/-- No request of the granted outlet is left. -/
theorem State.Pooled.alone {r : Request} {rest : List Request} (h : s.Pooled T r.outlet) (hg : s.grants = r :: rest) :
    ∀ r' ∈ rest, r'.outlet ≠ r.outlet := fun r' hr' ho => by
  have := h.single
  rw [hg, List.countP_cons_of_pos (by simp)] at this
  exact absurd (List.countP_eq_zero.1 (Nat.le_zero.1 (Nat.le_of_succ_le_succ this)) r' hr') (by simp [ho])

theorem State.Protected.grant (hs : s.Protected p q M T) {r : Request} {rest : List Request} {ms : List (Fin 8)}
    (hg : s.grants = r :: rest) (h : s.grantable r = some ms) : (s.grant r rest ms).Protected p q M T := by
  obtain ⟨hnd, hfree, _⟩ := State.grantable_spec h
  obtain ⟨hothers, htopUp, hinitial⟩ := s.outlet_grant r rest ms
  have hcore (m : Fin 8) : ((s.grant r rest ms).module m).core =
      (if m ∈ ms then (s.module m).grantTo r.outlet r.kind else s.module m).core :=
    Module.core_of_share (State.grant_module rest hnd m)
  have hgroup (m : Fin 8) (hm : m ∈ ms) : (s.module m).group = none := Module.group_of_free (hs.module m) (hfree m hm)
  have hr : r ∈ s.grants := hg ▸ List.mem_cons_self ..
  have halone := (hs.pool r.outlet).alone hg
  have hfits := (hs.pool r.outlet).kinds r hr rfl
  have hgr : (s.grant r rest ms).grants = rest := by rw [State.grant_frame]
  have he : (s.grant r rest ms).estopAllMade = s.estopAllMade := by rw [State.grant_frame]
  generalize s.grant r rest ms = t at hothers htopUp hinitial hcore hgr he ⊢
  have hwithin : Within r.outlet s t := by
    refine ⟨fun o' ho => by rw [hothers o' ho], he, fun m => ?_, by rw [hgr, hg]; simp⟩
    rw [hcore m]
    split
    · next hm =>
      refine .inr fun o' ho => ⟨by rw [hgroup m hm]; nofun, ?_⟩
      have := congrArg ModuleCore.group (hcore m)
      rw [if_pos hm] at this
      rw [show (t.module m).group = some r.outlet from this]
      simpa using Ne.symm ho
    · exact .inl rfl
  have hout : (t.outlet r.outlet).state.supplied = true ∧ t.admitted r.outlet = s.admitted r.outlet ∧
      (t.outlet r.outlet).Guarded s.estopAllMade (p r.outlet) (q r.outlet) ∧ (t.outlet r.outlet).Seated := by
    rw [State.admitted_eq, State.admitted_eq]
    cases hk : r.kind
    · rw [hk] at hfits
      rw [hinitial hk hfits]
      exact ⟨rfl, rfl, (hs.outlet _).energised hfits, Outlet.seated_of_not rfl⟩
    · rw [hk] at hfits
      rw [htopUp hk]
      exact ⟨hfits, rfl, hs.outlet _, hs.seated _⟩
  obtain ⟨hsup, hadm, hx, hseat⟩ := hout
  refine hs.within hwithin hx hseat (fun m hm => ?_) ⟨fun m _ => OutletState.within_of_supplied hsup,
    fun r' h1 h2 => ((halone r' (hgr ▸ h1)) h2).elim, ?_, fun k => .of_gone (fun r' h1 => halone r' (hgr ▸ h1)) fun hmk _ => ?_⟩
  · rw [hcore m] at hm
    refine Module.Placed.congr (m := if m ∈ ms then (s.module m).grantTo r.outlet r.kind else s.module m) ?_ (hcore m)
    split
    · next hmem => exact Module.placed_grantTo (hs.module m) (hfree m hmem) _ _
    · exact hs.module m
  · rw [hgr, List.countP_eq_zero.2 fun r' hr' => by simpa using halone r' hr']
    exact Nat.zero_le 1
  · have hmk' : s.hasMarks r.outlet = true := by
      obtain ⟨m, h1, h2⟩ := (t.hasMarks_iff _).1 hmk
      have hc := hcore m
      split at hc
      · have := congrArg ModuleCore.releasePending hc
        rw [show (t.module m).releasePending = false from this] at h2
        cases h2
      · exact (s.hasMarks_iff _).2 ⟨m, (congrArg ModuleCore.group hc).symm.trans h1,
          (congrArg ModuleCore.releasePending hc).symm.trans h2⟩
    have hsup' : (s.outlet r.outlet).state.supplied = true := by
      cases hk : r.kind
      · rw [hk] at hfits
        obtain ⟨m, h1, _⟩ := (s.hasMarks_iff _).1 hmk'
        have := (hs.pool r.outlet).home m h1
        rw [show (s.outlet r.outlet).state = .admitted from hfits] at this
        cases this
      · rw [← htopUp hk]; exact hsup
    rw [hadm]
    refine (((hs.pool r.outlet).figures k).marks hmk' hsup').trans (State.committedUnmarked_le fun m => ?_)
    rw [Module.carries_congr (hcore m)]
    split
    · next hm => rw [Module.carries_of_not (.inl (hgroup m hm))]; exact Nat.zero_le _
    · exact le_rfl

theorem State.Protected.examine (hs : s.Protected p q M T) (n : Nat) : (s.examine n).Protected p q M T := by
  induction n generalizing s with
  | zero => exact hs
  | succ n ih =>
    simp only [State.examine]
    split
    · exact hs
    · next r rest hg =>
      split
      · exact hs
      · next ms h => exact ih (hs.grant hg h)

theorem State.Protected.reallocate (hs : s.Protected p q M T) : s.reallocate.Protected p q M T :=
  ((hs.inert s.inert_recomputeLimits).examine _).inert (State.inert_settleBudget _)

/-! ### Sessions admitted (R9, R17) -/

theorem State.ask_frame (s : State) (o : OutletId) (kind : RequestKind) (w : Nat) :
    s.ask o kind w = { s with grants := (s.ask o kind w).grants } := by
  unfold State.ask
  split <;> rfl

/-- A session admitted: its initial request joins the queue as its outlet enters ADMITTED. -/
theorem State.Protected.enterAdmitted {v : State} (hs : s.Protected p q M T) (hacts : Within o s v)
    (hm : v.modules = s.modules) (hg : v.grants = s.grants)
    (hst : (s.outlet o).state.within .energising .deEnergising = false) (hna : (s.outlet o).state ≠ .admitted)
    (hx : (v.outlet o).MayEnter s.estopAllMade (p o) (q o) .admitted) {w : Nat} (hw : v.admitted o ≤ w) :
    (((v.ask o .initial w).welcome o).enter o .admitted).Protected p q M T := by
  have hi := State.inert_welcome (v.ask o .initial w) o
  have hv := (State.moves_enter ((v.ask o .initial w).welcome o) o .admitted)
  have hmod (m : Fin 8) : ((((v.ask o .initial w).welcome o).enter o .admitted).module m).core = (s.module m).core := by
    rw [hv.module, hi.module, State.ask_frame]
    simp only [State.module, hm]
  have hgr : ((((v.ask o .initial w).welcome o).enter o .admitted).grants).map Request.core =
      (v.ask o .initial w).grants.map Request.core := hv.grants.trans hi.grants
  have hno (r : Request) (hr : r ∈ s.grants) : r.outlet ≠ o := fun hro => by
    have := (hs.pool o).kinds r hr hro
    cases hk : r.kind
    · rw [hk] at this
      exact hna this
    · rw [hk] at this
      rw [OutletState.within_of_supplied this] at hst
      cases hst
  have hask : (v.ask o .initial w).grants =
      s.grants ++ [{ outlet := o, kind := .initial, wanted := w, wait := grantWait }] := by
    rw [State.ask, if_neg, hg]
    rw [State.request, hg, List.find?_eq_none.2 fun r hr => by simpa using hno r hr]
    decide
  have hmem (r : Request) (hr : r ∈ (((v.ask o .initial w).welcome o).enter o .admitted).grants) (hro : r.outlet = o) :
      r.kind = .initial ∧ r.wanted = w := by
    obtain ⟨r', hr', e1, e2, e3⟩ := Request.mem_of_core hgr hr
    rw [hask] at hr'
    rcases List.mem_append.1 hr' with hr' | hr'
    · exact (hno r' hr' (e1.trans hro)).elim
    · rw [List.mem_singleton.1 hr'] at e2 e3
      exact ⟨e2.symm, e3.symm⟩
  have hout (m : Fin 8) (k : ((((v.ask o .initial w).welcome o).enter o .admitted).module m).group = some o) : False := by
    have := (hs.pool o).home m ((congrArg ModuleCore.group (hmod m)).symm.trans k)
    rw [hst] at this
    cases this
  refine hs.within ?_ ?_ (State.seated_enter rfl) (fun m k => (k (hmod m)).elim) ⟨fun m k => ?_, fun r hr hro => ?_, ?_,
    fun _ => ⟨fun r hr hro => ?_, fun hmk => ?_⟩⟩
  · exact (hacts.trans (.of_acts (v.actsAt_ask o _ _) (.of_same (by rw [State.ask_frame])))).trans
      ((hi.within o).trans (.of_acts (State.actsAt_enter _ o _) (State.moves_enter _ o _).drops.shrinks))
  · refine State.guarded_enter (hx.congr ?_)
    rw [hi.outlet, State.ask_frame]
    rfl
  · exact (hout m k).elim
  · rw [(hmem r hr hro).1]
    exact (State.enter_frame _ o _).2.1
  · rw [Request.count_of_core hgr, hask, List.countP_append,
      List.countP_eq_zero.2 fun r hr => by simpa using hno r hr]
    exact (Nat.zero_add _).trans_le List.countP_le_length
  · rw [(hmem r hr hro).2, hv.admitted, hi.admitted, State.ask_frame]
    exact hw.trans (Nat.le_add_left _ _)
  · obtain ⟨m, h1, _⟩ := (State.hasMarks_iff _ o).1 hmk
    exact (hout m h1).elim

theorem State.Protected.openSession (hs : s.Protected p q M T)
    (hst : (s.outlet o).state = .cabled ∨ (s.outlet o).state = .announced) (n kW : Nat) (vessel account : Option Text) :
    (s.openSession o n kW vessel account).Protected p q M T := by
  have hx := (hs.outlet o).mayEnter (st := .admitted) (by rcases hst with h | h <;> simp [h])
    (by rcases hst with h | h <;> simp [h]) (by rcases hst with h | h <;> simp [h]) (by rcases hst with h | h <;> simp [h])
  simp only [State.openSession]
  refine hs.enterAdmitted ?_ ?_ ?_ (by rcases hst with h | h <;> rw [h] <;> rfl) (by rcases hst with h | h <;> simp [h]) ?_ ?_
  · exact ⟨fun o' ho => by rw [State.outlet_modify_ne _ _ ho]; rfl, rfl, fun _ => .inl rfl, rfl⟩
  · rfl
  · rfl
  · rw [State.outlet_modify_self]
    exact ⟨hx.wired, hx.unwanted, hx.closing, hx.check, hx.feedback, hx.parallel, hx.overload⟩
  · rw [State.admitted_eq, State.outlet_modify_self]
    exact le_rfl

theorem State.Protected.resumeSession (hs : s.Protected p q M T) (hst : (s.outlet o).state = .tripped) :
    (s.resumeSession o).Protected p q M T :=
  hs.enterAdmitted ((Inert.refl s).within o) rfl rfl (by rw [hst]; rfl) (by simp [hst])
    ((hs.outlet o).mayEnter (by simp [hst]) (by simp [hst]) (by simp [hst]) (by simp [hst])) le_rfl

/-! ### The orders -/

theorem State.inert_okOr (s : State) (c : Bool) (ps : List (String × Value)) : Inert s (s.okOr c ps) := by
  unfold State.okOr
  split <;> exact s.inert_answer _

theorem State.Protected.changeCapacity (hs : s.Protected p q M T) (h : (s.outlet o).state.supplied = true) (kW : Nat)
    (clamped : Bool) : (s.changeCapacity o kW clamped).Protected p q M T := by
  simp only [State.changeCapacity]
  split
  · exact hs.inert (s.inert_okOr _ _)
  · split
    · exact (hs.decrease h kW).reallocate.inert (State.inert_okOr _ _ _)
    · split
      · exact (hs.raiseCapacity h kW).reallocate.inert (State.inert_okOr _ _ _)
      · exact hs.inert (s.inert_refuse _ _)

/-- A capacity changed in ADMITTED changes what the initial request wants (R61). -/
theorem State.Protected.recast (hs : s.Protected p q M T) (hst : (s.outlet o).state = .admitted) (kW : Nat) :
    ((s.modifySession o fun r => { r with admitted := kW }).ask o .initial kW).Protected p q M T := by
  have hv := hs.uncovered.modifySession o fun r => { r with admitted := kW }
  have hout := State.outlet_modify_self s o fun x => { x with session := x.session.map fun r => { r with admitted := kW } }
  have hacts := s.actsAt_modifySession o fun r => { r with admitted := kW }
  have hmod (m : Fin 8) : (s.modifySession o fun r => { r with admitted := kW }).module m = s.module m := rfl
  have hsh : Shrinks s (s.modifySession o fun r => { r with admitted := kW }) := .of_same rfl
  rw [show s.modify o _ = s.modifySession o fun r => { r with admitted := kW } from rfl] at hout
  generalize s.modifySession o (fun r => { r with admitted := kW }) = v at hv hout hacts hmod hsh ⊢
  refine hs.covered (.of_acts (hacts.trans (v.actsAt_ask o _ _)) (hsh.trans (.of_same (by rw [State.ask_frame]))))
    (hv.ask (by rw [hout]; exact hst) kW) fun _ => ⟨fun r hr hro => ?_, fun _ h => ?_⟩
  · rw [State.wanted_ask hr hro, State.ask_frame, State.admitted_eq]
    refine le_trans ?_ (Nat.le_add_left _ _)
    show (v.outlet o).admitted ≤ kW
    rw [hout]
    cases (s.outlet o).session
    · exact Nat.zero_le _
    · exact le_rfl
  · rw [State.ask_frame] at h
    replace h : (v.outlet o).state.supplied = true := h
    rw [hout, show (({ s.outlet o with session := _ } : Outlet)).state = .admitted from hst] at h
    cases h

end Sys2Proof.Machine
end

section
/-! The modules' lifecycle and the requests' waits keep the rules (R44 to R50, R57, R64, R65). -/

namespace Sys2Proof.Machine

variable {p q : OutletId → Prop} {M T : Prop} {s t u : State} {o : OutletId} {m : Fin 8}

/-! ### Faults (R50) -/

theorem Module.placed_faultWith (x : Module) (code : FaultCode) : (x.faultWith code).Placed M :=
  ⟨rfl, .inl rfl, nofun, fun _ => rfl⟩

/-- A module outside any group counts nothing, whatever becomes of it. -/
theorem Module.Settles.of_free {x y : Module} (hx : x.group = none) (hy : y.Placed M) (hg : y.group = none)
    (hp : y.releasePending = false) : x.Settles M T y :=
  ⟨hy, .inl hg, fun _ o => by rw [Module.carries_of_not (.inl hx)]; exact Nat.zero_le _, fun _ k => by rw [hp] at k; cases k⟩

/-- A module out of any group has no member's mark and, where `M`, no lifecycle timer. -/
theorem Module.Placed.outside {x : Module} (hx : x.Placed M) (hg : x.group = none) :
    x.state.isMember = false ∧ x.releasePending = false := by
  have hm : x.state.isMember = false := by rw [← hx.group, hg]; rfl
  refine ⟨hm, ?_⟩
  by_contra h
  rw [hx.pending (by simpa using h)] at hm
  cases hm

theorem Module.timersSound_outside {x : Module} (hx : x.timersSound = true) (hm : x.state.isMember = false) :
    x.precharge = none ∧ x.selfTest = none ∧ x.drain = none := by
  simp only [Module.timersSound, Bool.and_eq_true, Bool.or_eq_true, Option.isNone_iff_eq_none, beq_iff_eq] at hx
  obtain ⟨⟨h1, h2⟩, h3⟩ := hx
  refine ⟨h1.resolve_right ?_, h2.resolve_right ?_, h3.resolve_right ?_⟩ <;> rintro e <;> rw [e] at hm <;> cases hm

/-- A module outside any group may change its state to another outside. -/
theorem Module.settles_outside {x y : Module} (hx : x.Placed M) (hxg : x.group = none) (hst : y.state.isMember = false)
    (hr : y.rest = none ∨ y.state = .off) (hg : y.group = x.group) (hp : y.releasePending = x.releasePending)
    (h1 : y.precharge = x.precharge) (h2 : y.selfTest = x.selfTest) (h3 : y.drain = x.drain) : x.Settles M T y := by
  obtain ⟨hm, hrp⟩ := hx.outside hxg
  refine .of_free hxg ⟨by rw [hg, hxg, hst]; rfl, hr, fun k => ?_, fun k => ?_⟩ (hg.trans hxg) (hp.trans hrp)
  · rw [hp, hrp] at k; cases k
  · obtain ⟨e1, e2, e3⟩ := Module.timersSound_outside (hx.timers k) hm
    simp [Module.timersSound, h1, h2, h3, e1, e2, e3]

theorem State.Protected.faultModule (hs : s.Protected p q M T) (m : Fin 8) (code : FaultCode) :
    (s.faultModule m code).Protected p q M T := by
  unfold State.faultModule
  split
  · next o hg => exact hs.loseMember hg ⟨Module.placed_faultWith _ code, .inl rfl, nofun, nofun⟩ rfl
  · next hg =>
    have hm := (hs.module m)
    split
    · next hst => exact hs.modifyModule (.of_core hm rfl)
    · exact hs.modifyModule (Module.settles_outside hm hg rfl (.inl rfl) rfl rfl rfl rfl rfl)

/-! ### Service and return (R64, R65) -/

theorem State.Protected.serviceModule (hs : s.Protected p q M T) (m : Fin 8) :
    (s.serviceModule m).Protected p q M T := by
  have hm := hs.module m
  simp only [State.serviceModule]
  split
  · next o hg =>
    have hmem : (s.module m).state.isMember = true := by rw [← hm.group, hg]; rfl
    split
    · next hst => exact hs.modifyModule (.of_core hm (by simp only [Module.toService, hst, Module.core]))
    · next hst =>
      have hset : (s.module m).Settles M False (Module.toService (s.module m)) ∧
          (Module.toService (s.module m)).releasePending = false := by
        unfold Module.toService
        have hstop (x : Module) : (s.module m).Settles M False x.stop ∧ x.stop.releasePending = false := by
          refine ⟨⟨Module.placed_stop _, .inl (Module.group_stop _), nofun, nofun⟩, ?_⟩
          unfold Module.stop Module.retire
          split <;> rfl
        cases hst' : (s.module m).state
        case running =>
          have h := Module.settles_release (T := False) hm hst' nofun
          exact ⟨⟨h.placed.congr rfl, .inr rfl, nofun, nofun⟩, rfl⟩
        case releasing => exact (hst hst').elim
        case precharging | selfTest | standby => exact hstop _
        all_goals rw [hst'] at hmem; cases hmem
      exact hs.loseMember hg hset.1 hset.2
  · next hg =>
    refine hs.modifyModule ?_
    obtain ⟨hmem, _⟩ := hm.outside hg
    unfold Module.toService
    cases hst : (s.module m).state
    case off => exact Module.settles_outside hm hg rfl (.inl rfl) rfl rfl rfl rfl rfl
    case faulted =>
      exact Module.settles_outside hm hg rfl (.inl (hm.rest.resolve_right (by simp [hst]))) rfl rfl rfl rfl rfl
    case outOfService => exact .of_core hm (by simp only [hst, Module.core])
    all_goals rw [hst] at hmem; cases hmem

theorem State.Protected.returnModule (hs : s.Protected p q M T)
    (hst : (s.module m).state = .outOfService ∨ (s.module m).state = .faulted) :
    (s.modifyModule m fun x => { x with state := .off, rest := some restTime, service := false }).Protected p q M T := by
  have hm := hs.module m
  have hg : (s.module m).group = none := by
    have := hm.group
    rcases hst with h | h <;> rw [h] at this <;> exact Option.not_isSome_iff_eq_none.1 (by simp [this, ModuleState.isMember])
  exact hs.modifyModule (Module.settles_outside hm hg rfl (.inr rfl) rfl rfl rfl rfl rfl)

theorem State.Protected.orderReturn (hs : s.Protected p q M T) (n : Nat) : (s.orderReturn n).Protected p q M T := by
  unfold State.orderReturn State.forModule
  split
  · exact hs.inert (s.inert_no _)
  · dsimp only
    split
    · next h => exact (hs.returnModule h).inert (State.inert_answer _ _)
    · split
      · exact (hs.modifyModule (.of_core (hs.module _) rfl)).inert (State.inert_answer _ _)
      · exact hs.inert (s.inert_no _)

theorem State.Protected.orderService (hs : s.Protected p q M T) (n : Nat) : (s.orderService n).Protected p q M T := by
  unfold State.orderService State.forModule
  split
  · exact hs.inert (s.inert_no _)
  · dsimp only
    split
    · exact hs.inert (s.inert_no _)
    · exact (hs.serviceModule _).inert (State.inert_answer _ _)

/-- A signature and a rating are given to a module outside any group (R65). -/
theorem State.Protected.orderSignature (hs : s.Protected p q M T) (n sig rating : Nat) :
    (s.orderSignature n sig rating).Protected p q M T := by
  unfold State.orderSignature State.forModule
  split
  · exact hs.inert (s.inert_no _)
  · next m _ =>
    dsimp only
    split
    · exact hs.inert (s.inert_no _)
    · split
      · exact hs.inert (s.inert_no _)
      · next hmem =>
        have hm := hs.module m
        have hg : (s.module m).group = none := by
          have := hm.group
          exact Option.not_isSome_iff_eq_none.1 (by rw [this]; exact hmem)
        obtain ⟨_, hrp⟩ := hm.outside hg
        exact (hs.modifyModule (.of_free hg ⟨hm.group, hm.rest, hm.pending, hm.timers⟩ hg hrp)).inert
          (State.inert_okOr _ _ _)

/-! ### The reports of a module (R45 to R48) -/

theorem State.inert_moduleAnswers (s : State) (m : Fin 8) : Inert s (s.moduleAnswers m) :=
  s.inert_modifyModule m _ rfl

theorem State.Protected.takeCharged (hs : s.Protected p q M T) (m : Fin 8) :
    (s.takeCharged m).Protected p q M T := by
  unfold State.takeCharged
  split
  · next hst =>
    have hm := hs.module m
    refine hs.modifyModule ⟨⟨?_, .inl (hm.rest.resolve_right (by simp [hst])), fun k => ?_, fun k => ?_⟩, .inr rfl,
      fun _ o => le_of_eq ?_, fun _ => id⟩
    · show (s.module m).group.isSome = true
      rw [hm.group, hst]; rfl
    · have := hm.pending k; rw [hst] at this; cases this
    · have := hm.timers k
      simp only [Module.timersSound, hst, Bool.and_eq_true, Bool.or_eq_true] at this ⊢
      obtain ⟨⟨_, _⟩, h⟩ := this
      exact ⟨⟨.inl rfl, .inr rfl⟩, .inl (h.resolve_right (by decide))⟩
    · simp [Module.carries, hst, committedStates]
  · exact hs

theorem State.Protected.standBy (hs : s.Protected p q M T) (hst : (s.module m).state = .selfTest) :
    (s.standBy m).Protected p q M T := by
  have hm := hs.module m
  have hv : (s.modifyModule m fun x => { x with state := .standby, selfTest := none }).Protected p q M T := by
    refine hs.modifyModule ⟨⟨?_, .inl (hm.rest.resolve_right (by simp [hst])), fun k => ?_, fun k => ?_⟩, .inr rfl,
      fun _ o => le_of_eq ?_, fun _ => id⟩
    · show (s.module m).group.isSome = true
      rw [hm.group, hst]; rfl
    · have := hm.pending k; rw [hst] at this; cases this
    · have := hm.timers k
      simp only [Module.timersSound, hst, Bool.and_eq_true, Bool.or_eq_true] at this ⊢
      obtain ⟨⟨h1, _⟩, h⟩ := this
      exact ⟨⟨.inl (h1.resolve_right (by decide)), .inl rfl⟩, .inl (h.resolve_right (by decide))⟩
    · simp [Module.carries, hst, committedStates]
  simp only [State.standBy]
  split
  · exact hv
  · split
    · exact hv.runGroup _
    · exact hv

theorem State.Protected.takeResult (hs : s.Protected p q M T) (m : Fin 8) (pass : Bool) (sig : BitVec 32) :
    (s.takeResult m pass sig).Protected p q M T := by
  unfold State.takeResult
  split
  · next hst =>
    split
    · exact hs.faultModule m _
    · split
      · exact hs.faultModule m _
      · exact hs.standBy hst
  · exact hs

/-- The end of a drain: where the figures are read, the member was in RELEASING and counted nothing (R49). -/
theorem State.Protected.endDrain (hs : s.Protected p q M T) (h : T → (s.module m).state = .releasing) :
    (s.endDrain m).Protected p q M T := by
  unfold State.endDrain
  split
  · exact hs
  · refine State.Protected.inert (hs.modifyModule ⟨Module.placed_stop _, .inl (Module.group_stop _), fun k o => ?_, fun _ k => ?_⟩)
      (State.inert_computeShares _ _)
    · rw [Module.carries_of_not (.inr (.inl (by rw [h k]; decide)))]
      exact Nat.zero_le _
    · unfold Module.stop Module.retire at k
      split at k <;> cases k

theorem State.Protected.rested (hs : s.Protected p q M T) (m : Fin 8) :
    (s.modifyModule m fun x => { x with rest := none }).Protected p q M T := by
  have hm := hs.module m
  exact hs.modifyModule ⟨⟨hm.group, .inl rfl, hm.pending, hm.timers⟩, .inr rfl, fun _ _ => le_rfl, fun _ => id⟩

/-! ### The wait of a request (R10, R57) -/

theorem State.Protected.expireRequest (hs : s.Protected p q M T) {r : Request}
    (hfits : r.kind.fits (s.outlet r.outlet).state) : (s.expireRequest r).Protected p q M T := by
  unfold State.expireRequest
  cases hk : r.kind
  · rw [hk] at hfits
    exact (hs.withdraw r.outlet).deEnergise (.inl (by rw [State.outlet_withdraw, show (s.outlet r.outlet).state = _ from hfits]; rfl)) _
  · exact (hs.withdraw r.outlet).inert (State.inert_raiseAt _ _ _)

end Sys2Proof.Machine
end

section
/-! Interlocks and breakers keep the rules (R1, R12, R29 to R41, R106 to R112). -/

namespace Sys2Proof.Machine

variable {p q : OutletId → Prop} {M T : Prop} {s t u v : State} {o : OutletId}

/-! ### Updates and moves of one outlet -/

/-- An outlet that has been updated at most moves to another state. -/
theorem State.Protected.moveTo {st : OutletState} (hs : s.Protected p q M T) (hv : Moves o s v)
    (hx : (v.outlet o).MayEnter s.estopAllMade (p o) (q o) st) (hm : (s.outlet o).state.mayMove st)
    (hseat : st.isTransfer = true → (v.outlet o).sb.channel = .closed ∧ (v.outlet o).sb.feedback = true ∧
      (v.outlet o).pb.channel = .idle ∧ (v.outlet o).pb.feedback = true) : (v.enter o st).Protected p q M T := by
  refine hs.moves (hv.trans (v.moves_enter o st)) (by rw [(v.enter_frame o st).2.1]; exact hm)
    (State.guarded_enter hx) fun h => ?_
  rw [(v.enter_frame o st).2.1] at h
  exact State.seated_enter_of (hseat h) (by rw [(v.enter_frame o st).2.1]; exact h)

theorem OutletState.mayMove_of_supplied {st st' : OutletState} (h : st.supplied = true) (h' : st'.supplied = true) :
    st.mayMove st' := .inr (.inl ⟨h, h'⟩)

theorem Wired.free {free free' : Bool} {a : Prop} {sb : ShoreBreaker} {pb : ParallelBreaker} (h : Wired free a sb pb)
    (hf : free = true → free' = true) : Wired free' a sb pb :=
  ⟨h.sbForm, h.pbForm, fun k => hf (h.command k), fun k => ⟨hf (h.pulse k).1, (h.pulse k).2⟩⟩

theorem Outlet.Guarded.free {e e' : Bool} {a b : Prop} {x : Outlet} {i : Interlocks} (hx : x.Guarded e a b)
    (hf : x.interlocks.made e = true → i.made e' = true) : ({ x with interlocks := i } : Outlet).Guarded e' a b :=
  ⟨hx.wired.free hf, hx.wanted, hx.closing, hx.check, hx.feedback, hx.parallel, hx.overload⟩

/-! ### The loss of an interlock (R29, R30) -/

/-- What the unit does with an outlet's breakers at a loss (R30). -/
def Outlet.lossOpened (x : Outlet) : Outlet := { x with sb := x.sb.requestOpen, pb := x.pb.openOnLoss }

theorem ParallelBreaker.openOnLoss_cancelClose (b : ParallelBreaker) : b.cancelClose.openOnLoss = b.openOnLoss := by
  unfold ParallelBreaker.cancelClose
  split
  · next h => simp [ParallelBreaker.openOnLoss, ParallelBreaker.startTrip, h]
  · rfl

/-- The unit's own opening, where no close request waits under a close command. -/
theorem State.openOnLoss_eq (h : (s.outlet o).sb.channel = .closing → (s.outlet o).closeWanted = false) :
    s.openOnLoss o = s.modify o Outlet.lossOpened := by
  unfold State.openOnLoss
  split
  · next hc =>
    rw [State.requestSbOpen_eq (h hc), State.modifyPb, State.modify_modify]
    exact State.modify_congr (by simp [Outlet.askSbOpen, Outlet.lossOpened, hc])
  · next hc =>
    simp only [State.requestSbOpen, hc, ShoreBreaker.answersOpen, if_true, Bool.false_eq_true, if_false, State.modifyPb,
      State.modifySb, State.modify_modify]
    exact State.modify_congr (by simp [Outlet.lossOpened, ParallelBreaker.openOnLoss_cancelClose])
  · next h1 h2 =>
    exact State.modify_congr (by simp [Outlet.lossOpened, ShoreBreaker.requestOpen_of_left h1 h2])

/-- Breakers the unit has opened stand under the lock. -/
theorem Outlet.Guarded.lossOpened {e e' : Bool} {a b : Prop} {x : Outlet} (hx : x.Guarded e a b) (i : Interlocks) :
    ({ x.lossOpened with interlocks := i } : Outlet).Guarded e' a b := by
  obtain ⟨h1, h2⟩ := x.sb.requestOpen_channel
  refine ⟨.of_open (ShoreBreaker.wellFormed_requestOpen hx.wired.sbForm)
    (ParallelBreaker.wellFormed_openOnLoss hx.wired.pbForm) h1 h2 x.pb.openOnLoss_channel, fun k => ?_,
    fun k => (h1 k).elim, hx.check, hx.feedback, hx.parallel, hx.overload⟩
  obtain ⟨k1, k2, k3⟩ := hx.wanted k
  refine ⟨k1, k2, ?_⟩
  show x.sb.requestOpen.channel = .opening ∨ x.sb.requestOpen.channel = .stuck
  rw [ShoreBreaker.requestOpen_of_wanted k3]
  exact k3

theorem Outlet.Guarded.unwanted_closing {e : Bool} {a b : Prop} {x : Outlet} (hx : x.Guarded e a b)
    (h : x.sb.channel = .closing) : x.closeWanted = false := hx.unwanted (.inr (by simp [h]))

theorem State.Protected.movePlug (hs : s.Protected p q M T) (o : OutletId) (made : Bool) :
    (s.movePlug o made).Protected p q M T := by
  have enter (v : State) (hi : Inert s v) (st : OutletState) (hst : (s.outlet o).state.within .vacant .announced = true)
      (hn : st.isTransfer = false) : (v.enter o st).Protected p q M T := by
    have hne : (s.outlet o).state ≠ .energising ∧ (s.outlet o).state ≠ .synchronising ∧
        (s.outlet o).state ≠ .transferIn ∧ (s.outlet o).state ≠ .transferOut ∧
        (s.outlet o).state.within .energising .deEnergising = false ∧ (s.outlet o).state ≠ .admitted := by
      revert hst
      cases (s.outlet o).state <;> decide
    obtain ⟨h1, h2, h3, h4, h5⟩ := hne
    exact hs.moveTo (hi.moves o) (((hs.outlet o).mayEnter (fun k => h1 k.1) h2 h3 h4).congr (hi.outlet o))
      (.inr (.inr h5)) fun k => by rw [hn] at k; cases k
  unfold State.movePlug
  split
  · next hst => exact enter s (.refl s) _ (by rw [hst]; rfl) rfl
  · next hst => exact enter s (.refl s) _ (by rw [hst]; rfl) rfl
  · next hst => exact enter _ (s.inert_modify o _ rfl) _ (by rw [hst]; rfl) rfl
  · exact hs

/-! ### The check is left (R98, R107 to R111) -/

theorem Outlet.Guarded.synchronising {e : Bool} {a b : Prop} {x : Outlet} (hx : x.Guarded e a b)
    (h : x.check.state ≠ .inactive) : x.state = .synchronising := hx.check.resolve_left h

theorem State.Protected.leaveSync (hs : s.Protected p q M T) (hst : (s.outlet o).state = .synchronising)
    (out : SyncOutcome) : (s.leaveSync o out).Protected p q M T := by
  simp only [State.leaveSync]
  have hx := hs.outlet o
  refine hs.moveTo (v := (s.modify o _).raiseSome o _) ((Moves.of_modify rfl).trans ((State.inert_raiseSome _ o _).moves o)) ?_
    (OutletState.mayMove_of_supplied (by rw [hst]; rfl) rfl) nofun
  refine Outlet.MayEnter.congr ?_ ((State.inert_raiseSome _ o _).outlet o)
  rw [State.outlet_modify_self]
  exact ⟨hx.wired, hx.unwanted (.inl (by simp [hst])), fun k => (hx.closing k).resolve_right (by simp [hst]), .inl rfl,
    .inl rfl, .inl (hx.parallel_none (by simp [hst]) (by simp [hst])), hx.overload⟩

/-- Another check, still at work where the outlet stands in SYNCHRONISING. -/
theorem State.Protected.modifyCheck (hs : s.Protected p q M T) {f : SyncCheck → SyncCheck}
    (hc : (f (s.outlet o).check).state = .inactive ∨ (s.outlet o).state = .synchronising)
    (hf : (f (s.outlet o).check).feedbackTimer = none ∨ (f (s.outlet o).check).state = .closing) :
    (s.modifyCheck o f).Protected p q M T := by
  have hx := hs.outlet o
  exact hs.modify rfl rfl ⟨hx.wired, hx.wanted, hx.closing, hc, hf, hx.parallel, hx.overload⟩ (hs.seated o)

/-- A PB tripped where no transfer state needs it closed. -/
theorem State.Protected.requestPbTrip (hs : s.Protected p q M T) (h : (s.outlet o).state.isTransfer = false) :
    (s.requestPbTrip o).Protected p q M T :=
  hs.modify (f := fun x => { x with pb := x.pb.requestTrip }) rfl rfl (hs.outlet o).requestTrip (Outlet.seated_of_not h)

theorem State.state_requestPbTrip (s : State) (o : OutletId) :
    ((s.requestPbTrip o).outlet o).state = (s.outlet o).state := by
  rw [State.requestPbTrip, State.modifyPb, State.outlet_modify_self]

theorem State.Protected.abandonSync (hs : s.Protected p q M T) (o : OutletId) (out : SyncOutcome) :
    (s.abandonSync o out).Protected p q M T := by
  have hx := hs.outlet o
  unfold State.abandonSync
  split
  · next hc => exact hs.leaveSync (hx.synchronising (by simp [hc])) out
  · next hc =>
    have hst := hx.synchronising (by simp [hc])
    exact (hs.requestPbTrip (by rw [hst]; rfl)).modifyCheck (.inr ((s.state_requestPbTrip o).trans hst)) (.inl rfl)
  · next hc =>
    exact hs.modifyCheck (.inr (hx.synchronising (by simp [hc])))
      (.inl (hx.feedback_none (by simp [hc])))
  · exact hs

theorem State.Protected.failAttempt (hs : s.Protected p q M T) (hst : (s.outlet o).state = .synchronising) :
    (s.failAttempt o).Protected p q M T := by
  refine State.Protected.inert (hs.modifyCheck (f := SyncCheck.fail) (.inr hst) (.inl ?_)) (State.inert_raiseAt _ _ _)
  simp only [SyncCheck.fail]
  split <;> split <;> rfl

theorem State.Protected.endRecovery (hs : s.Protected p q M T) (hst : (s.outlet o).state = .synchronising)
    (hc : (s.outlet o).check.state = .recovering) : (s.endRecovery o).1.Protected p q M T := by
  unfold State.endRecovery
  split
  · exact hs.leaveSync hst _
  · exact hs.modifyCheck (f := fun r => { r with state := .evaluating }) (.inr hst) (.inl ((hs.outlet o).feedback_none (by simp [hc])))

theorem State.Protected.syncExpires (hs : s.Protected p q M T) (o : OutletId) :
    (s.syncExpires o).Protected p q M T := by
  have hx := hs.outlet o
  simp only [State.syncExpires]
  have hv : (s.modifyCheck o fun r => { r with syncTimer := none }).Protected p q M T :=
    hs.modifyCheck hx.check hx.feedback
  have hout : ((s.modifyCheck o fun r => { r with syncTimer := none }).outlet o).check.state = (s.outlet o).check.state := by
    rw [State.modifyCheck, State.outlet_modify_self]
  generalize (s.modifyCheck o fun r => { r with syncTimer := none }) = v at hv hout ⊢
  have hy := hv.outlet o
  split
  · next hc => exact hv.leaveSync (hy.synchronising (by simp [hc])) _
  · next hc => exact hv.modifyCheck (.inr (hy.synchronising (by simp [hc]))) (.inr hc)
  · next hc =>
    exact hv.modifyCheck (.inr (hy.synchronising (by simp [hc]))) (.inl (hy.feedback_none (by simp [hc])))
  · exact hv

/-! ### Separations (R136, R145) -/

theorem State.Protected.separate (hs : s.Protected p q M T) (hst : (s.outlet o).state.isTransfer = true)
    (cause : SeparationCause) (event : Option Item) : (s.separate o cause event).Protected p q M T := by
  simp only [State.separate]
  have hx := hs.outlet o
  have hne : (s.outlet o).state ≠ .energising ∧ (s.outlet o).state ≠ .synchronising ∧ (s.outlet o).state.supplied = true := by
    revert hst; cases (s.outlet o).state <;> decide
  obtain ⟨h1, h2, h3⟩ := hne
  have hi := State.inert_raiseSome ((s.requestPbTrip o).modifyHandover o fun h =>
    { h with parallelTimer := none, overloadTimer := none, aborting := false, lastSeparation := some cause }) o event
  refine hs.moveTo (Moves.trans ?_ (hi.moves o)) (Outlet.MayEnter.congr ?_ (hi.outlet o))
    (OutletState.mayMove_of_supplied h3 rfl) nofun
  · exact (Moves.of_modify (f := fun x => { x with pb := x.pb.requestTrip }) rfl).trans (.of_modify rfl)
  · rw [State.requestPbTrip, State.modifyPb, State.modifyHandover, State.outlet_modify_self, State.outlet_modify_self]
    exact ⟨hx.wired.requestTrip, hx.unwanted (.inl fun k => h1 k.1), fun k => (hx.closing k).resolve_right fun k => h1 k.1,
      .inl (hx.unchecked h2), hx.feedback, .inl rfl, .inl rfl⟩

theorem State.Protected.completeSeparation (hs : s.Protected p q M T) (o : OutletId) :
    (s.completeSeparation o).Protected p q M T := by
  unfold State.completeSeparation
  split
  · next h =>
    have hi := s.inert_raiseAt o .separated
    exact hs.moveTo (hi.moves o) (((hs.outlet o).mayEnter (by simp [h.1]) (by simp [h.1]) (by simp [h.1])
      (by simp [h.1])).congr (hi.outlet o)) (OutletState.mayMove_of_supplied (by rw [h.1]; rfl) rfl) nofun
  · exact hs

/-! ### LINK_DOWN at the outlet controller (R131, R150) -/

theorem State.Protected.linkDown (hs : s.Protected p q M T) (o : OutletId) (cause : DownCause) :
    (s.linkDown o cause).Protected p q M T := by
  unfold State.linkDown
  split
  · simp only [State.takeLinkDown]
    have hi : Inert s ((s.modifyLink o fun l => l.goDown cause).modifyHandover o fun h => { h with shipStatus := none }) :=
      (s.inert_modifyLink o _).trans (State.inert_modify _ o _ rfl)
    have hv := hs.inert hi
    generalize (s.modifyLink o fun l => l.goDown cause).modifyHandover o (fun h => { h with shipStatus := none }) = v at hv ⊢
    split
    · next hst =>
      refine hv.moveTo (Moves.of_modify rfl) ?_ (.inr (.inr (by rw [hst]; decide))) nofun
      rw [State.outlet_modify_self]
      exact ((hv.outlet o).mayEnter (by simp [hst]) (by simp [hst]) (by simp [hst]) (by simp [hst])).congr rfl
    · exact hv.abandonSync o _
    · next hst => exact hv.separate (by rw [hst]; rfl) _ _
    · exact hv
  · exact hs

end Sys2Proof.Machine
end

section
/-! Changes of the interlocks, the feedbacks and the breakers' timers keep the rules (R12, R29 to R41). -/

namespace Sys2Proof.Machine

variable {p q : OutletId → Prop} {M T : Prop} {s t u v : State} {o : OutletId}

/-! ### Interlock changes (R29 to R31) -/

theorem Interlocks.made_set {i : Interlocks} {k : Interlock} {e : Bool} (h : i.made e = true) :
    (i.set k true).made e = true := by
  simp only [Interlocks.made, Bool.and_eq_true] at h
  obtain ⟨⟨⟨⟨h1, h2⟩, h3⟩, h4⟩, h5⟩ := h
  cases k <;> simp [Interlocks.made, Interlocks.set, h1, h2, h3, h4, h5]

/-- The loss of an outlet's interlock, its breakers opened: the delivery trips a session state (R15, R30). -/
theorem State.Protected.changeInput (hs : s.Protected p q M T) (o : OutletId) (i : Interlock) (made : Bool) :
    (s.changeInput o i made).Protected p q M T := by
  have hx := hs.outlet o
  unfold State.changeInput
  split
  · exact hs
  · have hv : (((if made then s.modify o fun x => { x with interlocks := x.interlocks.set i made }
        else (s.modify o fun x => { x with interlocks := x.interlocks.set i made }).openOnLoss o).deliverInterlock o
          (.ofOutlet o i) made)).Protected p q M T := by
      unfold State.deliverInterlock
      cases made
      · simp only [Bool.false_eq_true, if_false]
        rw [State.openOnLoss_eq (by rw [State.outlet_modify_self]; exact hx.unwanted_closing), State.modify_modify]
        have hr : (s.modify o fun x => ({ x with interlocks := x.interlocks.set i false } : Outlet).lossOpened).Ruled p q M T := by
          refine hs.toRuled.moves (.of_modify rfl) ?_ ?_ <;> rw [State.outlet_modify_self]
          · exact .inl rfl
          · exact hx.lossOpened _
        refine .trip hr (fun o' ho => ?_) (.inr ?_)
        · rw [State.outlet_modify_ne _ _ ho]
          exact hs.seated o'
        · rw [State.outlet_modify_self]
          exact (ShoreBreaker.requestOpen_channel _).1
      · exact hs.modify (f := fun x => { x with interlocks := x.interlocks.set i true }) rfl rfl
          (hx.free Interlocks.made_set) (hs.seated o)
    dsimp only
    generalize State.deliverInterlock _ _ _ _ = w at hv ⊢
    split
    · split
      · exact hv.movePlug o _
      · exact (hv.movePlug o _).linkDown o _
    · exact hv

/-- The three openings at the loss of ESTOP_ALL (R30). -/
theorem State.outlet_openAll (h : ∀ o, (s.outlet o).sb.channel = .closing → (s.outlet o).closeWanted = false) :
    (∀ o, (allOutlets.foldl State.openOnLoss s).outlet o = (s.outlet o).lossOpened) ∧
      allOutlets.foldl State.openOnLoss s = { s with outlets := (allOutlets.foldl State.openOnLoss s).outlets } := by
  have hb : ((s.modify .a Outlet.lossOpened).outlet .b) = s.outlet .b := State.outlet_modify_ne _ _ (by decide)
  have hc : (((s.modify .a Outlet.lossOpened).modify .b Outlet.lossOpened).outlet .c) = s.outlet .c :=
    (State.outlet_modify_ne _ _ (by decide)).trans (State.outlet_modify_ne _ _ (by decide))
  have e : allOutlets.foldl State.openOnLoss s =
      ((s.modify .a Outlet.lossOpened).modify .b Outlet.lossOpened).modify .c Outlet.lossOpened := by
    show ((s.openOnLoss .a).openOnLoss .b).openOnLoss .c = _
    rw [State.openOnLoss_eq (h .a), State.openOnLoss_eq (o := .b) (by rw [hb]; exact h .b),
      State.openOnLoss_eq (o := .c) (by rw [hc]; exact h .c)]
  rw [e]
  exact ⟨fun o => by cases o <;> rfl, rfl⟩

theorem State.Ruled.tripAll (hs : s.Ruled p q M T) (hc : ∀ o, (s.outlet o).sb.channel ≠ .closing) (cause : TripCause) :
    (allOutlets.foldl (fun s o => s.trip o cause) s).Protected p q M T := by
  have hb : ((s.trip .a cause).outlet .b) = s.outlet .b := (s.actsAt_trip .a cause).outlets .b (by decide)
  have hcc : (((s.trip .a cause).trip .b cause).outlet .c) = s.outlet .c :=
    ((State.actsAt_trip _ .b cause).outlets .c (by decide)).trans ((s.actsAt_trip .a cause).outlets .c (by decide))
  have h1 := hs.trip (cause := cause) (.inr (hc .a))
  have h2 := h1.trip (cause := cause) (o := .b) (.inr (by rw [hb]; exact hc .b))
  have h3 := h2.trip (cause := cause) (o := .c) (.inr (by rw [hcc]; exact hc .c))
  refine ⟨h3, fun o => ?_⟩
  show ((((s.trip .a cause).trip .b cause).trip .c cause).outlet o).Seated
  cases o
  · rw [(State.actsAt_trip _ .c cause).outlets .a (by decide), (State.actsAt_trip _ .b cause).outlets .a (by decide)]
    exact s.seated_trip .a cause
  · rw [(State.actsAt_trip _ .c cause).outlets .b (by decide)]
    exact State.seated_trip _ .b cause
  · exact State.seated_trip _ .c cause

theorem State.Protected.changeEstopAll (hs : s.Protected p q M T) (made : Bool) :
    (s.changeEstopAll made).Protected p q M T := by
  unfold State.changeEstopAll
  split
  · exact hs
  · dsimp only
    cases made
    · simp only [Bool.false_eq_true, if_false, State.deliverInterlock]
      generalize hv : ({ s with estopAllMade := false } : State) = v
      obtain ⟨hout, hframe⟩ := State.outlet_openAll (s := v) fun o => by subst hv; exact (hs.outlet o).unwanted_closing
      refine State.Ruled.tripAll ⟨fun o => ?_, fun m => ?_, fun o => ?_⟩ (fun o => ?_) _
      · rw [hout]
        subst hv
        exact (hs.outlet o).lossOpened _
      · rw [hframe]
        subst hv
        exact hs.module m
      · refine (hs.pool o).congr ?_ ?_ (fun m _ => ?_) ?_
        · rw [hout]; subst hv; rfl
        · rw [State.admitted_eq, hout]; subst hv; rfl
        · rw [hframe]; subst hv; rfl
        · rw [hframe]; subst hv; rfl
      · rw [hout]
        exact (ShoreBreaker.requestOpen_channel _).1
    · simp only [if_true, State.deliverInterlock]
      have hfold : allOutlets.foldl (fun s _ => s) ({ s with estopAllMade := true } : State) =
          { s with estopAllMade := true } := rfl
      rw [hfold]
      refine ⟨⟨fun o => ?_, hs.module, fun o => (hs.pool o).congr rfl rfl (fun _ _ => rfl) rfl⟩, hs.seated⟩
      refine (hs.outlet o).free (i := (s.outlet o).interlocks) fun k => ?_
      simp only [Interlocks.made, Bool.and_eq_true] at k ⊢
      exact ⟨k.1, trivial⟩

/-! ### The shore breaker (R12, R34 to R36) -/

theorem Outlet.Guarded.withSb {e : Bool} {a b : Prop} {x : Outlet} (hx : x.Guarded e a b) {sb : ShoreBreaker}
    (hsb : sb.wellFormed = true) (hw : x.closeWanted = false) (hn : sb.channel ≠ .closing)
    (hcmd : sb.channel = .closed → x.interlocks.made e = true) (hp : x.pb.channel ≠ .closePulse) :
    ({ x with sb := sb } : Outlet).Guarded e a b :=
  hx.withBreakers ⟨hsb, hx.wired.pbForm, fun k => hcmd (k.resolve_left hn), fun k => (hp k).elim⟩
    (fun k => by rw [hw] at k; cases k) fun k => (hn k).elim

/-- The breakers of an outlet where the SB does not stand closed. -/
theorem Outlet.Seated.not_transfer {x : Outlet} (hx : x.Seated) (h : x.sb.channel ≠ .closed) :
    x.state.isTransfer = false := by
  by_contra hn
  exact h (hx (by simpa using hn)).1

theorem State.Protected.modifySb (hs : s.Protected p q M T) {f : ShoreBreaker → ShoreBreaker}
    (hx : ({ s.outlet o with sb := f (s.outlet o).sb } : Outlet).Guarded s.estopAllMade (p o) (q o))
    (hseat : (s.outlet o).sb.channel ≠ .closed) : (s.modifySb o f).Protected p q M T :=
  hs.modify (f := fun x => { x with sb := f x.sb }) rfl rfl hx (Outlet.seated_of_not ((hs.seated o).not_transfer hseat))

theorem State.Protected.enterRamp (hs : s.Protected p q M T) (hst : (s.outlet o).state = .energising)
    (hc : (s.outlet o).sb.channel = .closed) : (s.enterRamp o).Protected p q M T := by
  have hi := s.outlet_runGroup o o
  have hr := hs.runGroup o
  have hx := hr.outlet o
  have hw : ((s.runGroup o).outlet o).closeWanted = false := hx.unwanted (.inr (by rw [hi, hc]; simp))
  refine hr.modify rfl rfl ⟨hx.wired, fun k => absurd (hw.symm.trans k) (by decide), fun k => ?_, hx.check, hx.feedback,
    hx.parallel, hx.overload⟩ (Outlet.seated_of_not (by rw [hi, hst]; rfl))
  rw [hi, hc] at k
  cases k

theorem State.Protected.sbCloses (hs : s.Protected p q M T) (hf : (s.outlet o).sb.feedback = false) :
    (s.sbCloses o).Protected p q M T := by
  have hx := hs.outlet o
  have hform := hx.wired.sbForm
  simp only [State.sbCloses, State.modifySb, State.modify_modify]
  split
  · next hc =>
    have hv : (s.modify o fun x => { x with sb := { x.sb with feedback := true, channel := .closed, closeTimer := none } }).Protected p q M T := by
      refine hs.modifySb (f := fun b => { b with feedback := true, channel := .closed, closeTimer := none })
        (hx.withSb ?_ (hx.unwanted_closing hc) nofun (fun _ => hx.wired.command (.inl hc)) (hx.wired.unpulsed (by simp [hc])))
        (by simp [hc])
      simp only [ShoreBreaker.wellFormed, hc] at hform ⊢
      simp_all
    unfold State.sbClosedReport
    split
    · next h => exact hv.enterRamp h.1 (by rw [State.outlet_modify_self])
    · exact hv
  · next hc =>
    refine hs.modifySb (f := fun b => ShoreBreaker.openAgain { b with feedback := true })
      (hx.withSb ?_ (hx.unwanted (.inr (by simp [hc]))) nofun nofun (hx.wired.unpulsed (by simp [hc]))) (by simp [hc])
    simp only [ShoreBreaker.wellFormed, ShoreBreaker.openAgain, hc] at hform ⊢
    simp_all
  · next h1 h2 =>
    exfalso
    unfold ShoreBreaker.wellFormed at hform
    split at hform <;> simp_all

/-- The SB reports open, with or without a close request to repeat (R12, R33, R35). -/
theorem State.Protected.sbReopened (hs : s.Protected p q M T)
    (hc : (s.outlet o).sb.channel = .opening ∨ (s.outlet o).sb.channel = .stuck) {f : ShoreBreaker → ShoreBreaker}
    (hf : (f (s.outlet o).sb).wellFormed = true) (hch : (f (s.outlet o).sb).channel = .opened) :
    ((s.modifySb o f).sbOpenReport o).Protected p q M T := by
  have hx := hs.outlet o
  have hne : (s.outlet o).sb.channel ≠ .closed := by rcases hc with h | h <;> simp [h]
  have hp := hx.wired.unpulsed hne
  have hseat := (hs.seated o).not_transfer hne
  have merge : (s.modifySb o f).sbOpenReport o = s.modify o fun x => { x with
      closeWanted := false
      sb := if x.closeWanted = true ∧ s.blocking o = none then
          { f x.sb with channel := .closing, closeTimer := some sbCloseTime } else f x.sb } := by
    have hout : (s.modifySb o f).outlet o = { s.outlet o with sb := f (s.outlet o).sb } := by
      rw [State.modifySb, State.outlet_modify_self]
    have hblock : (s.modifySb o f).blocking o = s.blocking o := by
      simp only [State.blocking, hout]
      rfl
    simp only [State.sbOpenReport, hout]
    cases hw : (s.outlet o).closeWanted
    · simp only [Bool.false_eq_true, and_false, if_false]
      exact State.modify_congr (by simp [hw])
    · obtain ⟨h1, h2, _⟩ := hx.wanted hw
      simp only [h1, h2, State.requestSbClose, hout, hch, hblock, if_true, and_self]
      cases hb : s.blocking o
      · simp only [Option.isSome_none, Bool.false_eq_true, if_false, State.modifySb, State.modify_modify]
        exact State.modify_congr (by simp [hw])
      · simp only [Option.isSome_some, if_true, State.modifySb, State.modify_modify]
        exact State.modify_congr (by simp)
  rw [merge]
  refine hs.modify rfl rfl ?_ (Outlet.seated_of_not hseat)
  refine ⟨⟨?_, hx.wired.pbForm, fun k => ?_, fun k => (hp k).elim⟩, nofun, fun k => .inr ?_, hx.check, hx.feedback,
    hx.parallel, hx.overload⟩
  · dsimp only
    split
    · simp only [ShoreBreaker.wellFormed, hch] at hf ⊢
      simp_all
    · exact hf
  · dsimp only at k ⊢
    split at k
    · next h => rw [← s.blocking_isNone, h.2]; rfl
    · rw [hch] at k; exact k.elim nofun nofun
  · dsimp only at k ⊢
    split at k
    · next h => exact ⟨(hx.wanted h.1).1, (hx.wanted h.1).2.1⟩
    · rw [hch] at k; cases k

theorem State.Protected.sbOpens (hs : s.Protected p q M T) (hf : (s.outlet o).sb.feedback = true) :
    (s.sbOpens o).Protected p q M T := by
  have hx := hs.outlet o
  have hform := hx.wired.sbForm
  simp only [State.sbOpens]
  split
  · next hc =>
    simp only [State.requestPbTrip, State.modifyPb, State.modifySb, State.modify_modify]
    refine .trip ?_ (fun o' ho => by rw [State.outlet_modify_ne _ _ ho]; exact hs.seated o')
      (.inr (by rw [State.outlet_modify_self]; nofun))
    refine hs.toRuled.moves (.of_modify rfl) ?_ ?_ <;> rw [State.outlet_modify_self]
    · exact .inl rfl
    · refine hx.withBreakers (.of_open ?_ (ParallelBreaker.wellFormed_requestTrip hx.wired.pbForm) nofun nofun
        (by rw [ParallelBreaker.requestTrip_channel]; nofun)) (fun k => ?_) nofun
      · simp only [ShoreBreaker.wellFormed, hc] at hform ⊢
        simp_all
      · rw [hx.unwanted (.inr (by simp [hc]))] at k
        cases k
  · next hc =>
    simp only [State.modifySb, State.modify_modify]
    refine hs.sbReopened (f := fun b => { b with feedback := false, channel := .opened, openTimer := none }) (.inl hc) ?_ rfl
    simp only [ShoreBreaker.wellFormed, hc] at hform ⊢
    simp_all
  · next hc =>
    simp only [State.modifySb, State.modify_modify]
    refine hs.sbReopened (f := fun b => { b with feedback := false, channel := .opened, stuckSet := false }) (.inr hc) ?_ rfl
    simp only [ShoreBreaker.wellFormed, hc] at hform ⊢
    simp_all
  · next h1 h2 h3 =>
    exfalso
    unfold ShoreBreaker.wellFormed at hform
    split at hform <;> simp_all

/-- The close timer runs in CLOSING alone, the open timer in OPENING. -/
theorem ShoreBreaker.channel_of_timer {b : ShoreBreaker} (h : b.wellFormed = true) :
    (b.closeTimer.isSome = true → b.channel = .closing) ∧ (b.openTimer.isSome = true → b.channel = .opening) := by
  unfold ShoreBreaker.wellFormed at h
  split at h <;> simp_all

theorem State.Protected.sbCloseExpires (hs : s.Protected p q M T) (ht : (s.outlet o).sb.closeTimer.isSome = true) :
    ((s.modifySb o fun b => { b with channel := .opened, closeTimer := none }).trip o .sbFail).Protected p q M T := by
  have hx := hs.outlet o
  have hform := hx.wired.sbForm
  have hc := (ShoreBreaker.channel_of_timer hform).1 ht
  have hv := hs.modifySb (o := o) (f := fun b => { b with channel := .opened, closeTimer := none })
    (hx.withSb (by simp only [ShoreBreaker.wellFormed, hc] at hform ⊢; simp_all) (hx.unwanted_closing hc) nofun nofun
      (hx.wired.unpulsed (by simp [hc]))) (by simp [hc])
  exact .trip hv.toRuled (fun o' _ => hv.seated o') (.inl rfl)

theorem State.Protected.sbOpenExpires (hs : s.Protected p q M T) (ht : (s.outlet o).sb.openTimer.isSome = true) :
    ((s.modifySb o fun b => { b with channel := .stuck, openTimer := none, stuckSet := true }).trip o
      .sbFail).Protected p q M T := by
  have hx := hs.outlet o
  have hform := hx.wired.sbForm
  have hc := (ShoreBreaker.channel_of_timer hform).2 ht
  have hv := hs.modifySb (o := o) (f := fun b => { b with channel := .stuck, openTimer := none, stuckSet := true })
    (hx.withBreakers (.of_open (by simp only [ShoreBreaker.wellFormed, hc] at hform ⊢; simp_all) hx.wired.pbForm nofun nofun
      (hx.wired.unpulsed (by simp [hc]))) (fun _ => .inr rfl) nofun) (by simp [hc])
  exact .trip hv.toRuled (fun o' _ => hv.seated o') (.inl rfl)

end Sys2Proof.Machine
end

section
/-! The paralleling breaker, the outlet's timers and the deliveries of its records keep the rules (R38 to R41, R99 to
R112, R135 to R148). -/

namespace Sys2Proof.Machine

variable {p q : OutletId → Prop} {M T : Prop} {s t u v : State} {o : OutletId}

/-! ### Closures of the paralleling breaker (R38, R41, R106, R109, R112) -/

/-- The PB's channel, its timers and its feedback agree (section 2.4). -/
theorem ParallelBreaker.channel_of {b : ParallelBreaker} (h : b.wellFormed = true) :
    (b.closeTimer.isSome = true → b.channel = .closePulse) ∧ (b.tripTimer.isSome = true → b.channel = .tripPulse) ∧
      (b.channel = .closePulse → b.feedback = false) ∧ (b.channel = .stuck → b.feedback = true) := by
  unfold ParallelBreaker.wellFormed at h
  split at h <;> simp_all

theorem ShoreBreaker.feedback_of_closed {b : ShoreBreaker} (h : b.wellFormed = true) (hc : b.channel = .closed) :
    b.feedback = true := by
  unfold ShoreBreaker.wellFormed at h
  simp only [hc, Bool.and_eq_true] at h
  exact h.1.1.1

/-- A PB moved where no transfer state needs it closed. -/
theorem State.Protected.modifyPb (hs : s.Protected p q M T) {f : ParallelBreaker → ParallelBreaker}
    (hw : (f (s.outlet o).pb).wellFormed = true) (hc : (f (s.outlet o).pb).channel ≠ .closePulse)
    (hn : (s.outlet o).state.isTransfer = false) : (s.modifyPb o f).Protected p q M T :=
  hs.modify (f := fun x => { x with pb := f x.pb }) rfl rfl ((hs.outlet o).withPb hw hc) (Outlet.seated_of_not hn)

theorem ParallelBreaker.wellFormed_rest {b : ParallelBreaker} (h : b.stuckSet = true → b.feedback = true) :
    b.rest.wellFormed = true := by
  simp only [ParallelBreaker.wellFormed, ParallelBreaker.rest, Option.isNone_none, Bool.not_false, Bool.and_true,
    Bool.or_eq_true, Bool.not_eq_true']
  cases hs : b.stuckSet
  · exact .inl rfl
  · exact .inr (h hs)

/-- Where the PB does not stand idle and closed, the outlet is in no transfer state. -/
theorem Outlet.Seated.not_transfer_pb {x : Outlet} (hx : x.Seated) (h : x.pb.channel ≠ .idle ∨ x.pb.feedback = false) :
    x.state.isTransfer = false := by
  by_contra hn
  obtain ⟨_, _, h1, h2⟩ := hx (by simpa using hn)
  rcases h with h | h
  · exact h h1
  · rw [h2] at h; cases h

theorem State.Protected.closeMade (hs : s.Protected p q M T) (hp : (s.outlet o).pb.channel = .closePulse)
    (hc : (s.outlet o).check.state = .closing) :
    (((s.modifyPb o fun b => { b with feedback := true }).modifyPb o ParallelBreaker.rest).closeMade o).Protected p q M T := by
  have hx := hs.outlet o
  have hst := hx.synchronising (by simp [hc])
  obtain ⟨_, hsb, _⟩ := hx.wired.pulse hp
  simp only [State.closeMade, State.modifyPb, State.modify_modify]
  generalize hf : (fun x : Outlet => _) = f
  have hi := (s.modify o f).inert_raiseAt o .pbClosed
  have hcore := hi.outlet o
  rw [State.outlet_modify_self] at hcore
  have hmay : (((s.modify o f).raiseAt o .pbClosed).outlet o).MayEnter s.estopAllMade (p o) (q o) .transferIn := by
    refine Outlet.MayEnter.congr (x := f (s.outlet o)) ?_ hcore
    subst hf
    exact ⟨hx.wired.withPb (ParallelBreaker.wellFormed_rest fun _ => rfl) nofun, hx.unwanted (.inl (by simp [hst])),
      fun k => absurd (hsb.symm.trans k) (by decide), .inl rfl, .inl rfl,
      .inr (.inl rfl), .inl rfl⟩
  have hseat : (((s.modify o f).raiseAt o .pbClosed).outlet o).sb.channel = .closed ∧
      (((s.modify o f).raiseAt o .pbClosed).outlet o).sb.feedback = true ∧
      (((s.modify o f).raiseAt o .pbClosed).outlet o).pb.channel = .idle ∧
      (((s.modify o f).raiseAt o .pbClosed).outlet o).pb.feedback = true := by
    show ((s.modify o f).outlet o).sb.channel = .closed ∧ ((s.modify o f).outlet o).sb.feedback = true ∧
      ((s.modify o f).outlet o).pb.channel = .idle ∧ ((s.modify o f).outlet o).pb.feedback = true
    rw [State.outlet_modify_self]
    subst hf
    exact ⟨hsb, ShoreBreaker.feedback_of_closed hx.wired.sbForm hsb, rfl, rfl⟩
  exact hs.moveTo ((Moves.of_modify (by subst hf; rfl)).trans (hi.moves o)) hmay
    (OutletState.mayMove_of_supplied (by rw [hst]; rfl) rfl) fun _ => hseat

theorem State.Protected.lateClosure (hs : s.Protected p q M T) (hst : (s.outlet o).state = .synchronising) :
    (s.lateClosure o).Protected p q M T := by
  have hx := hs.outlet o
  simp only [State.lateClosure]
  generalize hf : (fun x : Outlet => _) = f
  have hi := (s.modify o f).inert_raiseAt o .lateClose
  refine hs.moveTo ((Moves.of_modify (by subst hf; rfl)).trans (hi.moves o)) (Outlet.MayEnter.congr ?_ (hi.outlet o))
    (OutletState.mayMove_of_supplied (by rw [hst]; rfl) rfl) nofun
  rw [State.outlet_modify_self]
  subst hf
  exact ⟨hx.wired, hx.unwanted (.inl (by simp [hst])), fun k => (hx.closing k).resolve_right (by simp [hst]), .inl rfl,
    .inl rfl, .inl (hx.parallel_none (by simp [hst]) (by simp [hst])), .inl rfl⟩

theorem State.Protected.judgeClosure (hs : s.Protected p q M T) (hn : (s.outlet o).state.isTransfer = false) :
    (s.judgeClosure o).Protected p q M T := by
  simp only [State.judgeClosure]
  split
  · next h => exact hs.lateClosure h.1
  · split
    · exact .trip hs.toRuled (fun o' _ => hs.seated o') (.inl rfl)
    · split
      · exact hs.requestPbTrip hn
      · exact hs

theorem State.Protected.pbCloses (hs : s.Protected p q M T) (hf : (s.outlet o).pb.feedback = false) :
    (s.pbCloses o).Protected p q M T := by
  have hform := (hs.outlet o).wired.pbForm
  obtain ⟨_, _, _, hstuck⟩ := ParallelBreaker.channel_of hform
  have hn := (hs.seated o).not_transfer_pb (.inr hf)
  have hch : ((s.modifyPb o fun b => { b with feedback := true }).outlet o).pb.channel = (s.outlet o).pb.channel := by
    rw [State.modifyPb, State.outlet_modify_self]
  have hck : (((s.modifyPb o fun b => { b with feedback := true }).modifyPb o ParallelBreaker.rest).outlet o).check.state =
      (s.outlet o).check.state := by
    simp only [State.modifyPb, State.modify_modify, State.outlet_modify_self]
  simp only [State.pbCloses]
  rw [hch]
  split
  · next hc =>
    rw [hck]
    split
    · next hcl => exact hs.closeMade hc hcl
    · simp only [State.modifyPb, State.modify_modify]
      exact hs.modifyPb (f := fun b => ParallelBreaker.rest { b with feedback := true })
        (ParallelBreaker.wellFormed_rest fun _ => rfl) nofun hn
  · next hc => rw [hstuck hc] at hf; cases hf
  · next h1 h2 =>
    have hv : (s.modifyPb o fun b => { b with feedback := true }).Protected p q M T := by
      refine hs.modifyPb (f := fun b => { b with feedback := true }) ?_ h1 hn
      unfold ParallelBreaker.wellFormed at hform ⊢
      split at hform <;> simp_all
    exact hv.judgeClosure (by rw [State.modifyPb, State.outlet_modify_self]; exact hn)

/-! ### Openings of the paralleling breaker (R39, R40, R108, R145, R146) -/

theorem State.Protected.pbOpenReport (hs : s.Protected p q M T) (o : OutletId) :
    (s.pbOpenReport o).Protected p q M T := by
  unfold State.pbOpenReport
  split
  · next hc => exact hs.endRecovery ((hs.outlet o).synchronising (by simp [hc])) hc
  · exact hs.completeSeparation o

theorem State.Protected.pbOpens (hs : s.Protected p q M T) (hf : (s.outlet o).pb.feedback = true) :
    (s.pbOpens o).Protected p q M T := by
  have hx := hs.outlet o
  obtain ⟨_, _, hpulse, _⟩ := ParallelBreaker.channel_of hx.wired.pbForm
  have hch : ((s.modifyPb o fun b => { b with feedback := false, stuckSet := false }).outlet o).pb.channel =
      (s.outlet o).pb.channel := by
    rw [State.modifyPb, State.outlet_modify_self]
  have rested (hn : (s.outlet o).pb.channel ≠ .idle) :
      (((s.modifyPb o fun b => { b with feedback := false, stuckSet := false }).modifyPb o
        ParallelBreaker.rest).pbOpenReport o).Protected p q M T := by
    refine State.Protected.pbOpenReport ?_ o
    simp only [State.modifyPb, State.modify_modify]
    exact hs.modifyPb (f := fun b => ParallelBreaker.rest { b with feedback := false, stuckSet := false })
      (ParallelBreaker.wellFormed_rest nofun) nofun ((hs.seated o).not_transfer_pb (.inl hn))
  simp only [State.pbOpens]
  rw [hch]
  split
  · next hc => exact rested (by simp [hc])
  · next hc => exact rested (by simp [hc])
  · next hc =>
    have hwf : ({ (s.outlet o).pb with feedback := false, stuckSet := false } : ParallelBreaker).wellFormed = true := by
      have := hx.wired.pbForm
      simp only [ParallelBreaker.wellFormed, hc] at this ⊢
      simp_all
    have hst : ((s.modifyPb o fun b => { b with feedback := false, stuckSet := false }).outlet o).state =
        (s.outlet o).state := by rw [State.modifyPb, State.outlet_modify_self]
    unfold State.pbOpenedReport
    rw [hst]
    split
    · next htr =>
      have hne : (s.outlet o).state ≠ .energising ∧ (s.outlet o).state ≠ .synchronising ∧
          (s.outlet o).state.supplied = true := by
        revert htr; cases (s.outlet o).state <;> decide
      obtain ⟨h1, h2, h3⟩ := hne
      simp only [State.modifyPb, State.modifyHandover, State.modify_modify]
      generalize hg : (fun x : Outlet => _) = f
      have hi := (s.modify o f).inert_raiseAt o .pbOpened
      refine hs.moveTo ((Moves.of_modify (by subst hg; rfl)).trans (hi.moves o))
        (Outlet.MayEnter.congr ?_ (hi.outlet o)) (OutletState.mayMove_of_supplied h3 rfl) nofun
      rw [State.outlet_modify_self]
      subst hg
      exact ⟨hx.wired.withPb hwf (by simp [hc]), hx.unwanted (.inl fun k => h1 k.1),
        fun k => (hx.closing k).resolve_right fun k => h1 k.1, .inl (hx.unchecked h2), hx.feedback, .inl rfl, .inl rfl⟩
    · next hn => exact hs.modifyPb hwf (by simp [hc]) (by simpa using hn)
  · next hc => rw [hpulse hc] at hf; cases hf

/-! ### The timers (R13, R38 to R40, R107, R110, R137, R148) -/

theorem State.Protected.pbCloseExpires (hs : s.Protected p q M T) (ht : (s.outlet o).pb.closeTimer.isSome = true) :
    (let s := s.modifyPb o fun b => b.startTrip true
      if (s.outlet o).check.state = .closing then s.failAttempt o else s).Protected p q M T := by
  have hx := hs.outlet o
  obtain ⟨hct, _⟩ := ParallelBreaker.channel_of hx.wired.pbForm
  have hv : (s.modifyPb o fun b => b.startTrip true).Protected p q M T :=
    hs.modifyPb (f := fun b => b.startTrip true)
      (ParallelBreaker.wellFormed_startTrip _ _ (ParallelBreaker.stuck_of_wellFormed hx.wired.pbForm)) nofun
      ((hs.seated o).not_transfer_pb (.inl (by simp [hct ht])))
  dsimp only
  split
  · next hc => exact hv.failAttempt ((hv.outlet o).synchronising (by simp [hc]))
  · exact hv

theorem State.Protected.pbTripExpires (hs : s.Protected p q M T) (ht : (s.outlet o).pb.tripTimer.isSome = true) :
    (if (s.outlet o).pb.feedback then ((s.modifyPb o ParallelBreaker.fail).requestSbOpen o).trip o .pbFail
      else s.modifyPb o ParallelBreaker.rest).Protected p q M T := by
  have hx := hs.outlet o
  obtain ⟨_, htr, _⟩ := ParallelBreaker.channel_of hx.wired.pbForm
  have hn := (hs.seated o).not_transfer_pb (.inl (by simp [htr ht]))
  split
  · next hf =>
    have hv : (s.modifyPb o ParallelBreaker.fail).Protected p q M T :=
      hs.modifyPb (f := ParallelBreaker.fail)
        (by simp [ParallelBreaker.wellFormed, ParallelBreaker.fail, hf]) nofun hn
    rw [State.requestSbOpen_of (hv.outlet o)]
    generalize s.modifyPb o ParallelBreaker.fail = v at hv ⊢
    refine .trip ?_ (fun o' ho => by rw [State.outlet_modify_ne _ _ ho]; exact hv.seated o')
      (.inr (by rw [State.outlet_modify_self]; exact (Outlet.askSbOpen_channel _).1))
    refine hv.toRuled.moves (.of_modify rfl) ?_ ?_ <;> rw [State.outlet_modify_self]
    · exact .inl rfl
    · exact (hv.outlet o).askSbOpen
  · exact hs.modifyPb (f := ParallelBreaker.rest)
      (ParallelBreaker.wellFormed_rest (ParallelBreaker.stuck_of_wellFormed hx.wired.pbForm)) nofun hn

theorem State.Protected.feedbackExpires (hs : s.Protected p q M T)
    (ht : (s.outlet o).check.feedbackTimer.isSome = true) : ((s.requestPbTrip o).failAttempt o).Protected p q M T := by
  have hx := hs.outlet o
  have hc : (s.outlet o).check.state = .closing :=
    hx.feedback.resolve_left fun k => by rw [k] at ht; cases ht
  have hst := hx.synchronising (by simp [hc])
  exact (hs.requestPbTrip (by rw [hst]; rfl)).failAttempt ((s.state_requestPbTrip o).trans hst)

theorem State.Protected.energiseExpires (hs : s.Protected p q M T) (o : OutletId) :
    ((s.modify o fun x => { x with energiseTimer := none }).trip o .energiseFail).Protected p q M T := by
  have hv := hs.inert (s.inert_modify o (fun x => { x with energiseTimer := none }) rfl)
  exact .trip hv.toRuled (fun o' _ => hv.seated o') (.inl rfl)

theorem State.Protected.parallelExpires (hs : s.Protected p q M T)
    (ht : (s.outlet o).handover.parallelTimer.isSome = true) (cause : SeparationCause) (event : Option Item) :
    (s.separate o cause event).Protected p q M T := by
  have hst := (hs.outlet o).parallel.resolve_left fun k => by rw [k] at ht; cases ht
  exact hs.separate (by rcases hst with h | h <;> rw [h] <;> rfl) cause event

theorem State.Protected.overloadExpires (hs : s.Protected p q M T)
    (ht : (s.outlet o).handover.overloadTimer.isSome = true) :
    (if (s.outlet o).state = .shoreSupply then s.trip o .overload
      else s.separate o .overload (some .overloadSeparation)).Protected p q M T := by
  split
  · exact .trip hs.toRuled (fun o' _ => hs.seated o') (.inl rfl)
  · exact hs.separate ((hs.outlet o).overload.resolve_left fun k => by rw [k] at ht; cases ht) _ _

/-! ### Deliveries (R13, R63, R99 to R105, R144, R147) -/

theorem Outlet.monitorOverload_eq (x : Outlet) : x.monitorOverload = x ∨ (x.state.isTransfer = true ∧
    ∃ timer, x.monitorOverload = { x with handover := { x.handover with overloadTimer := timer } }) := by
  unfold Outlet.monitorOverload
  split
  · exact .inl rfl
  · split
    · next h => exact .inr ⟨h.1, _, rfl⟩
    · exact .inl rfl

theorem State.Protected.monitorOverload (hs : s.Protected p q M T) (o : OutletId) :
    (s.modify o Outlet.monitorOverload).Protected p q M T := by
  rcases (s.outlet o).monitorOverload_eq with h | ⟨htr, timer, h⟩
  · exact hs.inert (s.inert_modify o _ (by rw [h]))
  · have hx := hs.outlet o
    refine hs.modify ?_ ?_ ?_ ?_ <;> rw [h]
    · rfl
    · exact ⟨hx.wired, hx.wanted, hx.closing, hx.check, hx.feedback, hx.parallel, .inr htr⟩
    · exact hs.seated o

theorem Outlet.transfer_of_drained {x : Outlet} (h : x.isDrained = true) : x.state.isTransfer = true := by
  unfold Outlet.isDrained at h
  split at h
  · cases h
  · simp only [Bool.and_eq_true, Bool.or_eq_true, beq_iff_eq] at h
    obtain ⟨⟨⟨h | ⟨h, _⟩, _⟩, _⟩, _⟩ := h <;> rw [h] <;> rfl

theorem State.Protected.deliverPower (hs : s.Protected p q M T) (o : OutletId) (d : Delivery) :
    (s.deliverPower o d).Protected p q M T := by
  simp only [State.deliverPower]
  have hv := hs.monitorOverload o
  generalize s.modify o Outlet.monitorOverload = v at hv ⊢
  refine State.Protected.testRelease ?_ o
  split
  · next h => exact hv.separate (Outlet.transfer_of_drained h.2) _ _
  · exact hv

theorem State.Protected.deliverCable (hs : s.Protected p q M T) (o : OutletId) (d : Delivery) :
    (s.deliverCable o d).Protected p q M T := by
  have hv : (if (s.outlet o).isVerified then
      (s.modify o fun x => { x with energiseTimer := none }).enter o .cableLive
    else s.completeSeparation o).Protected p q M T := by
    split
    · next h =>
      have hst : (s.outlet o).state = .energising ∧ (s.outlet o).phase = some .ramp := by
        unfold Outlet.isVerified at h
        split at h
        · cases h
        · simp only [Bool.and_eq_true, beq_iff_eq] at h
          exact ⟨h.1.1.1.1.1, h.1.1.1.1.2⟩
      have hi := s.inert_modify o (fun x => { x with energiseTimer := none }) rfl
      exact hs.moveTo (hi.moves o) (((hs.outlet o).mayEnter (by simp [hst.2]) (by simp [hst.1]) (by simp [hst.1])
        (by simp [hst.1])).congr (hi.outlet o)) (OutletState.mayMove_of_supplied (by rw [hst.1]; rfl) rfl) nofun
    · exact hs.completeSeparation o
  simp only [State.deliverCable]
  generalize (if (s.outlet o).isVerified then _ else _) = v at hv ⊢
  split
  · exact hv
  · exact hv.deliverPower o d

/-- An accepted close request starts a pulse, where `q` allows one (R37, R104). -/
theorem State.Protected.requestClose (hs : s.Protected p q M T) (hc : (s.outlet o).check.state = .evaluating)
    (pr : Profile) (hq : s.pbRefusal o = none → q o) : (s.requestClose o pr).Protected p q M T := by
  have hx := hs.outlet o
  have hst := hx.synchronising (by simp [hc])
  unfold State.requestClose
  split
  · next hr =>
    obtain ⟨hidle, hlock, hsb, hf⟩ := (s.pbRefusal_none o).1 hr
    refine State.Protected.inert (hs.modify rfl rfl ?_ (Outlet.seated_of_not (by rw [hst]; rfl)))
      (State.inert_modifySession _ o _ (by intro _; rfl))
    refine ⟨⟨hx.wired.sbForm, ?_, hx.wired.command, fun _ => ⟨?_, hsb, hq hr⟩⟩, hx.wanted, hx.closing, .inr hst, .inr rfl,
      hx.parallel, hx.overload⟩
    · have := hx.wired.pbForm
      simp only [ParallelBreaker.wellFormed, ParallelBreaker.startClose, hidle, hf] at this ⊢
      simp_all
    · rw [← s.blocking_isNone, hlock]; rfl
  · exact hs.modifyCheck hx.check hx.feedback

/-- What an evaluation that asks for a pulse has found (R104). -/
def State.Quoted (s : State) (o : OutletId) : Prop :=
  ∃ r f, (s.outlet o).session = some r ∧ (s.outlet o).figures r.snapshot = some f ∧
    judge r.snapshot (s.outlet o).link.up (s.outlet o).sb.feedback f = .close ∧ (s.outlet o).check.state = .evaluating

theorem State.Protected.evaluate (hs : s.Protected p q M T) (o : OutletId)
    (hq : s.Quoted o → s.pbRefusal o = none → q o) : (s.evaluate o).Protected p q M T := by
  have hx := hs.outlet o
  unfold State.evaluate
  split
  · exact hs
  · next r hr =>
    dsimp only
    split
    · exact hs.modifyCheck hx.check hx.feedback
    · next f hf =>
      have hv : (s.modifyCheck o fun c => { c with
          figures := some f, result := some (judge r.snapshot (s.outlet o).link.up (s.outlet o).sb.feedback f)
          windowAsked := f.inWindow r.snapshot }).Protected p q M T := hs.modifyCheck hx.check hx.feedback
      have hout : ((s.modifyCheck o fun c => { c with
          figures := some f, result := some (judge r.snapshot (s.outlet o).link.up (s.outlet o).sb.feedback f)
          windowAsked := f.inWindow r.snapshot }).outlet o).check.state = (s.outlet o).check.state := by
        rw [State.modifyCheck, State.outlet_modify_self]
      split
      · next h =>
        refine hv.requestClose h.2 _ fun hp => hq ⟨r, f, hr, hf, h.1, hout ▸ h.2⟩ ?_
        rw [State.pbRefusal_none] at hp ⊢
        obtain ⟨h1, h2, h3, h4⟩ := hp
        rw [State.modifyCheck, State.outlet_modify_self] at h1 h3 h4
        rw [State.blocking_none] at h2 ⊢
        rw [State.modifyCheck, State.outlet_modify_self] at h2
        exact ⟨h1, h2, h3, h4⟩
      · exact hv

theorem State.Protected.deliverShip (hs : s.Protected p q M T) (o : OutletId) (d : Delivery)
    (hq : d = .closed → ∀ u : State, u.Quoted o → u.pbRefusal o = none → u.evaluate o = s.deliverShip o d → q o) :
    (s.deliverShip o d).Protected p q M T := by
  have hx := hs.outlet o
  unfold State.deliverShip at hq ⊢
  split
  · exact hs
  · next hc =>
    simp only [hc] at hq
    split
    · next hun =>
      have hv := hs.endRecovery (hx.synchronising (by simp [hc])) hc
      simp only [hun, if_true] at hq
      dsimp only
      split
      · next h =>
        refine hv.evaluate o fun h1 h2 => hq ?_ _ h1 h2 (by rw [if_pos h])
        simp only [Bool.and_eq_true, beq_iff_eq] at h
        exact h.2
      · exact hv
    · exact hs
  · next h1 h2 =>
    have hq : d = .closed → ∀ u : State, u.Quoted o → u.pbRefusal o = none →
        (u.evaluate o = if d = .closed then s.evaluate o else s.modifyCheck o SyncCheck.noFigures) → q o := by
      split at hq
      · next h => exact (h1 h).elim
      · next h => exact (h2 h).elim
      · exact hq
    split
    · next h => exact hs.evaluate o fun k1 k2 => hq h s k1 k2 (by rw [if_pos h])
    · exact hs.modifyCheck hx.check hx.feedback

end Sys2Proof.Machine
end

section
/-! The end of an event keeps the rules: sessions closed, records placed, the queue examined, PREPARE ended (R11, R21 to
R23, R56). -/

namespace Sys2Proof.Machine

variable {p q : OutletId → Prop} {M T : Prop} {s t u v : State} {o : OutletId}

/-! ### The placing of a record (R22, R23) -/

/-- The states a placing leaves an outlet in. -/
def OutletState.isRest (st : OutletState) : Bool := st == .cabled || st == .vacant || st == .held

theorem OutletState.transfer_of_rest {st : OutletState} (h : st.isRest = true) : st.isTransfer = false := by
  revert h; cases st <;> decide

/-- A placing changes the log and the held record, and enters a state of rest. -/
theorem State.tryPlace_enters (h : (s.outlet o).held.isSome = true) :
    ∃ w st, s.tryPlace o = w.enter o st ∧ Inert s w ∧ st.isRest = true := by
  obtain ⟨hr, hh⟩ := Option.isSome_iff_exists.1 h
  unfold State.tryPlace
  rw [hh]
  dsimp only
  split
  · refine ⟨_, _, rfl, (Inert.of_same (s := s) (t := { s with log := s.log.place hr }) rfl rfl rfl rfl).trans
      (State.inert_modify _ o _ rfl), ?_⟩
    unfold Outlet.restState
    split <;> rfl
  · exact ⟨s, .held, rfl, .refl s, rfl⟩

theorem State.tryPlace_of_none (h : (s.outlet o).held = none) : s.tryPlace o = s := by
  simp only [State.tryPlace, h]

/-- A held record placed (R23). -/
theorem State.Protected.tryPlace (hs : s.Protected p q M T)
    (hheld : (s.outlet o).held.isSome = true → (s.outlet o).state = .held) : (s.tryPlace o).Protected p q M T := by
  cases hh : (s.outlet o).held with
  | none => rw [State.tryPlace_of_none hh]; exact hs
  | some h =>
    have hsome : (s.outlet o).held.isSome = true := by rw [hh]; rfl
    have hst := hheld hsome
    obtain ⟨w, st, e, hi, hrest⟩ := State.tryPlace_enters hsome
    rw [e]
    refine hs.moveTo (hi.moves o) (((hs.outlet o).mayEnter (by simp [hst]) (by simp [hst]) (by simp [hst])
      (by simp [hst])).congr (hi.outlet o)) (.inr (.inr (by rw [hst]; decide))) fun k => ?_
    rw [OutletState.transfer_of_rest hrest] at k
    cases k

/-- Held records are in HELD alone (R22). -/
def State.holdsInHeld (s : State) : Prop := ∀ o, (s.outlet o).held.isSome = true → (s.outlet o).state = .held

theorem State.holdsInHeld.tryPlace (h : s.holdsInHeld) (o : OutletId) : (s.tryPlace o).holdsInHeld := fun o' k => by
  by_cases ho : o' = o
  · subst ho
    cases hh : (s.outlet o').held with
    | none => rw [State.tryPlace_of_none hh] at k ⊢; exact h o' k
    | some r =>
      revert k
      unfold State.tryPlace
      rw [hh]
      dsimp only
      split
      · intro k
        rw [State.enter_frame _ _ _ |>.2.2.2.1, State.outlet_modify_self] at k
        cases k
      · exact fun _ => (s.enter_frame o' .held).2.1
  · rw [(s.tryPlace_frame o).2.1 o' ho] at k ⊢
    exact h o' k

theorem State.Protected.placeHeld (hs : s.Protected p q M T) (hheld : s.holdsInHeld) :
    s.placeHeld.Protected p q M T := by
  unfold State.placeHeld
  generalize s.heldOutlets = os
  induction os generalizing s with
  | nil => exact hs
  | cons o os ih => exact ih (hs.tryPlace (hheld o)) (hheld.tryPlace o)

/-! ### The close of a session (R21, R22) -/

theorem Outlet.Guarded.resting {e : Bool} {a b : Prop} {x y : Outlet} {st : OutletState} (hx : x.Guarded e a b)
    (hst : x.state = .deEnergising ∨ x.state.isRest = true) (h : { y.core with admitted := x.core.admitted } = x.core) :
    y.MayEnter e a b st := by
  have hne : x.state ≠ .energising ∧ x.state ≠ .synchronising ∧ x.state ≠ .transferIn ∧ x.state ≠ .transferOut := by
    rcases hst with hst | hst
    · rw [hst]; decide
    · revert hst; cases x.state <;> decide
  have hm := hx.mayEnter (st := st) (fun k => hne.1 k.1) hne.2.1 hne.2.2.1 hne.2.2.2
  simp only [Outlet.core, OutletCore.mk.injEq] at h
  obtain ⟨h1, h2, hcw, hil, hsb, hpb, hck, hfb, hpar, hov, _⟩ := h
  have hsc := (ShoreBreaker.of_marked hsb).1
  exact ⟨by rw [hil]; exact hm.wired.congr hsb hpb, hcw.trans hm.unwanted, by rw [hsc]; exact hm.closing,
    by rw [hck]; exact hm.check, by rw [hck]; exact hm.feedback.imp_left (Option.eq_none_congr hfb),
    hm.parallel.imp_left (Option.eq_none_congr hpar), by rw [h1]; exact hm.overload.imp_left (Option.eq_none_congr hov)⟩

/-- A session closed at an outlet at rest or in DE_ENERGISING, once its group is empty. -/
theorem State.Protected.closeSession {a : State} (hs : s.Protected p q M T) (ha : Within o s a) (hd : Drops s a)
    (hempty : ∀ m, (a.module m).group ≠ some o) (hreq : ∀ r ∈ a.grants, r.outlet ≠ o)
    (hout : a.outlet o = s.outlet o) (hst : (s.outlet o).state = .deEnergising ∨ (s.outlet o).state.isRest = true)
    (cause : EndCause) : (a.closeSession o cause).Protected p q M T := by
  have hx := hs.outlet o
  -- what a close leaves of the pool, from what it leaves of the outlet
  have close {t : State} (hw : Within o s t) (hat : Drops a t) (hg : t.grants.map Request.core = a.grants.map Request.core)
      (hx' : (t.outlet o).Guarded s.estopAllMade (p o) (q o)) (hseat : (t.outlet o).Seated) :
      t.Protected p q M T := by
    refine ⟨hs.toRuled.drops hw (hd.trans hat) (fun r hr => ?_) (.inl fun m k => ?_) hx', fun o' => ?_⟩
    · obtain ⟨r', hr', e, _⟩ := Request.mem_of_core hg hr
      rw [← e]
      exact hreq r' hr'
    · rcases hat m with e | ⟨e, _⟩
      · exact hempty m ((congrArg ModuleCore.group e).symm.trans k)
      · rw [e] at k; cases k
    · by_cases ho : o' = o
      · subst ho; exact hseat
      · exact (hs.seated o').congr (hw.outlets o' ho)
  unfold State.closeSession
  split
  · exact close ha (.of_same rfl) rfl (by rw [hout]; exact hx) (by rw [hout]; exact hs.seated o)
  · next r hr =>
    dsimp only
    generalize hb : (a.modify o fun x => { x with
      session := none, interval := none, endCause := none, held := some (a.closedRecord o r cause)
      meter := { x.meter with importAcc := 0, exportAcc := 0, heldPower := none } }) = b
    have hbo : b.outlet o = { a.outlet o with
        session := none, interval := none, endCause := none, held := some (a.closedRecord o r cause)
        meter := { (a.outlet o).meter with importAcc := 0, exportAcc := 0, heldPower := none } } := by
      rw [← hb, State.outlet_modify_self]
    have hbw : Within o a b := by
      subst hb
      exact ⟨fun o' ho => by rw [State.outlet_modify_ne _ _ ho], rfl, fun _ => .inl rfl, rfl⟩
    have hbd : Drops a b := by subst hb; exact .of_same rfl
    have hbg : b.grants = a.grants := by subst hb; rfl
    obtain ⟨w, st, e, hi, hrest⟩ := State.tryPlace_enters (s := b) (o := o) (by rw [hbo]; rfl)
    rw [e]
    have hat := (hbd.trans hi.drops).trans (w.moves_enter o st).drops
    refine close (((ha.trans hbw).trans (hi.within o)).trans (.of_acts (w.actsAt_enter o st)
      (w.moves_enter o st).drops.shrinks)) hat ?_ (State.guarded_enter (hx.resting hst ?_))
      (State.seated_enter (OutletState.transfer_of_rest hrest))
    · rw [State.grants_enter, hi.grants, hbg]
    · rw [hi.outlet, hbo, hout]
      rfl

/-- An outlet in DE_ENERGISING has no request (R18, R57). -/
theorem State.Pooled.unasked (h : s.Pooled T o) (hst : (s.outlet o).state = .deEnergising) :
    ∀ r ∈ s.grants, r.outlet ≠ o := fun r hr hro => by
  have := h.kinds r hr hro
  rw [hst] at this
  cases hk : r.kind <;> rw [hk] at this <;> cases this

theorem State.Protected.completeEnd (hs : s.Protected p q M T) (o : OutletId) :
    (s.completeEnd o).Protected p q M T := by
  simp only [State.completeEnd]
  split
  · next h =>
    refine hs.closeSession (.of_acts (s.actsAt_stopGroup o) (s.drops_stopGroup o).shrinks) (s.drops_stopGroup o)
      (fun m => ?_) ?_ (State.outlet_stopGroup _ _ _) (.inl h.1) _
    · rw [State.module_stopGroup]
      split
      · rw [Module.group_stop]; nofun
      · next hn => exact hn
    · rw [State.stopGroup, State.modifyModules_eq]
      exact (hs.pool o).unasked h.1
  · exact hs

/-! ### The end of PREPARE (R11, R33) -/

theorem State.Protected.endPrepare (hs : s.Protected p q M T) (o : OutletId) :
    (s.endPrepare o).Protected p q M T := by
  simp only [State.endPrepare]
  split
  swap
  · exact hs
  next h =>
  obtain ⟨hst, hph, _⟩ := h
  have hx := hs.outlet o
  have hw : (s.outlet o).closeWanted = false := hx.unwanted (.inl (by simp [hph]))
  have hp : (s.outlet o).sb.channel = .closing → p o := fun k => (hx.closing k).resolve_right (by simp [hph])
  have hout : (s.modify o fun x => { x with phase := some .closing }).outlet o =
      { s.outlet o with phase := some .closing } := State.outlet_modify_self _ _ _
  have hblock : (s.modify o fun x => { x with phase := some .closing }).blocking o = s.blocking o := by
    simp only [State.blocking, hout]
    rfl
  have hseat : (s.outlet o).state.isTransfer = false := by rw [hst]; rfl
  unfold State.requestSbClose
  rw [hout, hblock]
  dsimp only
  split
  · next hc =>
    split
    · rw [State.modify_modify]
      exact hs.modify rfl rfl ⟨hx.wired, nofun, fun k => .inl (hp k), hx.check, hx.feedback, hx.parallel, hx.overload⟩
        (Outlet.seated_of_not hseat)
    · next hb =>
      rw [State.modify_modify]
      refine hs.modify rfl rfl ⟨⟨?_, hx.wired.pbForm, fun _ => ?_, fun k => ?_⟩, nofun, fun _ => .inr ⟨hst, rfl⟩, hx.check,
        hx.feedback, hx.parallel, hx.overload⟩ (Outlet.seated_of_not hseat)
      · have := hx.wired.sbForm
        simp only [ShoreBreaker.wellFormed, hc] at this ⊢
        simp_all
      · show (s.outlet o).interlocks.made s.estopAllMade = true
        rw [← s.blocking_isNone]
        simpa using hb
      · exact (hx.wired.unpulsed (by simp [hc]) k).elim
  · rw [State.modify_modify]
    exact hs.modify rfl rfl ⟨hx.wired, nofun, fun k => .inl (hp k), hx.check, hx.feedback, hx.parallel, hx.overload⟩
      (Outlet.seated_of_not hseat)
  · rw [State.modify_modify]
    exact hs.modify rfl rfl ⟨hx.wired, nofun, fun k => .inl (hp k), hx.check, hx.feedback, hx.parallel, hx.overload⟩
      (Outlet.seated_of_not hseat)
  · next hc =>
    rw [State.modify_modify]
    exact hs.modify rfl rfl ⟨hx.wired, fun _ => ⟨hst, rfl, .inl hc⟩, fun k => .inl (hp k), hx.check, hx.feedback,
      hx.parallel, hx.overload⟩ (Outlet.seated_of_not hseat)
  · next hc =>
    rw [State.modify_modify]
    exact hs.modify rfl rfl ⟨hx.wired, fun _ => ⟨hst, rfl, .inr hc⟩, fun k => .inl (hp k), hx.check, hx.feedback,
      hx.parallel, hx.overload⟩ (Outlet.seated_of_not hseat)

/-! ### The end of an event -/

theorem State.Protected.settled (hs : s.Protected p q M T) : s.settle.Protected p q M T := by
  simp only [State.settle]
  exact ((((((hs.completeEnd .a).completeEnd .b).completeEnd .c).reallocate).endPrepare .a).endPrepare .b).endPrepare .c

theorem State.Protected.finish (hs : s.Protected p q M T) : s.finish.Protected p q M T := by
  unfold State.finish whenRunning
  split
  · exact hs.settled.inert (State.inert_reportAll _)
  · exact hs

end Sys2Proof.Machine
end

section
/-! The frame services, the sample sets and the loss timers keep the rules (R1 to R3, R20, R84, R90, R133 to R143). -/

namespace Sys2Proof.Machine

variable {p q : OutletId → Prop} {M T : Prop} {s t u v : State} {o : OutletId}

/-! ### Frame services (R1 to R3, R26, R133 to R143) -/

theorem State.Protected.serve {type : Byte} {act : List Byte → State → State} (hs : s.Protected p q M T) (o : OutletId)
    (h : ∀ l u, u.Protected p q M T → (act l u).Protected p q M T) : (s.serve o type act).Protected p q M T := by
  have hl (f : ShipLink → ShipLink) := hs.inert (s.inert_modifyLink o f)
  unfold State.serve
  split
  · exact hs
  · split
    · dsimp only
      split
      · exact hl _
      · exact h _ _ (hl _)
    · exact hs

theorem State.Protected.takeAnnouncement (hs : s.Protected p q M T)
    (hst : (s.outlet o).state = .cabled ∨ (s.outlet o).state = .announced) (payload : List Byte) :
    (s.takeAnnouncement o payload).Protected p q M T := by
  unfold State.takeAnnouncement
  split
  · exact hs.inert (s.inert_sendRefuse o _ _)
  · next h _ =>
    split
    · have hi := s.inert_modify o (fun x => { x with announcement := some h }) rfl
      refine hs.moveTo (hi.moves o) (((hs.outlet o).mayEnter ?_ ?_ ?_ ?_).congr (hi.outlet o)) (.inr (.inr ?_)) nofun
      all_goals rcases hst with h | h <;> simp [h, OutletState.within]
      all_goals decide
    · exact hs.inert (s.inert_sendRefuse o _ _)

theorem State.Protected.takeHello (hs : s.Protected p q M T) (o : OutletId) (payload : List Byte) :
    (s.takeHello o payload).Protected p q M T := by
  unfold State.takeHello
  split
  · next hst => exact hs.takeAnnouncement (.inl hst) payload
  · next hst => exact hs.takeAnnouncement (.inr hst) payload
  · exact hs.inert (s.inert_sendRefuse o _ _)
  · exact hs.inert (s.inert_welcome o)

theorem State.Protected.enterSync (hs : s.Protected p q M T) (hst : (s.outlet o).state = .cableLive) :
    (s.enterSync o).Protected p q M T := by
  have hx := hs.outlet o
  unfold State.enterSync
  split
  · exact hs
  · refine hs.moveTo (Moves.of_modify rfl) ?_ (OutletState.mayMove_of_supplied (by rw [hst]; rfl) rfl) nofun
    rw [State.modifyCheck, State.outlet_modify_self]
    have h := hx.mayEnter (st := .synchronising) (by simp [hst]) (by simp [hst]) (by simp [hst]) (by simp [hst])
    exact ⟨h.wired, h.unwanted, h.closing, .inr rfl, .inl rfl, h.parallel, h.overload⟩

theorem State.Protected.takeParallelRequest (hs : s.Protected p q M T) (o : OutletId) :
    (s.takeParallelRequest o).Protected p q M T := by
  unfold State.takeParallelRequest
  split
  · next hst =>
    split
    · exact hs.enterSync hst
    · exact hs.inert (s.inert_sendRefuse o _ _)
  · exact hs.inert (s.inert_sendRefuse o _ _)

/-- The outlet goes from one transfer state to the next, its breakers closed as they were (R138, R143). -/
theorem State.Protected.handOn {f : Outlet → Outlet} {st : OutletState} (hs : s.Protected p q M T)
    (htr : (s.outlet o).state.isTransfer = true)
    (hf : ∃ timer, (f (s.outlet o)).core = { (s.outlet o).core with parallel := timer } ∧
      (timer = false ∨ st = .transferIn ∨ st = .transferOut))
    (hst : st.supplied = true) (x : Item) : (((s.modify o f).raiseAt o x).enter o st).Protected p q M T := by
  have hx := hs.outlet o
  have hne : (s.outlet o).state ≠ .energising ∧ (s.outlet o).state ≠ .synchronising ∧
      (s.outlet o).state.supplied = true := by
    revert htr; cases (s.outlet o).state <;> decide
  obtain ⟨h1, h2, h3⟩ := hne
  obtain ⟨timer, hcore, htimer⟩ := hf
  have hi := (s.modify o f).inert_raiseAt o x
  have hy := hcore
  simp only [Outlet.core, OutletCore.mk.injEq] at hy
  obtain ⟨kst, _, kcw, kil, ksb, kpb, kck, kfb, kpar, kov, kadm⟩ := hy
  have hsc := ShoreBreaker.of_marked ksb
  have hpc := ParallelBreaker.of_marked kpb
  refine hs.moveTo ((Moves.of_modify kadm).trans (hi.moves o)) (Outlet.MayEnter.congr ?_ (hi.outlet o))
    (OutletState.mayMove_of_supplied h3 hst) fun _ => ?_
  · rw [State.outlet_modify_self]
    refine ⟨by rw [kil]; exact hx.wired.congr ksb kpb, kcw.trans (hx.unwanted (.inl fun k => h1 k.1)), fun k => ?_,
      .inl (kck.trans (hx.unchecked h2)), ?_, ?_, .inr (by rw [kst]; exact htr)⟩
    · exact (hx.closing (hsc.1.symm.trans k)).resolve_right fun k => h1 k.1
    · rw [kck]; exact hx.feedback.imp_left (Option.eq_none_congr kfb)
    · refine htimer.imp_left fun k => ?_
      rw [k] at kpar
      exact Option.not_isSome_iff_eq_none.1 (by simp [kpar])
  · show ((s.modify o f).outlet o).sb.channel = .closed ∧ ((s.modify o f).outlet o).sb.feedback = true ∧
      ((s.modify o f).outlet o).pb.channel = .idle ∧ ((s.modify o f).outlet o).pb.feedback = true
    rw [State.outlet_modify_self, hsc.1, hsc.2, hpc.1, hpc.2]
    exact hs.seated o htr

theorem State.Protected.takeGeneratorsOff (hs : s.Protected p q M T) (o : OutletId) :
    (s.takeGeneratorsOff o).Protected p q M T := by
  unfold State.takeGeneratorsOff
  split
  · next h => exact hs.handOn (by rw [h.1]; rfl) ⟨false, rfl, .inl rfl⟩ rfl _
  · exact hs.inert (s.inert_sendRefuse o _ _)

theorem State.Protected.takeGeneratorsOn (hs : s.Protected p q M T) (o : OutletId) :
    (s.takeGeneratorsOn o).Protected p q M T := by
  unfold State.takeGeneratorsOn
  split
  · next h => exact hs.handOn (by rw [h]; rfl) ⟨_, rfl, .inr (.inr rfl)⟩ rfl _
  · exact hs.inert (s.inert_sendRefuse o _ _)

theorem State.Protected.takeReturnRequest (hs : s.Protected p q M T) (o : OutletId) :
    (s.takeReturnRequest o).Protected p q M T := by
  unfold State.takeReturnRequest
  split
  · exact hs.inert ((s.inert_modify o _ rfl).trans (State.inert_raiseAt _ o _))
  · exact hs.inert (s.inert_sendRefuse o _ _)

theorem State.Protected.takeAbort (hs : s.Protected p q M T) (o : OutletId) : (s.takeAbort o).Protected p q M T := by
  unfold State.takeAbort
  split
  · exact hs.abandonSync o _
  · split
    · exact hs
    · exact hs.inert ((s.inert_modify o _ rfl).trans (State.inert_raiseAt _ o _))
  · exact hs
  · exact hs.inert (s.inert_sendRefuse o _ _)

theorem State.Protected.takeBye (hs : s.Protected p q M T) (o : OutletId) : (s.takeBye o).Protected p q M T := by
  unfold State.takeBye
  split
  · next hst =>
    have hi := s.inert_modify o (fun x => { x with announcement := none }) rfl
    exact hs.moveTo (hi.moves o) (((hs.outlet o).mayEnter (by simp [hst]) (by simp [hst]) (by simp [hst])
      (by simp [hst])).congr (hi.outlet o)) (.inr (.inr (by rw [hst]; decide))) nofun
  · next hst => exact hs.deEnergise (.inl (by rw [hst]; rfl)) _
  · next hst => exact hs.deEnergise (.inl (by rw [hst]; rfl)) _
  · next hst => exact hs.deEnergise (.inl (by rw [hst]; rfl)) _
  · exact hs.inert (s.inert_sendRefuse o _ _)

/-! ### Sample sets and losses (R84, R90, R91) -/

/-- A delivery of an outlet's records, where each quote it makes is allowed. -/
theorem State.Protected.deliverOutlet (hs : s.Protected p q M T) (o : OutletId) (cable ship : Option Passage)
    (hq : ∀ u : State, u.Quoted o → u.pbRefusal o = none → u.evaluate o = s.deliverOutlet o cable ship → q o) :
    (s.deliverOutlet o cable ship).Protected p q M T := by
  have deliver (v : State) (hv : v.Protected p q M T)
      (hq : ∀ u : State, u.Quoted o → u.pbRefusal o = none → u.evaluate o = v.deliverOutlet o none ship → q o) :
      (v.deliverOutlet o none ship).Protected p q M T := by
    cases ship with
    | none => exact hv
    | some y => exact hv.deliverShip o y.delivery fun _ => hq
  cases cable with
  | none => exact deliver s hs hq
  | some x => exact deliver _ (hs.deliverCable o x.delivery) hq

theorem State.Protected.loseChannel (hs : s.Protected p q M T) (ch : ChannelId) :
    (s.loseChannel ch).Protected p q M T := by
  unfold State.loseChannel
  cases ch with
  | cable o =>
    exact (hs.inert (s.inert_modify o (fun x => { x with
      cable := x.cable.lose s.setToCome, power := x.power.lose }) rfl)).deliverCable o _
  | ship o =>
    exact (hs.inert (s.inert_modify o (fun x => { x with ship := x.ship.lose s.setToCome }) rfl)).deliverShip o _ nofun
  | grid => exact hs.inert (.of_same rfl rfl rfl rfl)

end Sys2Proof.Machine
end

section
/-! The orders keep the rules (chapters 1, 3, 9 to 12), and the sample sets do. -/

namespace Sys2Proof.Machine

variable {p q : OutletId → Prop} {M T : Prop} {s t u v : State} {o : OutletId}

/-! ### Sample sets (R84, R91) -/

theorem State.actsAt_deliverOutlet (s : State) (o : OutletId) (cable ship : Option Passage) :
    ActsAt o s (s.deliverOutlet o cable ship) := by
  have deliver (v : State) : ActsAt o v (v.deliverOutlet o none ship) := by
    cases ship with
    | none => exact .refl o v
    | some y => exact v.actsAt_deliverShip o y.delivery
  cases cable with
  | none => exact deliver s
  | some x => exact (s.actsAt_deliverCable o x.delivery).trans (deliver _)

/-- The channels after they have taken their samples, with what each has passed. -/
theorem State.takeSet_delivers (s : State) (k : SampleSet) :
    ∃ (v : State) (a b c : Option Passage × Option Passage), Inert s v ∧ (∀ o, (v.outlet o).check = (s.outlet o).check) ∧
      (s.takeSet k).outlets =
        (((v.deliverOutlet .a a.1 a.2).deliverOutlet .b b.1 b.2).deliverOutlet .c c.1 c.2).outlets ∧
      Inert (((v.deliverOutlet .a a.1 a.2).deliverOutlet .b b.1 b.2).deliverOutlet .c c.1 c.2) (s.takeSet k) := by
  refine ⟨{ s with
      outlets := { a := ((s.outlet .a).takeSamples s.timestamp k.a).1, b := ((s.outlet .b).takeSamples s.timestamp k.b).1
                   c := ((s.outlet .c).takeSamples s.timestamp k.c).1 }
      grid := (s.grid.takeSamples s.timestamp k).1 }, ((s.outlet .a).takeSamples s.timestamp k.a).2,
    ((s.outlet .b).takeSamples s.timestamp k.b).2, ((s.outlet .c).takeSamples s.timestamp k.c).2,
    ⟨fun o => by cases o <;> rfl, rfl, fun _ => rfl, rfl⟩, fun o => by cases o <;> rfl, ?_, ?_⟩
  · simp only [State.takeSet]
    split <;> rfl
  · simp only [State.takeSet]
    split
    · exact .of_same rfl rfl rfl rfl
    · exact .refl _

theorem State.Protected.takeSet (hs : s.Protected p q M T) (k : SampleSet)
    (hq : ∀ (o : OutletId) (u : State), u.Quoted o → u.pbRefusal o = none →
      (u.evaluate o).outlet o = (s.takeSet k).outlet o → q o) : (s.takeSet k).Protected p q M T := by
  obtain ⟨v, a, b, c, hi, _, ho, hk⟩ := s.takeSet_delivers k
  have hout (o : OutletId) : (s.takeSet k).outlet o =
      (((v.deliverOutlet .a a.1 a.2).deliverOutlet .b b.1 b.2).deliverOutlet .c c.1 c.2).outlet o := by
    simp only [State.outlet, ho]
  refine State.Protected.inert (State.Protected.deliverOutlet (State.Protected.deliverOutlet
    (State.Protected.deliverOutlet (hs.inert hi) .a _ _ fun u h1 h2 h3 => hq .a u h1 h2 ?_) .b _ _
    fun u h1 h2 h3 => hq .b u h1 h2 ?_) .c _ _ fun u h1 h2 h3 => hq .c u h1 h2 ?_) hk
  · rw [h3, hout, (State.actsAt_deliverOutlet _ .c _ _).outlets .a (by decide),
      (State.actsAt_deliverOutlet _ .b _ _).outlets .a (by decide)]
  · rw [h3, hout, (State.actsAt_deliverOutlet _ .c _ _).outlets .b (by decide)]
  · rw [h3, hout]

/-! ### Orders that leave the outlets, the modules and the queue -/

theorem State.inert_forOutlet (s : State) (letter : Option OutletId) (act : OutletId → State → State)
    (h : ∀ o, Inert s (act o s)) : Inert s (s.forOutlet letter act) := by
  cases letter with
  | none => exact s.inert_no 120
  | some o => exact h o

theorem State.inert_forProfile (s : State) (n : Nat) (act : Fin 10 → State → State) (h : ∀ m, Inert s (act m s)) :
    Inert s (s.forProfile n act) := by
  unfold State.forProfile
  split
  · exact h _
  · exact s.inert_no 120

/-- An answer after a change that the rules do not read. -/
theorem Inert.answered (h : Inert s t) (r : Reply) : Inert s (t.answer r) := h.trans (t.inert_answer r)

/-- The orders that may change what the rules read. -/
def Instr.isActing : Instr → Bool
  | .admitVessel .. => true | .endSession _ => true | .endForce _ => true | .resume _ => true | .capacity .. => true
  | .grid _ => true | .moduleService _ => true | .moduleReturn _ => true | .signature .. => true
  | .logRelease _ => true | .closedRelease => true | .reset => true
  | _ => false

theorem State.inert_handOver (s : State) (c : Instr) (hc : Instr.isActing c = false) : Inert s (s.handOver c) := by
  have same {t : State} (ho : t.outlets = s.outlets) (he : t.estopAllMade = s.estopAllMade)
      (hm : t.modules = s.modules) (hg : t.grants = s.grants) : Inert s t := .of_same ho he hm hg
  cases c with
  | time => exact s.inert_orderTime ..
  | timeQuery =>
    show Inert s s.orderTimeQuery
    unfold State.orderTimeQuery
    split <;> exact s.inert_answer _
  | shipback letter =>
    show Inert s (s.orderShipback letter)
    refine s.inert_forOutlet letter _ fun o => .ite (fun _ => s.inert_no _) fun _ => .ite (fun _ => s.inert_no _)
      fun _ => .ite (fun _ => s.inert_no _) fun _ => .ite (fun _ => ?_) fun _ => ?_
    · exact (s.inert_send o _).answered _
    · exact (s.inert_modify o _ rfl).answered _
  | outletQuery letter =>
    show Inert s (s.orderOutletQuery letter)
    exact s.inert_forOutlet letter _ fun _ => s.inert_answer _
  | sessionQuery letter =>
    show Inert s (s.orderSessionQuery letter)
    refine s.inert_forOutlet letter _ fun o => ?_
    split
    · exact s.inert_no _
    · exact s.inert_answer _
  | measQuery letter =>
    show Inert s (s.orderMeasQuery letter)
    exact s.inert_forOutlet letter _ fun _ => s.inert_answer _
  | moduleQuery n =>
    show Inert s (s.orderModuleQuery n)
    unfold State.orderModuleQuery State.forModule
    split
    · exact s.inert_no _
    · exact s.inert_answer _
  | profileSet n field value =>
    show Inert s (s.orderProfileSet n field value)
    unfold State.orderProfileSet
    split
    · exact s.inert_no _
    · exact s.inert_forProfile n _ fun _ => same rfl rfl rfl rfl
  | profileDefault n =>
    show Inert s (s.orderProfileDefault n)
    exact s.inert_forProfile n _ fun _ => same rfl rfl rfl rfl
  | profileQuery n =>
    show Inert s (s.orderProfileQuery n)
    exact s.inert_forProfile n _ fun _ => s.inert_answer _
  | tariffBand b price w =>
    show Inert s (s.orderTariffBand b price w)
    unfold State.orderTariffBand
    exact .ite (fun _ => same rfl rfl rfl rfl) fun _ => s.inert_no _
  | tariffInterval n =>
    show Inert s (s.orderTariffInterval n)
    unfold State.orderTariffInterval
    exact .ite (fun _ => same rfl rfl rfl rfl) fun _ => s.inert_no _
  | tariffSchedule =>
    show Inert s s.orderTariffSchedule
    unfold State.orderTariffSchedule
    split
    · exact s.inert_no _
    · exact same rfl rfl rfl rfl
  | tariffDiscard =>
    show Inert s s.orderTariffDiscard
    unfold State.orderTariffDiscard
    split <;> exact same rfl rfl rfl rfl
  | logWindow a b =>
    show Inert s (s.orderLogWindow a b)
    unfold State.orderLogWindow
    refine .ite (fun _ => ?_) fun _ => s.inert_no _
    unfold State.setWindow
    split
    · exact .ite (fun _ => s.inert_no _) fun _ => same rfl rfl rfl rfl
    · exact s.inert_no _
  | logRead =>
    show Inert s s.orderLogRead
    unfold State.orderLogRead
    split
    · exact s.inert_refuse _ _
    · refine .ite (fun _ => s.inert_answer _) fun _ => ?_
      split
      · exact s.inert_no _
      · exact same rfl rfl rfl rfl
  | closedRead =>
    show Inert s s.orderClosedRead
    unfold State.orderClosedRead
    split
    · exact s.inert_no _
    · exact s.inert_answer _
  | linkTest letter =>
    show Inert s (s.orderLinkTest letter)
    have h (o : OutletId) : Inert s (s.startTest o) :=
      (s.inert_modifyLink o fun l => { l.stopSending with assembling := none, gapTimer := none, testAge := some 0 }).trans
        (.of_same rfl rfl rfl rfl)
    exact s.inert_forOutlet letter _ fun o => .ite (fun _ => h o) fun _ => .ite (fun _ => s.inert_no _)
      fun _ => s.inert_no _
  | linkQuery letter =>
    show Inert s (s.orderLinkQuery letter)
    exact s.inert_forOutlet letter _ fun _ => s.inert_answer _
  | linkClear letter =>
    show Inert s (s.orderLinkClear letter)
    exact s.inert_forOutlet letter _ fun o => (s.inert_modifyLink o _).answered _
  | eventsQuery g =>
    show Inert s (s.orderEvents g)
    unfold State.orderEvents
    split
    · exact s.inert_no _
    · exact same rfl rfl rfl rfl
  | filter x f =>
    show Inert s (s.orderFilter x f)
    unfold State.orderFilter
    split
    · exact s.inert_no _
    · exact .ite (fun _ => same rfl rfl rfl rfl) fun _ => s.inert_no _
  | enable g xs =>
    show Inert s (s.orderEnable g xs)
    unfold State.orderEnable
    split
    · exact s.inert_no _
    · exact .ite (fun _ => same rfl rfl rfl rfl) fun _ => s.inert_no _
  | attn gs =>
    show Inert s (s.orderAttn gs)
    unfold State.orderAttn
    exact .ite (fun _ => same rfl rfl rfl rfl) fun _ => s.inert_no _
  | errQuery =>
    show Inert s s.orderErrQuery
    unfold State.orderErrQuery
    split
    · exact s.inert_answer _
    · exact same rfl rfl rfl rfl
  | gridQuery | tariffQuery | logQuery | statusQuery => exact s.inert_answer _
  | tariffDemand | logThreshold | cls => exact same rfl rfl rfl rfl
  | admitVessel | endSession | endForce | resume | capacity | grid | moduleService | moduleReturn | signature
  | logRelease | closedRelease | reset => cases hc
  | _ => exact .refl s

/-! ### Orders that act -/

theorem State.Protected.forOutlet (hs : s.Protected p q M T) (letter : Option OutletId)
    {act : OutletId → State → State} (h : ∀ o, (act o s).Protected p q M T) :
    (s.forOutlet letter act).Protected p q M T := by
  cases letter with
  | none => exact hs.inert (s.inert_no 120)
  | some o => exact h o

theorem State.Protected.orderAdmit (hs : s.Protected p q M T) (letter : Option OutletId) (n : Option Nat) (kW : Nat)
    (vessel account : Option Text) : (s.orderAdmit letter n kW vessel account).Protected p q M T := by
  refine hs.forOutlet letter fun o => ?_
  split
  · exact hs.inert (s.inert_no _)
  · simp only [State.admitTo]
    split
    · exact hs.inert (s.inert_no _)
    · split
      · exact hs.inert (s.inert_no _)
      · next hst =>
        have hst : (s.outlet o).state = .cabled ∨ (s.outlet o).state = .announced := by
          by_contra hn
          exact hst (not_or.1 hn)
        split
        · exact hs.inert (s.inert_no _)
        · split
          · exact hs.inert (s.inert_no _)
          · split
            · exact hs.inert (s.inert_refuse _ _)
            · exact (hs.openSession hst _ _ _ _).inert (State.inert_okOr _ _ _)

theorem State.Protected.orderEnd (hs : s.Protected p q M T) (letter : Option OutletId) :
    (s.orderEnd letter).Protected p q M T := by
  refine hs.forOutlet letter fun o => ?_
  dsimp only
  split
  · exact hs.inert (s.inert_no _)
  · split
    · next h => exact (hs.deEnergise h _).inert (State.inert_answer _ _)
    · split
      · exact hs.inert (s.inert_no _)
      · split <;> exact hs.inert (s.inert_no _)

theorem State.Protected.orderForce (hs : s.Protected p q M T) (letter : Option OutletId) :
    (s.orderForce letter).Protected p q M T := by
  refine hs.forOutlet letter fun o => ?_
  dsimp only
  split
  · exact hs.inert (s.inert_no _)
  · split
    · exact hs.inert (s.inert_no _)
    · exact (hs.force o).inert (State.inert_answer _ _)

theorem State.Protected.orderResume (hs : s.Protected p q M T) (letter : Option OutletId) :
    (s.orderResume letter).Protected p q M T := by
  refine hs.forOutlet letter fun o => ?_
  dsimp only
  split
  · exact hs.inert (s.inert_no _)
  · split
    · exact hs.inert (s.inert_no _)
    · split
      · exact hs.inert (s.inert_no _)
      · next hst =>
        split
        · exact hs.inert (s.inert_no _)
        · exact (hs.resumeSession (by simpa using hst)).inert (State.inert_answer _ _)

theorem State.Protected.orderCapacity (hs : s.Protected p q M T) (letter : Option OutletId) (kW : Nat) :
    (s.orderCapacity letter kW).Protected p q M T := by
  refine hs.forOutlet letter fun o => ?_
  dsimp only
  split
  · exact hs.inert (s.inert_no _)
  · split
    · exact hs.inert (s.inert_no _)
    · split
      · next hst => exact (hs.recast hst _).inert (State.inert_okOr _ _ _)
      · split
        · next hst => exact hs.changeCapacity hst _ _
        · exact hs.inert (s.inert_no _)

theorem State.Protected.orderGrid (hs : s.Protected p q M T) (kW : Nat) : (s.orderGrid kW).Protected p q M T := by
  simp only [State.orderGrid]
  have hv : ({ s with gridLimit := min kW 60000 } : State).Protected p q M T := hs.inert (.of_same rfl rfl rfl rfl)
  refine State.Protected.inert ?_ (State.inert_okOr _ _ _)
  split
  · exact hv.gridCut
  · exact hv

theorem State.outlet_reportAll (s : State) (o : OutletId) : s.reportAll.outlet o = s.outlet o := by
  have h := congrArg State.outlets s.reportAll_spec.1
  simp only [State.outlet, h]

theorem State.inert_releaseRecords (s : State) (n : Nat) : Inert s (s.releaseRecords n) ∧
    ∀ o, ((s.releaseRecords n).outlet o).held = (s.outlet o).held := by
  unfold State.releaseRecords
  generalize s.log.records.filter (·.sequence ≤ n) = gone
  have h : Inert s (allOutlets.foldl (fun s o => s.modify o (Outlet.addReleased o gone)) s) :=
    .foldl (fun u o => u.inert_modify o _ rfl) _ s
  exact ⟨h.trans (.of_same rfl rfl rfl rfl), fun o => by cases o <;> rfl⟩

/-- An order that may examine the held outlets, with room made in the log or in the queue (R23, R178, R181). -/
def Examines (s t : State) : Prop :=
  (∃ v r, t = v.placeHeld.answer r ∧ Inert s v ∧ ∀ o, (v.outlet o).held = (s.outlet o).held) ∨ Inert s t

theorem State.examines_closedRelease (s : State) : Examines s s.orderClosedRelease := by
  unfold State.orderClosedRelease
  split
  · exact .inr (s.inert_no _)
  · next r rest _ =>
    have hi : Inert s ({ s with log := { s.log with closed := s.log.closed.drop 1 } } : State) := .of_same rfl rfl rfl rfl
    exact .inl ⟨_, _, rfl, hi.trans (State.inert_reportAll _), fun o => by rw [State.outlet_reportAll]; rfl⟩

theorem State.examines_logRelease (s : State) (n : Nat) : Examines s (s.orderLogRelease n) := by
  obtain ⟨hi, hheld⟩ := s.inert_releaseRecords n
  unfold State.orderLogRelease
  split
  · exact .inr (s.inert_no _)
  · split
    · split
      · exact .inr (s.inert_no _)
      · exact .inl ⟨_, _, rfl, hi.trans (State.inert_reportAll _), fun o => by rw [State.outlet_reportAll, hheld]⟩
    · exact .inr (s.inert_no _)

theorem State.Protected.examines (hs : s.Protected p q M T) (h : Examines s t) (hheld : s.holdsInHeld) :
    t.Protected p q M T := by
  rcases h with ⟨v, r, rfl, hi, hv⟩ | hi
  · refine State.Protected.inert ((hs.inert hi).placeHeld fun o k => ?_) (State.inert_answer _ _)
    rw [hv] at k
    rw [hi.state]
    exact hheld o k
  · exact hs.inert hi

/-! ### A reset (R43, R191) -/

/-- A part at its after-reset values keeps the rules. -/
theorem State.protected_of_isReset (h : s.isReset = true) : s.Protected p q M T := by
  obtain ⟨ho, hm, hg, _, _⟩ := s.isReset_iff.1 h
  have hmod (m : Fin 8) : (s.module m).Placed M ∧ (s.module m).group = none := by
    have e : s.module m = (s.module m).afterReset (s.phase == .startingUp) := by
      have := congrArg (fun v : Vector Module 8 => v[m]) hm
      simpa [State.module] using this.symm
    have hout (x : Module) (b : Bool) : (x.afterReset b).Placed M ∧ (x.afterReset b).group = none := by
      unfold Module.afterReset
      cases x.service
      · exact ⟨⟨rfl, .inr rfl, nofun, fun _ => rfl⟩, rfl⟩
      · exact ⟨⟨rfl, .inl rfl, nofun, fun _ => rfl⟩, rfl⟩
    rw [e]
    exact hout _ _
  have hst (o : OutletId) : ((s.outlet o).afterReset).state.isTransfer = false := by
    unfold Outlet.afterReset
    cases (s.outlet o).held <;> rfl
  refine ⟨⟨fun o => ?_, fun m => (hmod m).1, fun o => ⟨fun m k => ?_, ?_, ?_, fun _ => .of_gone ?_ fun k => ?_⟩⟩, fun o => ?_⟩
  · rw [← ho o]
    exact ⟨.of_open rfl rfl nofun nofun nofun, nofun, nofun, .inl rfl, .inl rfl, .inl rfl, .inl rfl⟩
  · rw [(hmod m).2] at k; cases k
  · rw [hg]; nofun
  · rw [hg]; exact Nat.zero_le 1
  · rw [hg]; nofun
  · obtain ⟨m, h1, _⟩ := (s.hasMarks_iff o).1 k
    rw [(hmod m).2] at h1; cases h1
  · rw [← ho o]
    exact Outlet.seated_of_not (hst o)

/-- The orders that examine the held outlets. -/
def Instr.isRelease : Instr → Bool
  | .logRelease _ => true | .closedRelease => true
  | _ => false

theorem State.examines_release (s : State) {c : Instr} (h : Instr.isRelease c = true) : Examines s (s.handOver c) := by
  cases c with
  | logRelease n => exact s.examines_logRelease n
  | closedRelease => exact s.examines_closedRelease
  | _ => cases h

/-- The orders keep the rules, a release where the held records are in HELD. -/
theorem State.Protected.handOver (hs : s.Protected p q M T) (c : Instr)
    (hc : Instr.isRelease c = true → s.holdsInHeld) : (s.handOver c).Protected p q M T := by
  by_cases ha : Instr.isActing c = true
  · cases c with
    | admitVessel letter n kW v a => exact hs.orderAdmit letter n kW v a
    | endSession letter => exact hs.orderEnd letter
    | endForce letter => exact hs.orderForce letter
    | resume letter => exact hs.orderResume letter
    | capacity letter kW => exact hs.orderCapacity letter kW
    | grid kW => exact hs.orderGrid kW
    | moduleService n => exact hs.orderService n
    | moduleReturn n => exact hs.orderReturn n
    | signature n sig rating => exact hs.orderSignature n sig rating
    | logRelease n => exact hs.examines (s.examines_logRelease n) (hc rfl)
    | closedRelease => exact hs.examines s.examines_closedRelease (hc rfl)
    | reset => exact State.protected_of_isReset (s.isReset_afterReset .startingUp)
    | _ => cases ha
  · exact hs.inert (s.inert_handOver c (by simpa using ha))

end Sys2Proof.Machine
end

section
/-! Every event keeps the rules, but for the placing of a record that stands outside HELD, which moves no breaker. -/

namespace Sys2Proof.Machine

variable {p q : OutletId → Prop} {M T : Prop} {s t u v : State} {o : OutletId}

/-! ### Breakers that stand -/

/-- Between `s` and `t` no breaker channel has moved. -/
def Unmoved (s t : State) : Prop :=
  ∀ o, (t.outlet o).sb.channel = (s.outlet o).sb.channel ∧ (t.outlet o).pb.channel = (s.outlet o).pb.channel

theorem Unmoved.trans (h : Unmoved s t) (k : Unmoved t u) : Unmoved s u :=
  fun o => ⟨(k o).1.trans (h o).1, (k o).2.trans (h o).2⟩

theorem Inert.unmoved (h : Inert s t) : Unmoved s t := fun o =>
  ⟨(ShoreBreaker.of_marked (congrArg OutletCore.sb (h.outlet o))).1,
    (ParallelBreaker.of_marked (congrArg OutletCore.pb (h.outlet o))).1⟩

theorem State.unmoved_tryPlace (s : State) (o : OutletId) : Unmoved s (s.tryPlace o) := fun o' => by
  obtain ⟨_, hne, _, _, _, he, _⟩ := s.tryPlace_frame o
  by_cases ho : o' = o
  · subst ho
    rw [he]
    exact ⟨rfl, rfl⟩
  · rw [hne o' ho]
    exact ⟨rfl, rfl⟩

theorem State.unmoved_placeHeld (s : State) : Unmoved s s.placeHeld := by
  unfold State.placeHeld
  generalize s.heldOutlets = os
  induction os generalizing s with
  | nil => exact fun _ => ⟨rfl, rfl⟩
  | cons o os ih => exact (s.unmoved_tryPlace o).trans (ih _)

theorem Examines.unmoved (h : Examines s t) : Unmoved s t := by
  rcases h with ⟨v, r, rfl, hi, _⟩ | hi
  · exact (hi.unmoved.trans v.unmoved_placeHeld).trans (State.inert_answer _ _).unmoved
  · exact hi.unmoved

/-! ### What an event leaves -/

/-- What an event leaves before it ends: the rules, or breakers that have not moved where a record stands outside HELD. -/
def Guards (p q : OutletId → Prop) (M T : Prop) (s t : State) : Prop :=
  t.Protected p q M T ∨ ¬s.holdsInHeld ∧ Unmoved s t

theorem State.guards_handOver (hs : s.Protected p q M T) (c : Instr) : Guards p q M T s (s.handOver c) := by
  by_cases h : Instr.isRelease c = true ∧ ¬s.holdsInHeld
  · exact .inr ⟨h.2, (s.examines_release h.1).unmoved⟩
  · exact .inl (hs.handOver c fun hc => by_contra fun hn => h ⟨hc, hn⟩)

/-- A line taken by the interpreter runs its order at most (R184, R185). -/
theorem State.guards_takeNext (hs : s.Protected p q M T) : Guards p q M T s s.takeNext := by
  unfold State.takeNext
  split
  · exact .inl hs
  · split
    · exact .inl hs
    · next l rest _ =>
      have hi : Inert s ({ s with terminal := { s.terminal with queue := rest } } : State) := .of_same rfl rfl rfl rfl
      have hv := hs.inert hi
      unfold State.takeLine
      split
      · exact .inl (hv.inert (State.inert_refuse _ _ _))
      · split
        · exact .inl (hv.inert (State.inert_refuse _ _ _))
        · split
          · exact State.guards_handOver hv _
          · exact .inl (hv.inert (State.inert_no _ _))

theorem State.guards_endLine (hs : s.Protected p q M T) : Guards p q M T s s.endLine := by
  simp only [State.endLine]
  have hv : ({ s with terminal := { s.terminal with line := Line.empty } } : State).Protected p q M T :=
    hs.inert (.of_same rfl rfl rfl rfl)
  split
  · exact .inl hv
  · split
    · exact State.guards_takeNext (hv.inert (.of_same rfl rfl rfl rfl))
    · exact .inl (hv.inert (State.inert_pushError _ _ _))

theorem State.guards_replyLeaves (hs : s.Protected p q M T) : Guards p q M T s s.replyLeaves := by
  unfold State.replyLeaves
  split
  · exact State.guards_takeNext (hs.inert (.of_same rfl rfl rfl rfl))
  · exact .inl hs

theorem State.inert_resolveTest (s : State) (o : OutletId) (returned : List Received) (age : Nat) :
    Inert s (s.resolveTest o returned age) := by
  simp only [State.resolveTest, State.endTest]
  refine (s.inert_elapse _).trans (Inert.trans ((State.inert_modifyLink _ o _).trans (State.inert_startSending _ o))
    (.ite (fun _ => .of_same rfl rfl rfl rfl) fun _ => .refl _))

/-- A timer that runs out: the time left on it passes, and the expiry acts. -/
theorem State.Protected.atExpiry {timer : Timer} {act : State → State} (hs : s.Protected p q M T)
    (h : ∀ n, timer.isSome = true → (s.elapse n).Protected p q M T → (act (s.elapse n)).Protected p q M T) :
    (s.atExpiry timer act).Protected p q M T := by
  unfold State.atExpiry
  split
  · exact hs
  · exact h _ rfl (hs.inert (s.inert_elapse _))

/-- The events but the sample sets, at a part that keeps the rules (`M` where `T`: a drain runs in RELEASING). -/
theorem exec_guards (c : Instr) (s : State) (hc : c.isPowerRow = false) (hr : c.isReceiverRow = false)
    (hw : c.wellFormed = true) (hk : ∀ k, c ≠ .sampleSet k) (hMT : T → M) (hs : s.Protected p q M T) :
    ∃ act, exec c s = atEvent act s ∧ Guards p q M T s (act s) := by
  by_cases ho : c.isOrder = true
  · exact ⟨_, exec_order c s ho, State.guards_handOver hs c⟩
  cases c with
  | tlLineEnd => exact ⟨_, rfl, State.guards_endLine hs⟩
  | replySent => exact ⟨_, rfl, State.guards_replyLeaves hs⟩
  | linkTestResult o returned =>
    have e : exec (.linkTestResult o returned) s = execLinkTestResult o returned s := rfl
    rw [execLinkTestResult, if_pos (by simpa [Instr.wellFormed] using hw)] at e
    refine ⟨_, e, .inl ?_⟩
    split
    · exact hs
    · exact hs.inert (s.inert_resolveTest o _ _)
  | interlockChange input made =>
    refine ⟨_, rfl, .inl ?_⟩
    split
    · exact hs.changeInput _ _ _
    · exact hs.changeEstopAll _
  | sbFeedbackCloses o =>
    refine ⟨_, rfl, .inl ?_⟩
    split
    · exact hs
    · next hf => exact hs.sbCloses (by simpa using hf)
  | sbFeedbackOpens o =>
    refine ⟨_, rfl, .inl ?_⟩
    split
    · next hf => exact hs.sbOpens hf
    · exact hs
  | pbFeedbackCloses o =>
    refine ⟨_, rfl, .inl ?_⟩
    split
    · exact hs
    · next hf => exact hs.pbCloses (by simpa using hf)
  | pbFeedbackOpens o =>
    refine ⟨_, rfl, .inl ?_⟩
    split
    · next hf => exact hs.pbOpens hf
    · exact hs
  | sbCloseTimerExpiry o =>
    exact ⟨_, rfl, .inl (hs.atExpiry fun n ht hv => hv.sbCloseExpires (by simpa [Outlet.elapse] using ht))⟩
  | sbOpenTimerExpiry o =>
    exact ⟨_, rfl, .inl (hs.atExpiry fun n ht hv => hv.sbOpenExpires (by simpa [Outlet.elapse] using ht))⟩
  | pbCloseTimerExpiry o =>
    exact ⟨_, rfl, .inl (hs.atExpiry fun n ht hv => hv.pbCloseExpires (by simpa [Outlet.elapse] using ht))⟩
  | pbTripTimerExpiry o =>
    exact ⟨_, rfl, .inl (hs.atExpiry fun n ht hv => hv.pbTripExpires (by simpa [Outlet.elapse] using ht))⟩
  | closeFeedbackTimerExpiry o =>
    exact ⟨_, rfl, .inl (hs.atExpiry fun n ht hv => hv.feedbackExpires (by simpa [Outlet.elapse] using ht))⟩
  | syncTimerExpiry o => exact ⟨_, rfl, .inl (hs.atExpiry fun n _ hv => hv.syncExpires o)⟩
  | energiseTimerExpiry o => exact ⟨_, rfl, .inl (hs.atExpiry fun n _ hv => hv.energiseExpires o)⟩
  | parallelTimerExpiry o =>
    exact ⟨_, rfl, .inl (hs.atExpiry fun n ht hv => hv.parallelExpires (by simpa [Outlet.elapse] using ht) _ _)⟩
  | overloadTimerExpiry o =>
    exact ⟨_, rfl, .inl (hs.atExpiry fun n ht hv => hv.overloadExpires (by simpa [Outlet.elapse] using ht))⟩
  | moduleCharged m => exact ⟨_, rfl, .inl ((hs.inert (s.inert_moduleAnswers m)).takeCharged m)⟩
  | moduleResult m pass sig => exact ⟨_, rfl, .inl ((hs.inert (s.inert_moduleAnswers m)).takeResult m pass sig)⟩
  | moduleFault m code =>
    have e : exec (.moduleFault m code) s = execModuleFault m code s := rfl
    rw [execModuleFault, if_neg (by simpa [Instr.wellFormed] using hw)] at e
    exact ⟨_, e, .inl ((hs.inert (s.inert_moduleAnswers m)).faultModule m _)⟩
  | moduleAnswer m => exact ⟨_, rfl, .inl (hs.inert (s.inert_moduleAnswers m))⟩
  | moduleSilent m =>
    refine ⟨_, rfl, .inl (hs.atExpiry fun n _ hv => ?_)⟩
    have hu := hv.inert (State.inert_modifyModule _ m (fun x => { x with answering := false, silence := none }) rfl)
    dsimp only
    split
    · exact hu.faultModule m _
    · exact hu
  | prechargeTimerExpiry m => exact ⟨_, rfl, .inl (hs.atExpiry fun n _ hv => hv.faultModule m _)⟩
  | selfTestTimerExpiry m => exact ⟨_, rfl, .inl (hs.atExpiry fun n _ hv => hv.faultModule m _)⟩
  | drainTimerExpiry m =>
    refine ⟨_, rfl, .inl (hs.atExpiry fun n ht hv => hv.endDrain fun hT => ?_)⟩
    have := (hv.module m).timers (hMT hT)
    simp only [Module.timersSound, Bool.and_eq_true, Bool.or_eq_true, beq_iff_eq] at this
    refine this.2.resolve_left ?_
    simpa [Module.elapse] using Option.isSome_iff_ne_none.1 ht
  | restTimeExpiry m => exact ⟨_, rfl, .inl (hs.atExpiry fun n _ hv => hv.rested m)⟩
  | grantWaitExpiry o =>
    refine ⟨_, rfl, .inl ?_⟩
    split
    · exact hs
    · next r hreq =>
      refine hs.atExpiry fun n _ hv => hv.expireRequest ?_
      rw [(s.inert_elapse n).state]
      exact (hs.pool r.outlet).kinds r (List.mem_of_find?_eq_some hreq) rfl
  | referenceUpdate =>
    refine ⟨_, rfl, .inl (hs.inert (Inert.trans (Inert.trans (s.inert_elapse s.due.reference) ?_)
      (.foldl (fun u o => u.inert_modifyRef o _) _ _)))⟩
    exact .of_same rfl rfl rfl rfl
  | controlStep =>
    refine ⟨_, rfl, .inl (hs.inert (Inert.trans (Inert.trans (s.inert_elapse s.due.control) ?_)
      (State.inert_controlStep _)))⟩
    exact .of_same rfl rfl rfl rfl
  | sampleSet k => exact (hk k rfl).elim
  | lossTimerExpiry ch => exact ⟨_, rfl, .inl (hs.atExpiry fun n _ hv => hv.loseChannel ch)⟩
  | gridOverTimerExpiry =>
    refine ⟨_, rfl, .inl (hs.atExpiry fun n _ hv => hv.inert (Inert.trans ?_
      (.foldl (fun v o => v.inert_modify o _ rfl) _ _)))⟩
    exact .of_same rfl rfl rfl rfl
  | meteringTick =>
    refine ⟨_, rfl, .inl (hs.inert (Inert.trans (Inert.trans (s.inert_elapse s.due.metering) ?_)
      (State.inert_meterTick _)))⟩
    exact .of_same rfl rfl rfl rfl
  | hello o => exact ⟨_, rfl, .inl (hs.serve o fun l u hu => hu.takeHello o l)⟩
  | status o => exact ⟨_, rfl, .inl (hs.serve o fun l u hu => hu.inert (u.inert_takeStatus o l))⟩
  | parallelRequest o => exact ⟨_, rfl, .inl (hs.serve o fun _ u hu => hu.takeParallelRequest o)⟩
  | generatorsOff o => exact ⟨_, rfl, .inl (hs.serve o fun _ u hu => hu.takeGeneratorsOff o)⟩
  | returnRequest o => exact ⟨_, rfl, .inl (hs.serve o fun _ u hu => hu.takeReturnRequest o)⟩
  | generatorsOn o => exact ⟨_, rfl, .inl (hs.serve o fun _ u hu => hu.takeGeneratorsOn o)⟩
  | abort o => exact ⟨_, rfl, .inl (hs.serve o fun _ u hu => hu.takeAbort o)⟩
  | bye o => exact ⟨_, rfl, .inl (hs.serve o fun _ u hu => hu.takeBye o)⟩
  | shoreFrameSent o =>
    refine ⟨_, rfl, .inl (hs.inert (.ite (fun _ => (s.inert_modifyLink o _).trans (State.inert_startSending _ o))
      fun _ => .refl s))⟩
  | watchdogExpiry o =>
    exact ⟨_, rfl, .inl (hs.atExpiry fun n _ hv => (hv.inert (State.inert_modifyLink _ o _)).linkDown o _)⟩
  | statusTimerExpiry o =>
    exact ⟨_, rfl, .inl (hs.atExpiry fun n _ hv => hv.inert ((State.inert_modifyLink _ o _).trans
      (State.inert_sendStatus _ o)))⟩
  | tlCharacter ch =>
    have e : exec (.tlCharacter ch) s = execTlCharacter ch s := rfl
    rw [execTlCharacter, if_neg (by simpa [Instr.wellFormed] using hw)] at e
    exact ⟨_, e, .inl (hs.inert (.of_same rfl rfl rfl rfl))⟩
  | _ => first | exact (Bool.false_ne_true hc.symm).elim | exact (Bool.false_ne_true hr.symm).elim | exact (ho rfl).elim

end Sys2Proof.Machine
end

section
/-! Every command keeps the rules, and with them rest before start-up is complete; the protective rules of the obligation
are these. -/

namespace Sys2Proof.Machine

variable {p q : OutletId → Prop} {M T : Prop} {s t u v : State} {o : OutletId}

/-! ### Start-up (R24, R43, R198) -/

theorem OutletState.isRest_of_mem {st : OutletState} (h : st ∈ [OutletState.cabled, .vacant, .held]) :
    st.isRest = true := by
  revert h; cases st <;> decide

/-- A session closed at start-up, when nothing has been granted. -/
theorem State.Protected.closeUnstarted (hs : s.Protected p q M T) (hu : s.Unstarted) (o : OutletId) (cause : EndCause) :
    (s.closeSession o cause).Protected p q M T := by
  have hrest := OutletState.isRest_of_mem (hu.state o)
  refine hs.closeSession ((Inert.refl s).within o) (Inert.refl s).drops (fun m k => ?_) (by rw [hu.grants]; nofun) rfl
    (.inr hrest) cause
  have := (hs.pool o).home m k
  revert hrest this
  cases (s.outlet o).state <;> decide

theorem State.Protected.closeAll (hs : s.Protected p q M T) (hu : s.Unstarted) (cause : EndCause)
    (os : List OutletId) : (os.foldl (fun s o => s.closeSession o cause) s).Protected p q M T := by
  induction os generalizing s with
  | nil => exact hs
  | cons o os ih => exact ih (hs.closeUnstarted hu o cause) (hu.closeSession o cause)

theorem State.unstarted_of_atRest (hp : s.phase = .startingUp) (h : s.atRest = true) :
    ({ s with phase := .running } : State).startPolling.Unstarted := by
  have hr (o : OutletId) := (State.outlet_of_atRest hp h o).1
  refine ⟨(State.outlet_of_atRest hp h .a).2.1, (State.outlet_of_atRest hp h .a).2.2, fun o => ?_, fun o => ?_⟩
  · exact congrArg Outlet.limit (hr o)
  · have : (s.outlet o).state = if (s.outlet o).held.isSome then .held else .vacant := congrArg Outlet.state (hr o)
    show (s.outlet o).state ∈ _
    rw [this]
    split <;> decide

theorem State.inert_startPolling (s : State) : Inert s s.startPolling := s.inert_mapModules _ fun _ => rfl

theorem State.Protected.startUp (hs : s.Protected p q M T) (hp : s.phase = .startingUp) (h : s.atRest = true) :
    s.startUp.Protected p q M T := by
  have hu := State.unstarted_of_atRest hp h
  have hv : ({ s with phase := .running } : State).startPolling.Protected p q M T :=
    hs.inert (Inert.trans (t := { s with phase := .running }) (.of_same rfl rfl rfl rfl) (State.inert_startPolling _))
  have ht := hv.closeAll hu .reset
    (({ s with phase := .running } : State).startPolling.bySession (allOutlets.filter fun o =>
      (({ s with phase := .running } : State).startPolling.outlet o).session.isSome))
  have hstatus (w : State) (hw : w.Protected p q M T) : ({ w with status := s.status } : State).stateConditions.Protected p q M T := by
    rw [(State.stateConditions_spec _).1]
    exact hw.inert (.of_same rfl rfl rfl rfl)
  exact hstatus _ ht

/-- The rows of supply, RST# and start-up keep the rules (R5, R43, R66, R198). -/
theorem exec_powerRow_protects {c : Instr} (hc : c.isPowerRow = true) (hs : s.Protected p q M T)
    (hr : s.atRest = true) (h : exec c s = .next t) : t.Protected p q M T ∧ t.atRest = true := by
  have reset (u : State) (ph : Phase) : (u.afterReset ph).Protected p q M T ∧ (u.afterReset ph).atRest = true :=
    ⟨State.protected_of_isReset (u.isReset_afterReset ph), State.atRest_of_isReset (u.isReset_afterReset ph)⟩
  have level (b : Bool) : ({ s with rstLow := b } : State).Protected p q M T ∧
      ({ s with rstLow := b } : State).atRest = true :=
    ⟨hs.inert (.of_same rfl rfl rfl rfl), by rw [State.atRest_rstLow]; exact hr⟩
  cases c with
  | powerOn => cases h; exact reset s _
  | powerLoss => cases h; exact reset s _
  | rstAsserted =>
    cases h
    split
    · exact level true
    · exact reset _ _
  | rstReleased =>
    cases h
    dsimp only
    split
    · next hp =>
      have hreset : s.isReset = true := by simpa [State.atRest, show s.phase = .inReset from hp] using hr
      exact ⟨(level false).1.inert (Inert.trans (t := { s with rstLow := false, phase := .startingUp })
          (.of_same rfl rfl rfl rfl) (State.inert_mapModules _ _ fun _ => rfl)),
        State.atRest_of_isReset (State.isReset_beginStartUp hp hreset)⟩
    · exact level false
  | startUpComplete =>
    cases h
    split
    · next hp => exact ⟨hs.startUp hp hr, State.atRest_of_running (State.startUp_settled hp hr).1⟩
    · exact ⟨hs, hr⟩
  | _ => exact (Bool.false_ne_true hc).elim

/-! ### The receivers (R116 to R124) -/

/-- A row of a receiver keeps the rules. -/
theorem exec_receiver_protects (c : Instr) (s : State) (hr : c.isReceiverRow = true) (hw : c.wellFormed = true)
    (hs : s.Protected p q M T) : ∃ act, exec c s = atReceiver act s ∧ (act s).Protected p q M T := by
  have connected {o : OutletId} {act : State → State} (h : (act s).Protected p q M T) :
      (whenConnected o act s).Protected p q M T := by
    unfold whenConnected
    split
    · exact hs
    · exact h
  cases c with
  | shipCharacter o ch => exact ⟨_, rfl, connected (hs.inert (s.inert_takeCharacter o ch))⟩
  | frameGapTimeout o =>
    refine ⟨_, rfl, ?_⟩
    have drop (u : State) (hu : u.Protected p q M T) : (u.dropAtGap o).Protected p q M T :=
      hu.inert (u.inert_modifyLink o _)
    split
    · split
      · exact drop s hs
      · exact hs
    · exact hs.atExpiry fun n _ hv => drop _ hv
  | lineBreak o => exact ⟨_, rfl, connected ((hs.inert (s.inert_modifyLink o _)).linkDown o _)⟩
  | frameComplete o f =>
    have e : exec (.frameComplete o f) s = execFrameComplete o f s := rfl
    rw [execFrameComplete, if_pos (by simpa [Instr.wellFormed] using hw)] at e
    exact ⟨_, e, connected (hs.inert (s.inert_completeFrame o f))⟩
  | _ => exact (Bool.false_ne_true hr).elim

/-! ### Every command -/

/-- What a command other than a sample set leaves: the rules, or, where a record stands outside HELD in the running part,
the end of an event that has moved no breaker. -/
theorem exec_protects {c : Instr} (hs : s.Protected p q M T) (hr : s.atRest = true) (hMT : T → M)
    (hk : ∀ k, c ≠ .sampleSet k) (h : exec c s = .next t) :
    t.Protected p q M T ∨ s.phase = .running ∧ ¬s.holdsInHeld ∧ ∃ u, t = u.finish ∧ Unmoved s u := by
  have hw : c.wellFormed = true := by
    by_contra hw
    exact exec_illFormed (by simpa using hw) h
  by_cases hc : c.isPowerRow = true
  · exact .inl (exec_powerRow_protects hc hs hr h).1
  by_cases hrow : c.isReceiverRow = true
  · obtain ⟨act, e, hact⟩ := exec_receiver_protects c s hrow hw hs
    rw [e] at h
    by_cases hp : s.phase = .startingUp
    · rw [atReceiver_of_startingUp hp] at h
      cases h
      exact .inl hact
    · by_cases hrun : s.phase = .running
      · rw [atReceiver_of_running hrun] at h
        cases h
        exact .inl hact.finish
      · rw [atReceiver_of_stopped hrun hp] at h
        cases h
        exact .inl hs
  · obtain ⟨act, e, hact⟩ := exec_guards c s (by simpa using hc) (by simpa using hrow) hw hk hMT hs
    rw [e] at h
    by_cases hp : s.phase = .running
    · rw [atEvent_of_running hp] at h
      cases h
      rcases hact with hact | ⟨hheld, hun⟩
      · exact .inl hact.finish
      · exact .inr ⟨hp, hheld, _, rfl, hun⟩
    · rw [atEvent_of_ne hp] at h
      cases h
      exact .inl hs

/-- A sample set keeps the rules, where each quote it makes is allowed. -/
theorem exec_sampleSet_protects {k : SampleSet} (hs : s.Protected p q M T) (hp : s.phase = .running)
    (h : exec (.sampleSet k) s = .next t)
    (hq : ∀ w, t = (w.takeSet k).finish → Inert s w → ∀ (o : OutletId) (u : State), u.Quoted o → u.pbRefusal o = none →
      (u.evaluate o).outlet o = (w.takeSet k).outlet o → q o) : t.Protected p q M T := by
  have e : exec (.sampleSet k) s = atEvent (fun s =>
    let s := s.elapse s.due.sample
    ({ s with due := { s.due with sample := Config.samplePeriod } }).takeSet k) s := rfl
  rw [e, atEvent_of_running hp] at h
  cases h
  dsimp only at hq ⊢
  have hi : Inert s ({ s.elapse s.due.sample with due := { (s.elapse s.due.sample).due with sample := Config.samplePeriod } } : State) :=
    (s.inert_elapse s.due.sample).trans (.of_same rfl rfl rfl rfl)
  exact ((hs.inert hi).takeSet k (hq _ rfl hi)).finish

/-! ### The accounts -/

/-- The accounts hold each held record in HELD (R22). -/
theorem State.holdsInHeld_of_accounts (hp : s.phase = .running) (h : s.accounts = true) : s.holdsInHeld := fun o ho => by
  simp only [State.accounts, Bool.and_eq_true, allOutlets_all] at h
  have hr := (h.2 o).1
  simp only [State.recordsSound, hp, Bool.and_eq_true, Bool.or_eq_true, beq_iff_eq] at hr
  rcases hr.2 with hn | hn
  · exact absurd hn (by decide)
  · simpa [ho] using hn.2

/-- Where no quote is barred and the accounts are in order, every command keeps the rules. -/
theorem exec_keeps_protected {c : Instr} (hs : s.Protected p (fun _ => True) M T) (hr : s.atRest = true)
    (ha : s.phase = .running → s.holdsInHeld) (hMT : T → M) (h : exec c s = .next t) :
    t.Protected p (fun _ => True) M T := by
  by_cases hk : ∃ k, c = .sampleSet k
  · obtain ⟨k, rfl⟩ := hk
    by_cases hp : s.phase = .running
    · exact exec_sampleSet_protects hs hp h fun _ _ _ _ _ _ _ _ => trivial
    · have e : exec (.sampleSet k) s = atEvent (fun s =>
        let s := s.elapse s.due.sample
        ({ s with due := { s.due with sample := Config.samplePeriod } }).takeSet k) s := rfl
      rw [e, atEvent_of_ne hp] at h
      cases h
      exact hs
  · rcases exec_protects hs hr hMT (fun k e => hk ⟨k, e⟩) h with h | ⟨hp, hn, _⟩
    · exact h
    · exact (hn (ha hp)).elim

end Sys2Proof.Machine
end

section
/-! The protective rules of the obligations are those of `State.Protected`, and every step keeps them. -/

namespace Sys2Proof.Machine

variable {p q : OutletId → Prop} {M T : Prop} {s t u v : State} {o : OutletId}

/-! ### The rules as the obligations state them -/

theorem State.sbCommand_iff (s : State) (o : OutletId) :
    s.sbCommand o = true ↔ (s.outlet o).sb.channel = .closing ∨ (s.outlet o).sb.channel = .closed := by
  unfold State.sbCommand
  cases (s.outlet o).sb.channel <;> simp

theorem State.pbClose_iff (s : State) (o : OutletId) : s.pbClose o = true ↔ (s.outlet o).pb.channel = .closePulse :=
  beq_iff_eq

theorem Outlet.closeSound_iff (x : Outlet) : x.closeSound = true ↔ (x.closeWanted = true →
    x.state = .energising ∧ x.phase = some .closing ∧ (x.sb.channel = .opening ∨ x.sb.channel = .stuck)) := by
  unfold Outlet.closeSound
  cases x.closeWanted <;> simp [and_assoc]

theorem not_or_iff_imp {a b : Bool} : (!a || b) = true ↔ (a = true → b = true) := by
  cases a <;> simp

/-- The breakers of an outlet as the tables of sections 2.3 and 2.4 have them. -/
theorem State.breakersSound_iff (s : State) (o : OutletId) : s.breakersSound o = true ↔
    Wired ((s.outlet o).interlocks.made s.estopAllMade) True (s.outlet o).sb (s.outlet o).pb ∧
      ((s.outlet o).closeWanted = true → (s.outlet o).state = .energising ∧ (s.outlet o).phase = some .closing ∧
        ((s.outlet o).sb.channel = .opening ∨ (s.outlet o).sb.channel = .stuck)) := by
  unfold State.breakersSound
  simp only [Bool.and_eq_true, not_or_iff_imp, Outlet.closeSound_iff, s.blocking_isNone, s.sbCommand_iff,
    s.pbClose_iff, beq_iff_eq]
  constructor
  · rintro ⟨⟨⟨⟨h1, h2⟩, h3⟩, h4⟩, h5⟩
    exact ⟨⟨h1, h2, h4, fun k => ⟨(h5 k).1, (h5 k).2, trivial⟩⟩, h3⟩
  · rintro ⟨⟨h1, h2, h3, h4⟩, h5⟩
    exact ⟨⟨⟨⟨h1, h2⟩, h5⟩, h3⟩, fun k => ⟨(h4 k).1, (h4 k).2.1⟩⟩

/-- The check, the handover's timers and the transfer states as chapters 6 and 8 have them. -/
theorem Outlet.syncSound_iff (x : Outlet) : x.syncSound = true ↔
    (x.check.state = .inactive ∨ x.state = .synchronising) ∧
      (x.check.feedbackTimer = none ∨ x.check.state = .closing) ∧
      (x.handover.parallelTimer = none ∨ x.state = .transferIn ∨ x.state = .transferOut) ∧
      (x.handover.overloadTimer = none ∨ x.state.isTransfer = true) ∧ x.Seated := by
  unfold Outlet.syncSound Outlet.Seated
  cases x.state.isTransfer <;>
    simp only [Bool.and_eq_true, Bool.or_eq_true, beq_iff_eq, Option.isNone_iff_eq_none, and_assoc, or_assoc,
      Bool.not_true, Bool.not_false, Bool.false_eq_true, false_or, true_or, or_true, forall_const, false_implies]

theorem State.memberSound_iff (s : State) (m : Fin 8) : s.memberSound m = true ↔
    (s.module m).Placed False ∧
      ∀ o, (s.module m).group = some o → (s.outlet o).state.within .energising .deEnergising = true := by
  unfold State.memberSound
  constructor
  · intro h
    simp only [Bool.and_eq_true, Bool.or_eq_true, Bool.not_eq_true', beq_iff_eq, Option.isNone_iff_eq_none] at h
    obtain ⟨⟨⟨h1, h2⟩, h3⟩, h4⟩ := h
    refine ⟨⟨h1, h2, fun k => h3.resolve_left (by simp [k]), False.elim⟩, fun o k => ?_⟩
    rw [k] at h4
    exact h4
  · rintro ⟨⟨h1, h2, h3, _⟩, h4⟩
    simp only [Bool.and_eq_true, Bool.or_eq_true, Bool.not_eq_true', beq_iff_eq, Option.isNone_iff_eq_none]
    refine ⟨⟨⟨h1, h2⟩, or_iff_not_imp_left.2 fun k => h3 (by simpa using k)⟩, ?_⟩
    split
    · rfl
    · next o k => exact h4 o k

/-- At most one request of an outlet: the outlets of the queue are different. -/
theorem State.single_iff (s : State) :
    (s.grants.map (·.outlet)).Nodup ↔ ∀ o, s.grants.countP (·.outlet == o) ≤ 1 := by
  rw [List.nodup_iff_count_le_one]
  refine forall_congr' fun o => ?_
  rw [List.count, List.countP_map]
  rfl

theorem State.grantsSound_iff (s : State) : s.grantsSound = true ↔
    (∀ o, s.grants.countP (·.outlet == o) ≤ 1) ∧ ∀ r ∈ s.grants,
      s.admitted r.outlet ≤ s.committedUnmarked r.outlet + r.wanted ∧ r.kind.fits (s.outlet r.outlet).state := by
  unfold State.grantsSound
  rw [Bool.and_eq_true, decide_eq_true_iff, s.single_iff]
  refine and_congr_right fun _ => ?_
  rw [List.all_eq_true]
  refine forall₂_congr fun r _ => ?_
  rw [Bool.and_eq_true, decide_eq_true_iff]
  refine and_congr_right fun _ => ?_
  cases r.kind <;> simp [RequestKind.fits]

theorem State.marksSound_iff (s : State) (o : OutletId) : s.marksSound o = true ↔
    (s.hasMarks o = true → (s.outlet o).state.supplied = true → s.admitted o ≤ s.committedUnmarked o) := by
  unfold State.marksSound
  cases s.hasMarks o <;> cases (s.outlet o).state.supplied <;> simp

theorem Module.Placed.mono {m : Module} (h : m.Placed False) (hM : M → m.timersSound = true) : m.Placed M :=
  ⟨h.group, h.rest, h.pending, hM⟩

theorem State.timersSound_iff (s : State) : s.timersSound = true ↔ ∀ m, (s.module m).timersSound = true := by
  unfold State.timersSound State.module
  rw [Vector.all_eq_true]
  exact ⟨fun h m => h m.1 m.2, fun h i hi => h ⟨i, hi⟩⟩

theorem State.sound_iff (s : State) : s.sound = true ↔ s.atRest = true ∧
    (∀ o, s.breakersSound o = true ∧ (s.outlet o).syncSound = true ∧ s.marksSound o = true) ∧
      (∀ m, s.memberSound m = true) ∧ s.grantsSound = true := by
  have hm : allModules.all s.memberSound = true ↔ ∀ m, s.memberSound m = true := by simp [mem_allModules]
  simp only [State.sound, Bool.and_eq_true, allOutlets_all, hm, and_assoc]

/-- A sound part keeps the rules, a close command and a close pulse each answering to itself. -/
theorem State.protected_of_sound (h : s.sound = true) (hM : M → s.timersSound = true) :
    s.Protected (fun o => (s.outlet o).sb.channel = .closing) (fun o => (s.outlet o).pb.channel = .closePulse) M True := by
  obtain ⟨_, hout, hmod, hgrants⟩ := s.sound_iff.1 h
  obtain ⟨hsingle, hreq⟩ := s.grantsSound_iff.1 hgrants
  have hmod (m : Fin 8) := (s.memberSound_iff m).1 (hmod m)
  refine ⟨⟨fun o => ?_, fun m => (hmod m).1.mono fun k => s.timersSound_iff.1 (hM k) m, fun o => ?_⟩, fun o => ?_⟩
  all_goals obtain ⟨hbreakers, hsync, hmarks⟩ := hout o
  all_goals obtain ⟨h1, h2, h3, h4, hseat⟩ := (Outlet.syncSound_iff _).1 hsync
  · obtain ⟨hw, hwant⟩ := (s.breakersSound_iff o).1 hbreakers
    exact ⟨⟨hw.sbForm, hw.pbForm, hw.command, fun k => ⟨(hw.pulse k).1, (hw.pulse k).2.1, k⟩⟩, hwant, .inl, h1, h2, h3, h4⟩
  · exact ⟨fun m => (hmod m).2 o, fun r hr hro => hro ▸ (hreq r hr).2, hsingle o,
      fun _ => ⟨fun r hr hro => hro ▸ (hreq r hr).1, (s.marksSound_iff o).1 hmarks⟩⟩
  · exact hseat

theorem State.Protected.breakersSound (hs : s.Protected p q M T) (o : OutletId) : s.breakersSound o = true := by
  have hx := hs.outlet o
  exact (s.breakersSound_iff o).2 ⟨⟨hx.wired.sbForm, hx.wired.pbForm, hx.wired.command,
    fun k => ⟨(hx.wired.pulse k).1, (hx.wired.pulse k).2.1, trivial⟩⟩, hx.wanted⟩

/-- A part at rest that keeps the rules, with the figures of its pool, is sound. -/
theorem State.Protected.sound (hs : s.Protected p q M True) (hr : s.atRest = true) : s.sound = true := by
  refine s.sound_iff.2 ⟨hr, fun o => ⟨hs.breakersSound o, (Outlet.syncSound_iff _).2 ?_,
      (s.marksSound_iff o).2 ((hs.pool o).figures trivial).marks⟩, fun m => (s.memberSound_iff m).2 ⟨?_, fun o => ?_⟩,
    s.grantsSound_iff.2 ⟨fun o => (hs.pool o).single, fun r hr => ⟨((hs.pool r.outlet).figures trivial).wanted r hr rfl,
      (hs.pool r.outlet).kinds r hr rfl⟩⟩⟩
  · have hx := hs.outlet o
    exact ⟨hx.check, hx.feedback, hx.parallel, hx.overload, hs.seated o⟩
  · have hm := hs.module m
    exact ⟨hm.group, hm.rest, hm.pending, False.elim⟩
  · exact (hs.pool o).home m

theorem State.Protected.timersSound (hs : s.Protected p q True T) : s.timersSound = true :=
  s.timersSound_iff.2 fun m => (hs.module m).timers trivial

/-- The rules with a looser one for the pulses. -/
theorem State.Protected.requoted (hs : s.Protected p q M T) {q' : OutletId → Prop} (h : ∀ o, q o → q' o) :
    s.Protected p q' M T := by
  refine ⟨⟨fun o => ?_, hs.module, hs.pool⟩, hs.seated⟩
  have hx := hs.outlet o
  exact ⟨⟨hx.wired.sbForm, hx.wired.pbForm, hx.wired.command,
    fun k => (hx.wired.pulse k).imp_right fun k => k.imp_right (h o)⟩,
    hx.wanted, hx.closing, hx.check, hx.feedback, hx.parallel, hx.overload⟩

/-- No pulse barred. -/
theorem State.Protected.unquoted (hs : s.Protected p q M T) : s.Protected p (fun _ => True) M T :=
  hs.requoted fun _ _ => trivial

/-! ### Rest -/

/-- Every command of a part with its accounts in order leaves it at rest until start-up is complete. -/
theorem exec_keeps_rest {c : Instr} (hs : s.sound = true) (ha : s.accounts = true) (h : exec c s = .next t) :
    t.atRest = true := by
  obtain ⟨hr, _, _, hgrants⟩ := s.sound_iff.1 hs
  by_cases hp : s.phase = .running
  swap
  · have hq := exec_keeps_quiet hs ha (State.quiet_of_ne hp hr) h
    simp only [State.quiet, Bool.and_eq_true] at hq
    exact hq.1
  have hw : c.wellFormed = true := by
    by_contra hw
    exact exec_illFormed (by simpa using hw) h
  have hopen : s.sessionsOpen := State.session_of_accounts hp ha
  have hquiet {u : State} (hu : u.quiet = true) : u.atRest = true := by
    simp only [State.quiet, Bool.and_eq_true] at hu
    exact hu.1
  by_cases hc : c.isPowerRow = true
  · exact (exec_powerRow_protects hc (State.protected_of_sound (M := False) hs False.elim) hr h).2
  by_cases hrow : c.isReceiverRow = true
  · obtain ⟨act, _, e, hrun, _⟩ := exec_atReceiver c s hrow hw
    rw [e, atReceiver_of_running hp] at h
    cases h
    exact hquiet (State.quiet_finish ((hrun hp).endable hp hopen.ends))
  · obtain ⟨act, e, hact⟩ := exec_atEvent c s (by simpa using hc) (by simpa using hrow) hw
    rw [e, atEvent_of_running hp] at h
    cases h
    exact hquiet (State.quiet_finish (hact hp hopen hgrants))

/-! ### Every step -/

/-- What a step leaves of the rules, with the accounts in order. -/
theorem step_keeps_protected (hs : s.sound = true) (ha : s.accounts = true) (hM : M → s.timersSound = true) (hMT : T → M)
    (h : step s = .next t) :
    t.Protected (fun o => (s.outlet o).sb.channel = .closing) (fun _ => True) M T ∧ t.atRest = true := by
  have restrict {w : State} (hw : w.Protected (fun o => (s.outlet o).sb.channel = .closing) (fun _ => True) M True) :
      w.Protected (fun o => (s.outlet o).sb.channel = .closing) (fun _ => True) M T :=
    ⟨⟨hw.outlet, hw.module, fun o => ⟨(hw.pool o).home, (hw.pool o).kinds, (hw.pool o).single,
      fun _ => (hw.pool o).figures trivial⟩⟩, hw.seated⟩
  unfold step at h
  split at h
  · cases h
    exact ⟨restrict (State.protected_of_sound hs hM).unquoted, (State.sound_iff _).1 hs |>.1⟩
  · next c rest _ =>
    rw [← s.sound_pending rest] at hs
    rw [← s.accounts_pending rest] at ha
    have hr := exec_keeps_rest hs ha h
    exact ⟨exec_keeps_protected (restrict (State.protected_of_sound hs hM).unquoted) ((State.sound_iff _).1 hs).1
      (fun hp => State.holdsInHeld_of_accounts hp ha) hMT h, hr⟩

end Sys2Proof.Machine

open Sys2Proof.Machine in
/-- Settles O56: the rules are an invariant of every command (`exec_keeps_protected`); its first clause reads them without
the figures of the pool, for which the lifecycle timers need not be sound. -/
theorem stepKeepsProtection : Obligations.StepKeepsProtection := by
  refine ⟨fun s t hs ha h o => ?_, fun s t hs ha hm h => ?_⟩
  · exact (step_keeps_protected (M := False) (T := False) hs ha nofun id h).1.breakersSound o
  · obtain ⟨ht, hr⟩ := step_keeps_protected (M := True) (T := True) hs ha (fun _ => hm) id h
    exact ⟨ht.sound hr, ht.timersSound⟩

end

section
/-! The law of closing (R30, R31, R37, R104): a breaker closes by the rule that allows it alone. -/

namespace Sys2Proof.Machine

variable {p q : OutletId → Prop} {M T : Prop} {s t u v w : State} {o : OutletId}

/-! ### The breakers at the end of an event -/

theorem State.unmoved_completeEnd (s : State) (o : OutletId) : Unmoved s (s.completeEnd o) := fun o' => by
  by_cases ho : o' = o
  · subst ho
    simp only [State.completeEnd]
    split
    · have hout := State.outlet_stopGroup s o' o'
      obtain ⟨_, _, _, _, _, _, e, _⟩ := (s.stopGroup o').closeSession_frame o' ((s.outlet o').endCause.getD .ended)
      rw [hout] at e
      exact ⟨congrArg (·.sb.channel) e, congrArg (·.pb.channel) e⟩
    · exact ⟨rfl, rfl⟩
  · rw [State.completeEnd_outlet_ne s ho]
    exact ⟨rfl, rfl⟩

theorem State.unmoved_grant (s : State) (r : Request) (rest : List Request) (ms : List (Fin 8)) :
    Unmoved s (s.grant r rest ms) := fun o => by
  unfold State.grant
  dsimp only
  generalize hu : ({ s with grants := rest } : State).modifyModules ms (·.grantTo r.outlet r.kind) = u
  have huo : u.outlet o = s.outlet o := by rw [← hu, State.outlet_modifyModules]; rfl
  rw [← huo]
  cases r.kind
  · dsimp only [State.startEnergising]
    by_cases ho : o = r.outlet
    · subst ho
      rw [State.outlet_modify_self, (u.enter_frame r.outlet .energising).2.2.2.1]
      exact ⟨rfl, rfl⟩
    · rw [State.outlet_modify_ne _ _ ho, (u.enter_frame r.outlet .energising).2.2.1 o ho]
      exact ⟨rfl, rfl⟩
  · exact ⟨rfl, rfl⟩

theorem State.unmoved_examine (n : Nat) (s : State) : Unmoved s (s.examine n) := by
  induction n generalizing s with
  | zero => exact fun _ => ⟨rfl, rfl⟩
  | succ n ih =>
    simp only [State.examine]
    split
    · exact fun _ => ⟨rfl, rfl⟩
    · split
      · exact fun _ => ⟨rfl, rfl⟩
      · exact (s.unmoved_grant _ _ _).trans (ih _)

theorem State.unmoved_reallocate (s : State) : Unmoved s s.reallocate :=
  (s.inert_recomputeLimits.unmoved.trans (State.unmoved_examine _ _)).trans (State.inert_settleBudget _).unmoved

/-- An SB that closes with the rule that allows it met: the outlet in phase CLOSING, no interlock lost. -/
def State.ClosesByRule (s : State) (o : OutletId) : Prop :=
  (s.outlet o).state = .energising ∧ (s.outlet o).phase = some .closing ∧ s.blocking o = none

theorem State.blocking_congr (ho : t.outlet o = s.outlet o) (he : t.estopAllMade = s.estopAllMade) :
    t.blocking o = s.blocking o := by
  simp only [State.blocking, ho, he]

theorem State.blocking_modify {f : Outlet → Outlet} (h : (f (s.outlet o)).interlocks = (s.outlet o).interlocks) :
    (s.modify o f).blocking o = s.blocking o := by
  simp only [State.blocking, State.outlet_modify_self, h]
  rfl

/-- The end of PREPARE asks the SB to close, and touches the PB in no way. -/
theorem State.endPrepare_closes (s : State) (o : OutletId) :
    ((s.endPrepare o).outlet o).pb = (s.outlet o).pb ∧
      (((s.endPrepare o).outlet o).sb.channel = .closing →
        (s.outlet o).sb.channel = .closing ∨ (s.endPrepare o).ClosesByRule o) := by
  simp only [State.endPrepare]
  split
  swap
  · exact ⟨rfl, .inl⟩
  next h =>
  obtain ⟨hst, _, _⟩ := h
  unfold State.requestSbClose
  simp only [State.outlet_modify_self, State.modify_modify]
  split
  · split
    · exact ⟨by simp only [State.outlet_modify_self], fun k => .inl (by simpa only [State.outlet_modify_self] using k)⟩
    · next hb =>
      refine ⟨by simp only [State.outlet_modify_self], fun _ => .inr ⟨?_, ?_, ?_⟩⟩
      · rw [State.outlet_modify_self]; exact hst
      · rw [State.outlet_modify_self]
      · rw [State.blocking_modify rfl] at hb ⊢
        exact Option.not_isSome_iff_eq_none.1 hb
  all_goals
    exact ⟨by simp only [State.outlet_modify_self], fun k => .inl (by simpa only [State.outlet_modify_self] using k)⟩

/-- Of the three ends of PREPARE an outlet sees its own. -/
theorem State.endPrepares_outlet (s : State) (o : OutletId) :
    ∃ v : State, v.outlet o = s.outlet o ∧
      (((s.endPrepare .a).endPrepare .b).endPrepare .c).outlet o = (v.endPrepare o).outlet o ∧
      (((s.endPrepare .a).endPrepare .b).endPrepare .c).estopAllMade = (v.endPrepare o).estopAllMade := by
  have other (u : State) {o q : OutletId} (h : o ≠ q) : (u.endPrepare q).outlet o = u.outlet o :=
    (u.endPrepare_spec q).2.1 o h
  have estop (u : State) (q : OutletId) : (u.endPrepare q).estopAllMade = u.estopAllMade := by
    rw [(u.endPrepare_spec q).1]
  cases o with
  | a => exact ⟨s, rfl, by rw [other _ (by decide), other _ (by decide)], by rw [estop, estop]⟩
  | b => exact ⟨s.endPrepare .a, other _ (by decide), by rw [other _ (by decide)], by rw [estop]⟩
  | c => exact ⟨(s.endPrepare .a).endPrepare .b, by rw [other _ (by decide), other _ (by decide)], rfl, rfl⟩

/-- The end of an event moves no PB, and closes an SB by the rule alone (R11, R30, R33). -/
theorem State.finish_closes (s : State) (o : OutletId) :
    (s.finish.outlet o).pb.channel = (s.outlet o).pb.channel ∧
      ((s.finish.outlet o).sb.channel = .closing → (s.outlet o).sb.channel = .closing ∨ s.finish.ClosesByRule o) := by
  unfold State.finish whenRunning
  split
  swap
  · exact ⟨rfl, .inl⟩
  have hrep (u : State) : u.reportAll.ClosesByRule o ↔ u.ClosesByRule o := by
    simp only [State.ClosesByRule, State.outlet_reportAll,
      State.blocking_congr (State.outlet_reportAll u o) u.inert_reportAll.estop]
  rw [State.outlet_reportAll, hrep]
  simp only [State.settle]
  have hu := (((s.unmoved_completeEnd .a).trans (State.unmoved_completeEnd _ .b)).trans
    (State.unmoved_completeEnd _ .c)).trans (State.unmoved_reallocate _)
  generalize (((s.completeEnd .a).completeEnd .b).completeEnd .c).reallocate = u at hu ⊢
  obtain ⟨v, hv, ho, he⟩ := u.endPrepares_outlet o
  obtain ⟨hpb, hsb⟩ := v.endPrepare_closes o
  rw [hv] at hpb hsb
  rw [ho]
  refine ⟨by rw [hpb, (hu o).2], fun k => ?_⟩
  rcases hsb k with k | ⟨h1, h2, h3⟩
  · exact .inl ((hu o).1.symm.trans k)
  · exact .inr ⟨by rw [ho]; exact h1, by rw [ho]; exact h2, (State.blocking_congr ho he).trans h3⟩

/-! ### What the end of an event keeps of an outlet that does not end -/

/-- The queue of a part whose rules hold. -/
theorem State.Protected.queued (hs : s.Protected p q M T) : s.queued := by
  refine ⟨s.single_iff.2 fun o => (hs.pool o).single, fun r hr hk => ?_⟩
  have hst : (s.outlet r.outlet).state = .admitted := by
    have := (hs.pool r.outlet).kinds r hr rfl
    rwa [hk] at this
  refine ⟨hst, List.eq_nil_iff_forall_not_mem.2 fun m hm => ?_⟩
  have := (hs.pool r.outlet).home m ((s.mem_group r.outlet m).1 hm)
  rw [hst] at this
  cases this

/-- An outlet outside DE_ENERGISING is kept by the end of an event, but for a grant, its limit and the end of PREPARE. -/
theorem State.Protected.kept_finish (hs : s.Protected p q M T) (hst : (s.outlet o).state ≠ .deEnergising) :
    (s.finish.outlet o).kept = (s.outlet o).kept := by
  unfold State.finish whenRunning
  split
  swap
  · rfl
  have hend (u : State) (hu : u.outlet o = s.outlet o) (o' : OutletId) : (u.completeEnd o').outlet o = s.outlet o := by
    by_cases ho : o = o'
    · subst ho
      rw [State.completeEnd, if_neg fun h => hst (by rw [← hu]; exact h.1), hu]
    · rw [State.completeEnd_outlet_ne u ho, hu]
  have hall := hend _ (hend _ (hend s rfl .a) .b) .c
  have hprot := ((hs.completeEnd .a).completeEnd .b).completeEnd .c
  rw [State.outlet_reportAll]
  simp only [State.settle]
  generalize ((s.completeEnd .a).completeEnd .b).completeEnd .c = u at hall hprot ⊢
  rw [← hall]
  exact ((((u.answers_reallocate hprot.queued).trans (State.answers_endPrepare _ .a)).trans
    (State.answers_endPrepare _ .b)).trans (State.answers_endPrepare _ .c)).outlets o

end Sys2Proof.Machine
end

section
/-! A close pulse answers an evaluation that found the close conditions met (R37, R103, R104). -/

namespace Sys2Proof.Machine

variable {p q : OutletId → Prop} {M T : Prop} {s t u v w : State} {o : OutletId}

/-- The figures of an outlet whose check has asked for a close pulse: the six conditions of R103 hold. -/
def Outlet.MeetsConditions (x : Outlet) : Prop :=
  x.check.state = .closing ∧ x.link.up = true ∧
    (x.session.any fun r => x.check.figures.any fun f =>
      (r.snapshot.slipMin : Int) ≤ f.slip && f.slip ≤ r.snapshot.slipMax &&
        f.delta ≤ r.snapshot.cWindow && f.dV.natAbs ≤ r.snapshot.vMatch &&
        -(r.snapshot.cWindow : Int) ≤ f.phi && f.phi ≤ 0 && 0 < f.phi + f.delta) = true

/-- The outcome CLOSE says that every condition holds (R103). -/
theorem judge_close {r : Profile} {up closed : Bool} {f : Figures} (h : judge r up closed f = .close) :
    up = true ∧ ((r.slipMin : Int) ≤ f.slip && f.slip ≤ r.slipMax && f.delta ≤ r.cWindow &&
      f.dV.natAbs ≤ r.vMatch && -(r.cWindow : Int) ≤ f.phi && f.phi ≤ 0 && 0 < f.phi + f.delta) = true := by
  unfold judge at h
  repeat' split at h
  all_goals cases h
  next hup _ h1 h2 h3 h4 h5 h6 =>
    simp only [Figures.inWindow, Bool.not_eq_true', Bool.not_eq_false, Bool.and_eq_true, decide_eq_true_iff] at hup h5 ⊢
    exact ⟨hup, ⟨⟨⟨⟨⟨⟨by omega, by omega⟩, by omega⟩, by omega⟩, h5.1⟩, h5.2⟩, by omega⟩⟩

/-- What the evaluation leaves that asks for a close pulse and has it granted (R104). -/
theorem State.Quoted.meetsConditions (h : s.Quoted o) (hr : s.pbRefusal o = none) :
    ((s.evaluate o).outlet o).MeetsConditions := by
  obtain ⟨r, f, hsession, hfigures, hjudge, hcheck⟩ := h
  obtain ⟨hup, hconditions⟩ := judge_close hjudge
  have hrefusal : (s.modifyCheck o fun c => { c with
      figures := some f, result := some (judge r.snapshot (s.outlet o).link.up (s.outlet o).sb.feedback f)
      windowAsked := f.inWindow r.snapshot }).pbRefusal o = none := by
    rw [← hr]
    simp only [State.pbRefusal, State.modifyCheck, State.blocking_modify, State.outlet_modify_self]
  unfold State.evaluate
  simp only [hsession, hfigures, hjudge] at hrefusal ⊢
  rw [if_pos ⟨trivial, by rw [State.modifyCheck, State.outlet_modify_self]; exact hcheck⟩]
  unfold State.requestClose
  simp only [hrefusal]
  simp only [State.modifySession, State.modifyCheck, State.modify_modify, State.outlet_modify_self]
  refine ⟨rfl, hup, ?_⟩
  simp only [hsession, Option.map_some, Option.any_some]
  exact hconditions

/-- The end of an event keeps what the conditions read. -/
theorem Outlet.MeetsConditions.congr {x y : Outlet} (h : x.MeetsConditions) (hk : y.kept = x.kept) :
    y.MeetsConditions := by
  have hcheck : y.check = x.check := (congrArg Outlet.check hk :)
  have hsession : y.session = x.session := (congrArg Outlet.session hk :)
  have hlink : y.link.up = x.link.up := (congrArg (·.link.up) hk :)
  rw [Outlet.MeetsConditions, hcheck, hsession, hlink]
  exact h

theorem Outlet.synchronising_of_kept {x y : Outlet} (h : x.state = .synchronising) (hk : y.kept = x.kept) :
    y.state = .synchronising := by
  have e : (if y.state = .admitted then .energising else y.state) = OutletState.synchronising := by
    rw [← h]
    refine (congrArg Outlet.state hk).trans ?_
    simp only [Outlet.kept, h]
    rfl
  split at e
  · cases e
  · exact e

/-! ### A check that is not made stays so at a sample set -/

theorem State.check_enter (s : State) (o : OutletId) (st : OutletState) :
    ((s.enter o st).outlet o).check = (s.outlet o).check := by
  rw [(s.enter_frame o st).2.2.2.1]

theorem State.outlet_testRelease (s : State) (o : OutletId) : (s.testRelease o).outlet o = s.outlet o := by
  simp only [State.testRelease]
  split
  · rw [State.outlet_computeShares, State.outlet_modifyModules]
  · rfl

theorem State.check_completeSeparation (s : State) (o : OutletId) :
    ((s.completeSeparation o).outlet o).check = (s.outlet o).check := by
  unfold State.completeSeparation
  split
  · rw [State.check_enter]
    rfl
  · rfl

theorem State.check_separate (s : State) (o : OutletId) (cause : SeparationCause) :
    ((s.separate o cause none).outlet o).check = (s.outlet o).check := by
  simp only [State.separate, State.check_enter, State.raiseSome]
  simp only [State.requestPbTrip, State.modifyPb, State.modifyHandover, State.modify_modify, State.outlet_modify_self]

theorem Outlet.check_monitorOverload (x : Outlet) : x.monitorOverload.check = x.check := by
  unfold Outlet.monitorOverload
  split
  · rfl
  · split <;> rfl

theorem State.check_deliverPower (s : State) (o : OutletId) (d : Delivery) :
    ((s.deliverPower o d).outlet o).check = (s.outlet o).check := by
  simp only [State.deliverPower, State.outlet_testRelease]
  split
  · rw [State.check_separate, State.outlet_modify_self, Outlet.check_monitorOverload]
  · rw [State.outlet_modify_self, Outlet.check_monitorOverload]

/-- The outlet controller's deliveries leave the check. -/
theorem State.check_deliverCable (s : State) (o : OutletId) (d : Delivery) :
    ((s.deliverCable o d).outlet o).check = (s.outlet o).check := by
  have hfirst : ((if (s.outlet o).isVerified then
      (s.modify o fun x => { x with energiseTimer := none }).enter o .cableLive
      else s.completeSeparation o).outlet o).check = (s.outlet o).check := by
    split
    · rw [State.check_enter, State.outlet_modify_self]
    · exact s.check_completeSeparation o
  simp only [State.deliverCable]
  split
  · exact hfirst
  · rw [State.check_deliverPower]
    exact hfirst

theorem State.inactive_deliverOutlet (h : (s.outlet o).check.state = .inactive) (cable ship : Option Passage) :
    ((s.deliverOutlet o cable ship).outlet o).check.state = .inactive := by
  have deliver (v : State) (hv : (v.outlet o).check.state = .inactive) :
      ((v.deliverOutlet o none ship).outlet o).check.state = .inactive := by
    cases ship with
    | none => exact hv
    | some y =>
      show ((v.deliverShip o y.delivery).outlet o).check.state = _
      rw [State.deliverShip, hv]
      exact hv
  cases cable with
  | none => exact deliver s h
  | some x => exact deliver _ (by rw [State.check_deliverCable]; exact h)

/-- A sample set starts no check. -/
theorem State.inactive_takeSet (h : (s.outlet o).check.state = .inactive) (k : SampleSet) :
    ((s.takeSet k).outlet o).check.state = .inactive := by
  obtain ⟨v, a, b, c, _, hcheck, hout, _⟩ := s.takeSet_delivers k
  have other (u : State) {o q : OutletId} (ho : o ≠ q) (x : Option Passage × Option Passage) :
      (u.deliverOutlet q x.1 x.2).outlet o = u.outlet o := (u.actsAt_deliverOutlet q _ _).outlets o ho
  rw [← hcheck] at h
  have e : (s.takeSet k).outlet o =
      (((v.deliverOutlet .a a.1 a.2).deliverOutlet .b b.1 b.2).deliverOutlet .c c.1 c.2).outlet o := by
    simp only [State.outlet, hout]
  rw [e]
  cases o with
  | a =>
    rw [other _ (by decide), other _ (by decide)]
    exact State.inactive_deliverOutlet h _ _
  | b =>
    rw [other _ (by decide)]
    exact State.inactive_deliverOutlet (by rw [other _ (by decide)]; exact h) _ _
  | c => exact State.inactive_deliverOutlet (by rw [other _ (by decide), other _ (by decide)]; exact h) _ _

/-! ### The law of closing -/

/-- What the rules say of an SB that closes. -/
theorem State.Protected.closesByRule (hs : s.Protected p q M T) (h : (s.outlet o).sb.channel = .closing) :
    p o ∨ s.ClosesByRule o := by
  refine ((hs.outlet o).closing h).imp_right fun k => ⟨k.1, k.2, ?_⟩
  rw [← Option.isNone_iff_eq_none, s.blocking_isNone]
  exact (hs.outlet o).wired.command (.inl h)

/-- A close pulse at a sample set answers the figures taken at it, in SYNCHRONISING before and after. -/
theorem exec_sampleSet_pulses {k : SampleSet} (hs : s.Protected p (fun o => (s.outlet o).pb.channel = .closePulse) M T)
    (hp : s.phase = .running) (h : exec (.sampleSet k) s = .next t) :
    t.Protected p (fun o => (s.outlet o).pb.channel = .closePulse ∨ ((s.outlet o).state = .synchronising ∧
      (t.outlet o).state = .synchronising ∧ (t.outlet o).MeetsConditions)) M T := by
  refine exec_sampleSet_protects (hs.requoted fun _ => .inl) hp h fun w ht hi o u hu hr hout => .inr ?_
  have hw := hs.unquoted.inert hi
  have htake := hw.takeSet k fun _ _ _ _ _ => trivial
  have hmeets := hout ▸ hu.meetsConditions hr
  have hsync := ((htake.outlet o).check).resolve_left (by rw [hmeets.1]; decide)
  have hkept : (t.outlet o).kept = ((w.takeSet k).outlet o).kept := by
    rw [ht]
    exact htake.kept_finish (by rw [hsync]; decide)
  have hbefore := ((hw.outlet o).check).resolve_left fun e => by
    have := State.inactive_takeSet e k
    rw [hmeets.1] at this
    cases this
  exact ⟨(hi.state o).symm.trans hbefore, Outlet.synchronising_of_kept hsync hkept, hmeets.congr hkept⟩

end Sys2Proof.Machine

open Sys2Proof.Machine in
/-- Settles O54: every command keeps the rules with the closes that the state before has (`exec_protects`), a sample set
with the pulses its figures allow too (`exec_sampleSet_pulses`), and where a record stands outside HELD the end of the
event moves the SB by the rule (`State.finish_closes`). -/
theorem breakersCloseOnlyByRule : Obligations.BreakersCloseOnlyByRule := by
  intro c s t hready hsound h o
  have hs := (State.protected_of_sound hsound (M := False) False.elim).uncovered
  obtain ⟨hp, _⟩ := (State.ready_iff s).1 hready
  by_cases hk : ∃ k, c = .sampleSet k
  · obtain ⟨k, rfl⟩ := hk
    have ht := exec_sampleSet_pulses hs hp h
    refine ⟨fun hn hc => ?_, fun hn hc => (ht.closesByRule hc).resolve_left hn⟩
    obtain ⟨hclosed, hmade, hq⟩ := (ht.outlet o).wired.pulse hc
    obtain ⟨hbefore, hafter, hcheck, hlink, hfigures⟩ := hq.resolve_left hn
    have hfeedback : (t.outlet o).pb.feedback = false := by
      have := (ht.outlet o).wired.pbForm
      simp only [ParallelBreaker.wellFormed, hc] at this
      simp_all
    exact ⟨⟨k, rfl⟩, hbefore, hafter, hcheck, by rw [← Option.isNone_iff_eq_none, t.blocking_isNone]; exact hclosed, hmade,
      hfeedback, hlink, hfigures⟩
  · rcases exec_protects hs ((State.sound_iff s).1 hsound).1 id (fun k e => hk ⟨k, e⟩) h with ht | ⟨_, _, u, rfl, hu⟩
    · exact ⟨fun hn hc => (hn ((ht.outlet o).wired.pulse hc).2.2).elim, fun hn hc => (ht.closesByRule hc).resolve_left hn⟩
    · obtain ⟨hpb, hsb⟩ := u.finish_closes o
      refine ⟨fun hn hc => (hn ?_).elim, fun hn hc => (hsb hc).resolve_left fun e => hn ?_⟩
      · rw [← (hu o).2, ← hpb]; exact hc
      · rw [← (hu o).1]; exact e

end

section
/-! Events at one outlet after which nothing waits to be settled: what they raise, and the moves to a supplied state. -/

namespace Sys2Proof.Machine

variable {s t u v : State} {o : OutletId} {x y : Item}

/-! ### What is raised (R193) -/

/-- An outlet event is no condition: the owners' reports do not count it. -/
theorem State.count_reportAll (s : State) (o : OutletId) (hx : x ∈ outletEvents) :
    (s.reportAll.status.get (.outlet o)).count x = (s.status.get (.outlet o)).count x := by
  have h : ∀ x ∈ outletEvents, ∀ g ∈ allGroups, x ∉ g.conditions := by decide
  exact (State.foldl_reportGroup_count allGroups s (List.mem_append_right _ hx) (h x hx)).1

theorem State.count_raiseAt (s : State) (o : OutletId) (x : Item) (hy : y ∈ outletEvents) :
    ((s.raiseAt o x).status.get (.outlet o)).count y =
      if y = x then addHolding 255 ((s.status.get (.outlet o)).count y) 1 else (s.status.get (.outlet o)).count y := by
  have e : (s.raiseAt o x).status.get (.outlet o) = (s.status.get (.outlet o)).latch (Group.outlet o).items x := by
    simp [State.raiseAt]
  rw [e]
  exact GroupStatus.count_latch _ (List.mem_append_right _ hy)

theorem State.count_raiseSome (s : State) (o : OutletId) (e : Option Item) (hy : y ∈ outletEvents) :
    ((s.raiseSome o e).status.get (.outlet o)).count y =
      if e = some y then addHolding 255 ((s.status.get (.outlet o)).count y) 1
      else (s.status.get (.outlet o)).count y := by
  cases e with
  | none => rfl
  | some x =>
    refine (s.count_raiseAt o x hy).trans ?_
    simp only [Option.some.injEq, eq_comm]

/-- The entry to another state, in one piece: the outlet, and STATE_CHANGED raised. -/
theorem State.enter_supplied {st : OutletState} (h : (s.outlet o).state ≠ st) (hm : modeOf st ≠ .stopped) :
    s.enter o st = (s.modify o (·.entered st)).raiseState o st.code := by
  rw [State.enter, if_neg h]
  dsimp only
  rw [if_neg hm]
  rfl

theorem State.count_enter {st : OutletState} (h : (s.outlet o).state ≠ st) (hy : y ∈ outletEvents) :
    ((s.enter o st).status.get (.outlet o)).count y =
      if y = .stateChanged then addHolding 255 ((s.status.get (.outlet o)).count y) 1
      else (s.status.get (.outlet o)).count y := by
  have raised (u : State) (hu : u.status = s.status) : ((u.raiseState o st.code).status.get (.outlet o)).count y =
      ((s.raiseAt o .stateChanged).status.get (.outlet o)).count y := by
    rw [State.raiseState, State.raiseAt, State.raiseAt]
    simp [hu]
    rfl
  rw [← s.count_raiseAt o .stateChanged hy]
  unfold State.enter
  rw [if_neg h]
  refine raised _ ?_
  split
  · rw [(State.computeShares_frame _ o).1]
    rfl
  · rfl

/-! ### Events at which nothing settles -/

/-- An event that acts at one outlet and leaves nothing to settle: the act, and the owners' reports. -/
theorem ActsAt.reported {act : State → State} (hs : s.ready = true) (hact : act s = u) (h : ActsAt o s u)
    (hp : SamePool s u) (hl : (u.outlet o).limit = (s.outlet o).limit) (he : u.endsNow o = false)
    (hc : u.closesNow o = false) :
    ∃ t, atEvent act s = .next t ∧ t = { u with status := t.status } ∧ t.leavesOthers s o = true ∧
      t.follows s = true ∧
      ∀ y ∈ outletEvents, (t.status.get (.outlet o)).count y = (u.status.get (.outlet o)).count y := by
  obtain ⟨t, e, ht, hleaves, hfollows, _⟩ := h.event hs hact hp hl he hc
  refine ⟨t, e, ht, hleaves, hfollows, fun y hy => ?_⟩
  have hr := (s.ready_iff.1 hs).1
  have hphase : u.phase = s.phase := (State.common_fields h.common).1
  rw [atEvent_of_running hr, hact, (h.standing hs hp hl he hc).finish (hphase.trans hr)] at e
  cases e
  exact u.count_reportAll o hy

theorem State.hasRaised_of_count (h : (t.status.get (.outlet o)).count x =
    addHolding 255 ((s.status.get (.outlet o)).count x) 1) : t.hasRaised s o x = true := by
  rw [State.hasRaised, beq_iff_eq]
  exact h

/-- An event that moves one outlet to a state that is supplied, with an event of that outlet raised at most. -/
theorem State.event_enter {act : State → State} {f : Outlet → Outlet} {st : OutletState} {e : Option Item}
    (hs : s.ready = true) (hact : act s = ((s.modify o f).raiseSome o e).enter o st) (hm : modeOf st ≠ .stopped)
    (hne : (f (s.outlet o)).state ≠ st) (hsession : (f (s.outlet o)).session = (s.outlet o).session)
    (hl : (f (s.outlet o)).limit = (s.outlet o).limit) (hstate : e ≠ some .stateChanged) :
    ∃ t, atEvent act s = .next t ∧ t = { s.modify o (fun x => (f x).entered st) with status := t.status } ∧
      t.leavesOthers s o = true ∧ t.follows s = true ∧ t.hasRaised s o .stateChanged = true ∧
      ∀ y ∈ outletEvents, e = some y → t.hasRaised s o y = true := by
  generalize hv : (s.modify o f).raiseSome o e = v at hact
  have hvo : v.outlet o = f (s.outlet o) := by
    rw [← hv, show ((s.modify o f).raiseSome o e).outlet o = (s.modify o f).outlet o by cases e <;> rfl,
      State.outlet_modify_self]
  have hvm : v = { s.modify o f with status := v.status } := by
    rw [← hv]
    cases e <;> rfl
  have hacts : ActsAt o s v := hv ▸ (s.actsAt_modify o f).trans (State.actsAt_raiseSome _ o e)
  have hpool : SamePool s v := by
    rw [hvm]
    exact .trans (SamePool.of_modify hsession) (.of_outlets rfl rfl rfl fun _ => rfl)
  have hne' : (v.outlet o).state ≠ st := by rw [hvo]; exact hne
  have hout : (v.enter o st).outlet o = (f (s.outlet o)).entered st := by
    rw [State.outlet_enter_cases, if_neg hne', hvo]
  have hrunning : st ≠ .deEnergising ∧ st ≠ .energising := by
    refine ⟨?_, ?_⟩ <;> rintro rfl <;> exact hm rfl
  obtain ⟨t, ht1, ht2, hleaves, hfollows, hcount⟩ := ActsAt.reported hs hact (hacts.trans (v.actsAt_enter o st))
    (hpool.trans (.of_enter v o st)) (by rw [hout]; exact hl)
    (State.endsNow_of_state (by rw [hout]; exact hrunning.1)) (State.closesNow_of_state (by rw [hout]; exact hrunning.2))
  have hraised (y : Item) (hy : y ∈ outletEvents) (h : y = .stateChanged ∨ e = some y) : t.hasRaised s o y = true := by
    refine State.hasRaised_of_count ?_
    have hc := (s.modify o f).count_raiseSome o e hy
    rw [hv] at hc
    rw [hcount y hy, State.count_enter hne' hy, hc]
    by_cases h1 : y = .stateChanged
    · subst h1
      rw [if_pos rfl, if_neg hstate]
      rfl
    · rw [if_neg h1, if_pos (h.resolve_left h1)]
      rfl
  refine ⟨t, ht1, ?_, hleaves, hfollows, hraised _ (by decide) (.inl rfl), fun y hy he => hraised y hy (.inr he)⟩
  rw [State.enter_supplied hne' hm] at ht2
  generalize t.status = w at ht2 ⊢
  rw [ht2, hvm, ← State.modify_modify s o f (·.entered st)]
  rfl

end Sys2Proof.Machine
end

section
/-! The paralleling breaker's feedback opening (R39, R40, R108, R145, R146). -/

namespace Sys2Proof.Machine

variable {s t u v : State} {o : OutletId}

/-! ### Updates of one outlet -/

/-- A breaker of an outlet moves: what a ready part looks for to end stands. -/
theorem State.endsNow_modify {f : Outlet → Outlet} (hs : s.ready = true)
    (hst : (f (s.outlet o)).state = (s.outlet o).state) (hsb : (f (s.outlet o)).sb = (s.outlet o).sb) :
    (s.modify o f).endsNow o = false :=
  (State.endsNow_congr (s := s) (by rw [State.outlet_modify_self, hst]) (by rw [State.outlet_modify_self, hsb])).trans
    ((State.Standing.of_ready hs).outlets o).1

/-- An update of an outlet that moves neither state, phase, SB, session nor limit, with an event raised at most. -/
theorem State.event_update {act : State → State} {f : Outlet → Outlet} {e : Option Item} (hs : s.ready = true)
    (hact : act s = (s.modify o f).raiseSome o e) (hst : (f (s.outlet o)).state = (s.outlet o).state)
    (hph : (f (s.outlet o)).phase = (s.outlet o).phase) (hsb : (f (s.outlet o)).sb = (s.outlet o).sb)
    (hsession : (f (s.outlet o)).session = (s.outlet o).session) (hl : (f (s.outlet o)).limit = (s.outlet o).limit) :
    ∃ t, atEvent act s = .next t ∧ t = { s.modify o f with status := t.status } ∧ t.leavesOthers s o = true ∧
      t.follows s = true ∧ ∀ y ∈ outletEvents, e = some y → t.hasRaised s o y = true := by
  have hpool : SamePool s ((s.modify o f).raiseSome o e) := by
    cases e
    · exact .of_modify hsession
    · exact .trans (SamePool.of_modify hsession) (.of_outlets rfl rfl rfl fun _ => rfl)
  have hends : ((s.modify o f).raiseSome o e).endsNow o = false := by
    cases e <;> exact State.endsNow_modify hs hst hsb
  have hcloses : ((s.modify o f).raiseSome o e).closesNow o = false := by
    cases e <;> exact State.closesNow_modify hs hst hph
  have hlimit : (((s.modify o f).raiseSome o e).outlet o).limit = (s.outlet o).limit := by
    rw [show ((s.modify o f).raiseSome o e).outlet o = (s.modify o f).outlet o by cases e <;> rfl,
      State.outlet_modify_self, hl]
  obtain ⟨t, h1, h2, h3, h4, hcount⟩ := ActsAt.reported hs hact
    ((s.actsAt_modify o f).trans (State.actsAt_raiseSome _ o e)) hpool hlimit hends hcloses
  refine ⟨t, h1, ?_, h3, h4, fun y hy he => State.hasRaised_of_count ?_⟩
  · generalize t.status = w at h2 ⊢
    rw [h2]
    cases e <;> rfl
  · rw [hcount y hy, State.count_raiseSome _ o e hy, if_pos he]
    rfl

theorem State.event_updated {act : State → State} {f : Outlet → Outlet} (hs : s.ready = true)
    (hact : act s = s.modify o f) (hst : (f (s.outlet o)).state = (s.outlet o).state)
    (hph : (f (s.outlet o)).phase = (s.outlet o).phase) (hsb : (f (s.outlet o)).sb = (s.outlet o).sb)
    (hsession : (f (s.outlet o)).session = (s.outlet o).session) (hl : (f (s.outlet o)).limit = (s.outlet o).limit) :
    ∃ t, atEvent act s = .next t ∧ t = { s.modify o f with status := t.status } ∧ t.leavesOthers s o = true ∧
      t.follows s = true := by
  obtain ⟨t, h1, h2, h3, h4, _⟩ := State.event_update (f := f) (e := none) hs hact hst hph hsb hsession hl
  exact ⟨t, h1, h2, h3, h4⟩

theorem State.outlet_of_status (h : t = { u with status := t.status }) : t.outlet o = u.outlet o :=
  (congrArg (State.outlet · o) h :)

/-! ### The opening of the feedback -/

/-- A paralleling breaker whose feedback has opened, its pulse ended. -/
def ParallelBreaker.atOpen (b : ParallelBreaker) : ParallelBreaker :=
  { b with feedback := false, stuckSet := false, channel := .idle, closeTimer := none, tripTimer := none
           afterClose := false }

theorem exec_pbFeedbackOpens_same (hs : s.ready = true) (h : (s.outlet o).pb.feedback = false) :
    exec (.pbFeedbackOpens o) s = .next s := atEvent_of_idle hs (if_neg (by simp [h]))

theorem exec_pbFeedbackOpens (h : (s.outlet o).pb.feedback = true) :
    exec (.pbFeedbackOpens o) s = atEvent (fun s => s.pbOpens o) s := atEvent_congr (if_pos h)

/-- The end of a trip pulse, or of STUCK (R39, R40): what is left to do is the report of it. -/
theorem State.pbOpens_unwound (hc : (s.outlet o).pb.channel = .tripPulse ∨ (s.outlet o).pb.channel = .stuck) :
    s.pbOpens o = (s.modify o fun x => { x with pb := x.pb.atOpen }).pbOpenReport o := by
  rcases hc with hc | hc <;>
  · simp only [State.pbOpens, State.modifyPb, State.outlet_modify_self, hc, State.modify_modify]
    rfl

theorem State.pbOpens_idle (hc : (s.outlet o).pb.channel = .idle) :
    s.pbOpens o = (s.modify o fun x => { x with pb := { x.pb with feedback := false, stuckSet := false } }).pbOpenedReport
      o := by
  simp only [State.pbOpens, State.modifyPb, State.outlet_modify_self, hc]

theorem State.pbOpenReport_of_not (h1 : (s.outlet o).check.state ≠ .recovering) (h2 : (s.outlet o).state ≠ .separating) :
    s.pbOpenReport o = s := by
  rw [State.pbOpenReport, if_neg h1, State.completeSeparation, if_neg fun h => h2 h.1]

/-- The completion of SEPARATING (R145). -/
theorem State.pbOpenReport_separating (h1 : (s.outlet o).check.state ≠ .recovering)
    (h2 : (s.outlet o).state = .separating) (h3 : (s.outlet o).pbUnwound = true) :
    s.pbOpenReport o = (s.raiseSome o (some .separated)).enter o .cableLive := by
  rw [State.pbOpenReport, if_neg h1, State.completeSeparation, if_pos ⟨h2, h3⟩]
  rfl

/-- The end of RECOVERING with no exit noted (R108). -/
theorem State.pbOpenReport_evaluating (h : (s.outlet o).check.state = .recovering)
    (hn : (s.outlet o).check.notedExit = none) :
    s.pbOpenReport o = s.modify o fun x => { x with check := { x.check with state := .evaluating } } := by
  rw [State.pbOpenReport, if_pos h, State.endRecovery, hn]
  rfl

/-- The end of RECOVERING with an exit noted (R108). -/
theorem State.pbOpenReport_leaves {out : SyncOutcome} (h : (s.outlet o).check.state = .recovering)
    (hn : (s.outlet o).check.notedExit = some out) : s.pbOpenReport o = s.leaveSync o out := by
  rw [State.pbOpenReport, if_pos h, State.endRecovery, hn]

/-- The exit from SYNCHRONISING, its outcome recorded. -/
def Outlet.leftSync (x : Outlet) (out : SyncOutcome) : Outlet :=
  { x with
    check := { x.check.exit with outcome := some out }
    handover := { x.handover with
      lastSeparation := if out.separation.isSome then out.separation else x.handover.lastSeparation } }

theorem State.leaveSync_eq (s : State) (o : OutletId) (out : SyncOutcome) :
    s.leaveSync o out = ((s.modify o (·.leftSync out)).raiseSome o out.event).enter o .cableLive := rfl

/-- A PB opened without command in a transfer state (R146). -/
theorem State.pbOpenedReport_transfer (h : (s.outlet o).state.isTransfer = true) :
    s.pbOpenedReport o = ((s.modify o fun x => { x with
      handover := { x.handover.clear with lastSeparation := some .pbOpened } }).raiseSome o (some .pbOpened)).enter o
        .cableLive := by
  rw [State.pbOpenedReport, if_pos h]
  rfl

/-! ### What soundness says of a synchronising check -/

theorem State.check_of_sound (h : s.sound = true) (o : OutletId) :
    (s.outlet o).check.state = .inactive ∨ (s.outlet o).state = .synchronising :=
  ((State.protected_of_sound h (M := False) False.elim).outlet o).check

theorem SyncOutcome.event_ne (out : SyncOutcome) : out.event ≠ some .stateChanged := by
  cases out <;> decide

end Sys2Proof.Machine
end

section
/-! The rows of the paralleling breaker's feedback opening, by the channel, the check and the state. -/

namespace Sys2Proof.Machine

variable {s t u v : State} {o : OutletId}

/-- An opening that ends a trip pulse in SEPARATING completes it (R145). -/
theorem exec_pbFeedbackOpens_separating (hs : s.ready = true) (hfb : (s.outlet o).pb.feedback = true)
    (hc : (s.outlet o).pb.channel = .tripPulse ∨ (s.outlet o).pb.channel = .stuck)
    (hcheck : (s.outlet o).check.state ≠ .recovering) (hst : (s.outlet o).state = .separating) :
    ∃ t, exec (.pbFeedbackOpens o) s = .next t ∧
      t = { s.modify o (fun x => ({ x with pb := x.pb.atOpen } : Outlet).entered .cableLive) with status := t.status } ∧
      t.hasRaised s o .separated = true ∧ t.hasRaised s o .stateChanged = true ∧ t.follows s = true := by
  rw [exec_pbFeedbackOpens hfb]
  have hact := State.pbOpens_unwound hc
  rw [State.pbOpenReport_separating (by rw [State.outlet_modify_self]; exact hcheck)
    (by rw [State.outlet_modify_self]; exact hst) (by rw [State.outlet_modify_self]; rfl)] at hact
  obtain ⟨t, e, ht, _, hf, hstate, hraised⟩ := State.event_enter (act := fun s => s.pbOpens o) hs hact (by decide)
    (fun k => OutletState.noConfusion (hst.symm.trans k)) rfl rfl (by decide)
  exact ⟨t, e, ht, hraised _ (by decide) rfl, hstate, hf⟩

/-- An opening without command in a transfer state returns the outlet to CABLE_LIVE (R146). -/
theorem exec_pbFeedbackOpens_transfer (hs : s.ready = true) (hfb : (s.outlet o).pb.feedback = true)
    (hc : (s.outlet o).pb.channel = .idle) (hst : (s.outlet o).state.isTransfer = true) :
    ∃ t, exec (.pbFeedbackOpens o) s = .next t ∧
      t = { s.modify o (fun x => ({ x with
        pb := { x.pb with feedback := false, stuckSet := false }
        handover := { x.handover.clear with lastSeparation := some .pbOpened } } : Outlet).entered .cableLive) with
          status := t.status } ∧
      t.hasRaised s o .pbOpened = true ∧ t.follows s = true := by
  rw [exec_pbFeedbackOpens hfb]
  have hact := State.pbOpens_idle hc
  rw [State.pbOpenedReport_transfer (by rw [State.outlet_modify_self]; exact hst), State.modify_modify] at hact
  obtain ⟨t, e, ht, _, hf, _, hraised⟩ := State.event_enter (act := fun s => s.pbOpens o) hs hact (by decide)
    (fun k => by
      rw [show (s.outlet o).state = .cableLive from k] at hst
      cases hst) rfl rfl (by decide)
  exact ⟨t, e, ht, hraised _ (by decide) rfl, hf⟩

/-- An opening that ends RECOVERING with an exit noted leaves SYNCHRONISING (R108). -/
theorem exec_pbFeedbackOpens_leaves {out : SyncOutcome} (hs : s.ready = true) (hfb : (s.outlet o).pb.feedback = true)
    (hc : (s.outlet o).pb.channel = .tripPulse ∨ (s.outlet o).pb.channel = .stuck)
    (hcheck : (s.outlet o).check.state = .recovering) (hst : (s.outlet o).state = .synchronising)
    (hn : (s.outlet o).check.notedExit = some out) :
    ∃ t, exec (.pbFeedbackOpens o) s = .next t ∧
      t.outlet o = (({ s.outlet o with pb := (s.outlet o).pb.atOpen } : Outlet).leftSync out).entered .cableLive ∧
      t.hasRaised s o .stateChanged = true ∧ t.leavesOthers s o = true ∧ t.follows s = true := by
  rw [exec_pbFeedbackOpens hfb]
  have hact := State.pbOpens_unwound hc
  rw [State.pbOpenReport_leaves (by rw [State.outlet_modify_self]; exact hcheck)
    (by rw [State.outlet_modify_self]; exact hn), State.leaveSync_eq, State.modify_modify] at hact
  obtain ⟨t, e, ht, hleaves, hf, hstate, _⟩ := State.event_enter (act := fun s => s.pbOpens o) hs hact (by decide)
    (fun k => OutletState.noConfusion (hst.symm.trans k)) rfl rfl out.event_ne
  exact ⟨t, e, (State.outlet_of_status ht).trans (State.outlet_modify_self _ _ _), hstate, hleaves, hf⟩

/-- An opening that ends RECOVERING with no exit noted: the check goes on (R108). -/
theorem exec_pbFeedbackOpens_goesOn (hs : s.ready = true) (hfb : (s.outlet o).pb.feedback = true)
    (hc : (s.outlet o).pb.channel = .tripPulse ∨ (s.outlet o).pb.channel = .stuck)
    (hcheck : (s.outlet o).check.state = .recovering) (hn : (s.outlet o).check.notedExit = none) :
    ∃ t, exec (.pbFeedbackOpens o) s = .next t ∧
      t = { s.modify o (fun x => { x with
        pb := x.pb.atOpen, check := { x.check with state := .evaluating } }) with status := t.status } ∧
      t.leavesOthers s o = true ∧ t.follows s = true := by
  rw [exec_pbFeedbackOpens hfb]
  have hact := State.pbOpens_unwound hc
  rw [State.pbOpenReport_evaluating (by rw [State.outlet_modify_self]; exact hcheck)
    (by rw [State.outlet_modify_self]; exact hn), State.modify_modify] at hact
  exact State.event_updated (act := fun s => s.pbOpens o) hs hact rfl rfl rfl rfl rfl

/-- An opening that ends a pulse and no more (R39, R40). -/
theorem exec_pbFeedbackOpens_rests (hs : s.ready = true) (hfb : (s.outlet o).pb.feedback = true)
    (hc : (s.outlet o).pb.channel = .tripPulse ∨ (s.outlet o).pb.channel = .stuck)
    (hcheck : (s.outlet o).check.state ≠ .recovering) (hst : (s.outlet o).state ≠ .separating) :
    ∃ t, exec (.pbFeedbackOpens o) s = .next t ∧
      t = { s.modify o (fun x => { x with pb := x.pb.atOpen }) with status := t.status } ∧ t.follows s = true := by
  rw [exec_pbFeedbackOpens hfb]
  have hact := State.pbOpens_unwound hc
  rw [State.pbOpenReport_of_not (by rw [State.outlet_modify_self]; exact hcheck)
    (by rw [State.outlet_modify_self]; exact hst)] at hact
  obtain ⟨t, e, ht, _, hf⟩ := State.event_updated (act := fun s => s.pbOpens o) hs hact rfl rfl rfl rfl rfl
  exact ⟨t, e, ht, hf⟩

end Sys2Proof.Machine
end

section
/-! Further trips that leave a session in its state (R16), and the timers of the paralleling breaker (R38 to R40, R107). -/

namespace Sys2Proof.Machine

variable {s t u v : State} {o : OutletId} {sb : ShoreBreaker} {pb : ParallelBreaker} {cause : TripCause}

/-! ### A further trip (R16) -/

/-- What a further trip leaves of an outlet in DE_ENERGISING or TRIPPED whose session does not close at it. -/
structure Noted (o : OutletId) (s t : State) (sb : ShoreBreaker) (pb : ParallelBreaker) (cause : TripCause) : Prop where
  sb : (t.outlet o).sb = sb
  pb : (t.outlet o).pb = pb
  state : (t.outlet o).state = (s.outlet o).state
  noted : t.hasNoted s o cause = true
  others : t.leavesOthers s o = true
  follows : t.follows s = true

/-- A further trip of an outlet whose breakers have moved, and whose SB has not opened. -/
theorem State.Steady.notices (h : s.Steady) (hst : (s.outlet o).state = .deEnergising ∨ (s.outlet o).state = .tripped)
    (he : (s.outlet o).state = .deEnergising → sb.feedback = true ∧ sb.channel ≠ .stuck) :
    Noted o s ((s.modify o (·.withBreakers sb pb)).tripNotice o cause).finish sb pb cause := by
  generalize hb : s.modify o (·.withBreakers sb pb) = b
  have hbo : b.outlet o = (s.outlet o).withBreakers sb pb := by rw [← hb, State.outlet_modify_self]
  have hacts : ActsAt o s (b.tripNotice o cause) := .trans (hb ▸ s.actsAt_modify o _) (b.actsAt_tripNotice o cause)
  obtain ⟨hm, hg, huo, hlink⟩ := b.tripNotice_spec o cause
  generalize b.tripNotice o cause = u at hacts hm hg huo hlink
  rw [hbo] at huo hlink
  have hrest : (s.outlet o).state ≠ .admitted ∧ (s.outlet o).state.supplied = false := by
    rcases hst with e | e <;> rw [e] <;> decide
  have hrel : Releases o s u := by
    refine ⟨hacts, .of_same fun m => ?_, ?_⟩
    · simp only [State.module, hm, ← hb]
      rfl
    · rw [hg, ← hb]
      exact h.requests o hrest.1 hrest.2
  have hends : u.endsNow o = false := by
    rw [State.endsNow, huo]
    rcases hst with e | e
    · simp [Outlet.withBreakers, he e]
    · simp [Outlet.withBreakers, e]
  obtain ⟨hrests, _, hleaves, hfollows⟩ := hrel.finish h.ready h.queued h.freeApart (by rw [huo]; exact hrest.2) hends
  have hto := hrests.outlet
  have hlink' : (s.outlet o).link.noticed (u.finish.outlet o).link cause := by rw [hto]; exact hlink
  rw [huo] at hto
  exact ⟨by rw [hto]; rfl, by rw [hto]; rfl, by rw [hto]; rfl, State.hasNoted_of (by rw [hto]; rfl) hlink', hleaves,
    hfollows⟩

/-- A trip in DE_ENERGISING or TRIPPED that the unit reports: the count and the notice. -/
theorem State.trip_further (hst : (s.outlet o).state = .deEnergising ∨ (s.outlet o).state = .tripped)
    (hc : cause.byController = false) : s.trip o cause = s.tripNotice o cause := by
  unfold State.trip
  rw [hc]
  rcases hst with e | e <;> rw [e] <;> rfl

/-! ### Breakers asked to open, where no close waits under the request -/

/-- A close request waits only where the SB neither is open nor is being closed (R12). -/
theorem State.unwanted_of_sound (h : s.sound = true) (o : OutletId) :
    (s.outlet o).sb.answersOpen = true → (s.outlet o).closeWanted = false := by
  have hx := (State.protected_of_sound h (M := False) False.elim).outlet o
  refine fun ha => hx.unwanted (.inr ?_)
  revert ha
  cases hc : (s.outlet o).sb.channel <;> simp [ShoreBreaker.answersOpen, hc]

theorem State.requestSbOpen_of_unwanted (h : (s.outlet o).sb.answersOpen = true → (s.outlet o).closeWanted = false) :
    s.requestSbOpen o = s.modify o Outlet.askSbOpen := by
  cases ha : (s.outlet o).sb.answersOpen with
  | true => exact State.requestSbOpen_eq (h ha)
  | false =>
    simp only [State.requestSbOpen, ha, Bool.false_eq_true, if_false, State.modifySb, State.modifyPb]
    split
    · next hc =>
      rw [State.modify_modify]
      exact State.modify_congr (by simp [Outlet.askSbOpen, hc])
    · next hc => exact State.modify_congr (by simp [Outlet.askSbOpen, hc])

theorem State.sbCommand_of (h1 : (s.outlet o).sb.channel ≠ .closing) (h2 : (s.outlet o).sb.channel ≠ .closed) :
    s.sbCommand o = false := by
  rw [← Bool.not_eq_true, s.sbCommand_iff]
  exact not_or.2 ⟨h1, h2⟩

/-- A shore breaker that is closed and not stuck is so after an open request too (R35). -/
theorem ShoreBreaker.requestOpen_closed {b : ShoreBreaker} (h1 : b.feedback = true) (h2 : b.channel ≠ .stuck) :
    b.requestOpen.feedback = true ∧ b.requestOpen.channel ≠ .stuck := by
  unfold ShoreBreaker.requestOpen
  split <;> simp_all

/-- The SB of an outlet that stays in DE_ENERGISING has not opened (R21). -/
theorem State.sb_of_deEnergising (hs : s.ready = true) (h : (s.outlet o).state = .deEnergising) :
    (s.outlet o).sb.feedback = true ∧ (s.outlet o).sb.channel ≠ .stuck := by
  have hends := ((State.Standing.of_ready hs).outlets o).1
  simpa only [State.endsNow, h, beq_self_eq_true, Bool.true_and, Bool.or_eq_false_iff, Bool.not_eq_false',
    beq_eq_false_iff_ne] using hends

/-- The level of PB_STUCK at the end of an event (R193). -/
theorem State.pbStuck_stated (h : s.stated = true) (hst : (s.outlet o).pb.stuckSet = true) :
    (s.status.get (.outlet o)).conditions.contains .pbStuck = true := by
  rw [(State.stated_iff s).1 h (.outlet o) .pbStuck (by cases o <;> decide)]
  exact hst

theorem State.follows_of_ready (h : t.ready = true) (hset : t.status.settings = s.status.settings) :
    t.follows s = true :=
  State.follows_iff.2 ⟨((State.settled_iff t).1 (t.ready_iff.1 h).2).2.2.2, hset⟩

/-! ### The timers -/

/-- A timer that runs out does what it is for when its time has passed (log entry 2). -/
theorem atEvent_atExpiry {timer : State → Timer} {act : State → State} {n : Nat} (hp : s.phase = .running)
    (h : timer s = some n) : atEvent (fun s => s.atExpiry (timer s) act) s = atEvent act (s.elapse n) := by
  rw [atEvent_of_running hp, atEvent_of_running (s := s.elapse n) hp]
  simp only [State.atExpiry, h]

theorem SyncCheck.fail_spec (r : SyncCheck) :
    r.fail.state = .recovering ∧ r.fail.windowAsked = false ∧ r.fail.feedbackTimer = none ∧
      (r.notedExit = none → 3 ≤ r.attempts → r.fail.notedExit = some .syncFailed) ∧
      (r.notedExit = none → r.attempts < 3 → r.notedExpiry = true → r.fail.notedExit = some .syncTimeout) ∧
      (r.attempts < 3 → r.notedExpiry = false → r.fail.notedExit = r.notedExit) := by
  unfold SyncCheck.fail SyncCheck.recover SyncCheck.note
  dsimp only
  cases r.notedExit <;> cases r.notedExpiry <;> by_cases h : 3 ≤ r.attempts <;> simp [h]

/-- A close pulse that has made no contact becomes a trip pulse (R38). -/
theorem exec_pbCloseTimerExpiry {n : Nat} (hp : s.phase = .running) (hn : (s.outlet o).pb.closeTimer = some n) :
    exec (.pbCloseTimerExpiry o) s = atEvent (fun s =>
      if (s.outlet o).check.state = .closing then
        (s.modify o fun x => { x with pb := x.pb.startTrip true, check := x.check.fail }).raiseSome o (some .closeFailed)
      else s.modify o fun x => { x with pb := x.pb.startTrip true }) (s.elapse n) := by
  refine (atEvent_atExpiry (timer := fun s => (s.outlet o).pb.closeTimer) hp hn).trans (atEvent_congr ?_)
  simp only [State.modifyPb, State.outlet_modify_self, State.failAttempt, State.modifyCheck, State.modify_modify]
  rfl

/-- The attempt of a check in CLOSING has failed (R107). -/
theorem exec_pbCloseTimerExpiry_closing {n : Nat} (hs : s.ready = true) (hn : (s.outlet o).pb.closeTimer = some n)
    (hc : (s.outlet o).check.state = .closing) :
    ∃ t, exec (.pbCloseTimerExpiry o) s = .next t ∧
      t = { (s.elapse n).modify o (fun x => { x with pb := x.pb.startTrip true, check := x.check.fail }) with
        status := t.status } ∧
      t.follows s = true ∧ t.hasRaised s o .closeFailed = true := by
  rw [exec_pbCloseTimerExpiry (s.ready_iff.1 hs).1 hn]
  have hc' : ((s.elapse n).outlet o).check.state = .closing := by rw [State.elapse_outlet]; exact hc
  obtain ⟨t, e, ht, _, hf, hraised⟩ := State.event_update (s := s.elapse n) (o := o)
    (act := fun s => if (s.outlet o).check.state = .closing then
        (s.modify o fun x => { x with pb := x.pb.startTrip true, check := x.check.fail }).raiseSome o (some .closeFailed)
      else s.modify o fun x => { x with pb := x.pb.startTrip true })
    ((s.ready_elapse n).trans hs) (if_pos hc') rfl rfl rfl rfl rfl
  exact ⟨t, e, ht, hf, hraised _ (by decide) rfl⟩

theorem exec_pbCloseTimerExpiry_idle {n : Nat} (hs : s.ready = true) (hn : (s.outlet o).pb.closeTimer = some n)
    (hc : (s.outlet o).check.state ≠ .closing) :
    exec (.pbCloseTimerExpiry o) s =
      .next ((s.elapse n).modify o fun x => { x with pb := x.pb.startTrip true }) := by
  rw [exec_pbCloseTimerExpiry (s.ready_iff.1 hs).1 hn]
  have hc' : ((s.elapse n).outlet o).check.state ≠ .closing := by rw [State.elapse_outlet]; exact hc
  rw [atEvent_congr (act' := fun s => s.modify o fun x => { x with pb := x.pb.startTrip true }) (if_neg hc')]
  refine atEvent_of_ready (s.ready_iff.1 hs).1 ?_
  rw [State.ready_modify _ _ _ rfl rfl rfl rfl rfl rfl rfl rfl rfl rfl rfl]
  exact (s.ready_elapse n).trans hs

/-- A trip pulse that runs out (R39, R40). -/
theorem exec_pbTripTimerExpiry {n : Nat} (hp : s.phase = .running) (hn : (s.outlet o).pb.tripTimer = some n) :
    exec (.pbTripTimerExpiry o) s = atEvent (fun s =>
      if (s.outlet o).pb.feedback then ((s.modifyPb o ParallelBreaker.fail).requestSbOpen o).trip o .pbFail
      else s.modifyPb o ParallelBreaker.rest) (s.elapse n) :=
  atEvent_atExpiry (timer := fun s => (s.outlet o).pb.tripTimer) hp hn

/-- A trip pulse that has opened the breaker, its feedback seen before (R39). -/
theorem exec_pbTripTimerExpiry_opened {n : Nat} (hs : s.ready = true) (hn : (s.outlet o).pb.tripTimer = some n)
    (hfb : (s.outlet o).pb.feedback = false) :
    exec (.pbTripTimerExpiry o) s = .next ((s.elapse n).modifyPb o ParallelBreaker.rest) := by
  rw [exec_pbTripTimerExpiry (s.ready_iff.1 hs).1 hn]
  have hfb' : ((s.elapse n).outlet o).pb.feedback = false := by rw [State.elapse_outlet]; exact hfb
  rw [atEvent_congr (act' := fun s => s.modifyPb o ParallelBreaker.rest) (if_neg (by rw [hfb']; decide))]
  refine atEvent_of_ready (s.ready_iff.1 hs).1 ?_
  rw [State.modifyPb, State.ready_modify _ _ _ rfl rfl rfl rfl rfl rfl rfl rfl rfl rfl rfl]
  exact (s.ready_elapse n).trans hs

/-- A trip pulse that has not opened the breaker: STUCK, the SB asked to open, and a trip with PB_FAIL (R40). -/
theorem exec_pbTripTimerExpiry_stuck {n : Nat} (hsteady : s.Steady) (hsound : s.sound = true)
    (hn : (s.outlet o).pb.tripTimer = some n) (hfb : (s.outlet o).pb.feedback = true) :
    ∃ t, exec (.pbTripTimerExpiry o) s = .next t ∧ (t.outlet o).sb = ((s.elapse n).outlet o).sb.requestOpen ∧
      (t.outlet o).pb = (s.outlet o).pb.fail ∧
      ((s.outlet o).state.within .admitted .separating = true → t.hasTripped (s.elapse n) o .pbFail = true) ∧
      t.leavesOthers (s.elapse n) o = true ∧ t.follows s = true := by
  have hrun := (s.ready_iff.1 hsteady.ready).1
  have hfb' : ((s.elapse n).outlet o).pb.feedback = true := by rw [State.elapse_outlet]; exact hfb
  have hst : ((s.elapse n).outlet o).state = (s.outlet o).state := by rw [State.elapse_outlet]; rfl
  have hpb : ((s.elapse n).outlet o).pb.fail = (s.outlet o).pb.fail := by rw [State.elapse_outlet]; rfl
  have hwanted : (((s.elapse n).modifyPb o ParallelBreaker.fail).outlet o).sb.answersOpen = true →
      (((s.elapse n).modifyPb o ParallelBreaker.fail).outlet o).closeWanted = false := by
    rw [State.modifyPb, State.outlet_modify_self, State.elapse_outlet]
    exact State.unwanted_of_sound hsound o
  have hact : ((s.elapse n).modifyPb o ParallelBreaker.fail).requestSbOpen o =
      (s.elapse n).modify o (·.withBreakers ((s.elapse n).outlet o).sb.requestOpen (s.outlet o).pb.fail) := by
    rw [State.requestSbOpen_of_unwanted hwanted, State.modifyPb, State.modify_modify, ← hpb]
    refine State.modify_congr ?_
    simp only [Outlet.askSbOpen, Outlet.withBreakers, ParallelBreaker.cancelClose]
    split <;> rfl
  have hexec : exec (.pbTripTimerExpiry o) s = .next (((s.elapse n).modify o (·.withBreakers
      ((s.elapse n).outlet o).sb.requestOpen (s.outlet o).pb.fail)).trip o .pbFail).finish := by
    rw [exec_pbTripTimerExpiry hrun hn, atEvent_of_running (s := s.elapse n) hrun, if_pos hfb', hact]
  refine ⟨_, hexec, ?_⟩
  obtain ⟨h1, h2⟩ := ((s.elapse n).outlet o).sb.requestOpen_channel
  by_cases hd : (s.outlet o).state = .deEnergising
  · have hd' : ((s.elapse n).outlet o).state = .deEnergising := hst.trans hd
    obtain ⟨hclosed, hfree⟩ := State.sb_of_deEnergising (hsteady.elapse n).ready hd'
    have h := (hsteady.elapse n).notices (o := o) (sb := ((s.elapse n).outlet o).sb.requestOpen)
      (pb := (s.outlet o).pb.fail) (cause := .pbFail) (.inl hd') fun _ =>
        ShoreBreaker.requestOpen_closed hclosed hfree
    rw [← State.trip_further (by rw [State.outlet_modify_self]; exact .inl hd') rfl] at h
    exact ⟨h.sb, h.pb, fun hw => absurd (hd ▸ hw) (by decide), h.others, h.follows⟩
  · have h := (hsteady.elapse n).tripEnds (o := o) (sb := ((s.elapse n).outlet o).sb.requestOpen)
      (pb := (s.outlet o).pb.fail) (cause := .pbFail) rfl h1 h2 fun k => (hd (hst.symm.trans k)).elim
    have hpb' := h.pb
    rw [if_neg fun k => Bool.false_ne_true k.2] at hpb'
    exact ⟨h.sb, hpb', fun hw => h.tripped (by rw [hst]; exact hw), h.others fun k => hd (hst.symm.trans k), h.follows⟩

end Sys2Proof.Machine

open Sys2Proof.Machine in
/-- Settles O33: the feedback's opening by the channel, the check and the state, and the two timers by what the breaker
has done. -/
theorem parallelBreakerOpens : Obligations.ParallelBreakerOpens := by
  refine ⟨fun s hs hsound o => ?_, fun s hs hsound hacc o => ?_⟩
  · intro x opened
    refine ⟨exec_pbFeedbackOpens_same hs, exec_pbFeedbackOpens_rests hs, fun hfb hc hst => ?_, fun hfb hc hcheck => ?_,
      exec_pbFeedbackOpens_transfer hs⟩
    · refine exec_pbFeedbackOpens_separating hs hfb hc ?_ hst
      rcases State.check_of_sound hsound o with h | h
      · rw [h]; decide
      · exact OutletState.noConfusion (hst.symm.trans h)
    · have hsync := (State.check_of_sound hsound o).resolve_left (by rw [hcheck]; decide)
      cases hn : x.check.notedExit with
      | none =>
        obtain ⟨t, e, ht, hleaves, hf⟩ := exec_pbFeedbackOpens_goesOn hs hfb hc hcheck hn
        exact ⟨t, e, congrArg Outlet.pb ((State.outlet_of_status ht).trans (State.outlet_modify_self _ _ _)), fun _ => ht,
          nofun, hleaves, hf⟩
      | some out =>
        obtain ⟨t, e, hto, hstate, hleaves, hf⟩ := exec_pbFeedbackOpens_leaves hs hfb hc hcheck hsync hn
        refine ⟨t, e, by rw [hto]; rfl, nofun, fun out' h => ?_, hleaves, hf⟩
        cases h
        rw [hto]
        exact ⟨rfl, rfl, rfl, rfl, rfl, rfl, hstate⟩
  · intro x
    have hsteady := State.Steady.of_sound hs hsound hacc
    have hpb (n : Nat) (after : Bool) : ((s.elapse n).outlet o).pb.startTrip after = x.pb.startTrip after := by
      rw [State.elapse_outlet]; rfl
    refine ⟨fun hn => atEvent_of_idle hs (by rw [hn]; rfl), fun hn => atEvent_of_idle hs (by rw [hn]; rfl),
      fun n hn => ?_, fun n hn => ⟨fun hfb => ?_, fun hfb => ?_⟩⟩
    · by_cases hc : x.check.state = .closing
      · obtain ⟨t, e, ht, hf, hraised⟩ := exec_pbCloseTimerExpiry_closing hs hn hc
        have hto := (State.outlet_of_status ht).trans (State.outlet_modify_self _ o _)
        obtain ⟨h1, h2, h3, h4, h5, h6⟩ := ((s.elapse n).outlet o).check.fail_spec
        have hcheck : (t.outlet o).check = ((s.elapse n).outlet o).check.fail := by rw [hto]
        rw [← hcheck] at h1 h2 h3 h4 h5 h6
        rw [State.elapse_outlet] at h4 h5 h6
        refine ⟨t, e, by rw [hto]; exact hpb n true, fun k => (k hc).elim, fun _ => ⟨h1, h2, h3, h4, h5, h6, ?_, hraised⟩, hf⟩
        rw [State.modify_congr (g := fun x => { x with pb := (t.outlet o).pb, check := (t.outlet o).check })
          (by rw [hto])] at ht
        exact ht
      · have hto := (s.elapse n).outlet_modify_self o fun x => { x with pb := x.pb.startTrip true }
        refine ⟨_, exec_pbCloseTimerExpiry_idle hs hn hc, by rw [hto]; exact hpb n true, fun _ => ?_, fun k => (hc k).elim,
          State.follows_of_ready ?_ rfl⟩
        · exact State.modify_congr (by rw [hto])
        · rw [State.ready_modify _ _ _ rfl rfl rfl rfl rfl rfl rfl rfl rfl rfl rfl]
          exact (s.ready_elapse n).trans hs
    · exact exec_pbTripTimerExpiry_opened hs hn hfb
    · obtain ⟨t, e, hsb, hpb, htrip, hleaves, hf⟩ := exec_pbTripTimerExpiry_stuck hsteady hsound hn hfb
      obtain ⟨h1, h2⟩ := ((s.elapse n).outlet o).sb.requestOpen_channel
      exact ⟨t, e, hpb, State.pbStuck_stated (State.follows_iff.1 hf).1 (by rw [hpb]; rfl),
        State.sbCommand_of (hsb ▸ h1) (hsb ▸ h2), htrip, hleaves, hf⟩
end

section
/-! A trip from ADMITTED to SEPARATING, whatever the unit has done to the outlet before it, and with the ship link lost
after it at most (R15, R29). -/

namespace Sys2Proof.Machine

variable {s t u v b : State} {o : OutletId} {cause : TripCause} {x y : Outlet} {ref : Reference} {l : ShipLink}

/-- An outlet in a state that its link's loss does not move, with the link lost to PLUG where `down` (R29, R124). -/
def Outlet.linkLost (x : Outlet) (down : Bool) : Outlet :=
  if down then { x with link := x.link.goDown .plug, handover := { x.handover with shipStatus := none } } else x

/-- What the loss of a link reaches: the link, and the ship status held. -/
theorem Outlet.linkLost_frame (x : Outlet) (down : Bool) :
    x.linkLost down = { x with
      link := (x.linkLost down).link
      handover := { x.handover with shipStatus := (x.linkLost down).handover.shipStatus } } := by
  cases down <;> rfl

theorem ShipLink.noticed.linkLost (h : (s.outlet o).link.noticed x.link cause) (down : Bool) :
    (x.linkLost down).link.up = false ∨ (s.outlet o).link.noticed (x.linkLost down).link cause := by
  cases down
  · exact .inr h
  · exact .inl rfl

theorem State.hasNoted_of_link (hs : (t.outlet o).session = (s.outlet o).session.map (·.countTrip cause))
    (hl : (t.outlet o).link.up = false ∨ (s.outlet o).link.noticed (t.outlet o).link cause) :
    t.hasNoted s o cause = true := by
  rcases hl with h | h
  · simp only [State.hasNoted, h, Bool.not_false, Bool.true_or, Bool.and_true, beq_iff_eq]
    exact hs
  · exact State.hasNoted_of hs h

/-- An outlet once it has tripped with the whole of R15. -/
theorem State.hasTripped_of {down : Bool}
    (hout : t.outlet o = ({ y.tripped cause with reference := ref.stop, link := l } : Outlet).linkLost down)
    (hsession : y.session = (s.outlet o).session) (hapart : y.apart = (s.outlet o).apart)
    (hl : (s.outlet o).link.noticed l cause) (hg : t.group o = []) (hr : t.request o = none) (hst : t.stated = true) :
    t.hasTripped s o cause = true := by
  have hlink := ShipLink.noticed.linkLost (x := { y.tripped cause with reference := ref.stop, link := l }) hl down
  rw [← hout] at hlink
  rw [Outlet.linkLost_frame, Outlet.tripped_eq] at hout
  have hnoted : t.hasNoted s o cause = true := by
    refine State.hasNoted_of_link ?_ hlink
    rw [hout, ← hsession]
    rfl
  have hcond := State.tripped_stated (o := o) hst (by rw [hout]; rfl)
  have hap : (t.outlet o).apart = (s.outlet o).apart := by
    rw [hout, ← hapart]
    rfl
  simp only [State.hasTripped, hnoted, hcond, hg, hr, hap]
  rw [hout]
  simp [Outlet.withBreakers, Outlet.halt, SyncCheck.exit, Handover.clear, Reference.stop]

/-- What the end of an event leaves of an outlet that has tripped, and of the rest. -/
theorem State.trip_finish (hready : s.ready = true) (hqueue : s.queued) (hfree : s.freeApart) (hb : ActsAt o s b)
    (hsheds : Sheds s b) (hw : (b.outlet o).state.within .admitted .separating = true) (down : Bool) :
    let t := ((b.trip o cause).modify o (·.linkLost down)).finish
    (∃ (ref : Reference) (l : ShipLink),
      t.outlet o = ({ (b.outlet o).tripped cause with reference := ref.stop, link := l } : Outlet).linkLost down ∧
        (b.outlet o).link.noticed l cause) ∧
      t.group o = [] ∧ t.request o = none ∧ t.leavesOthers s o = true ∧ t.follows s = true := by
  obtain ⟨hrel, hgroup, ref, l, huo, hl⟩ := State.trip_spec (cause := cause) hw
  dsimp only
  generalize b.trip o cause = u at hrel hgroup huo
  have hvo : (u.modify o (·.linkLost down)).outlet o =
      ({ (b.outlet o).tripped cause with reference := ref.stop, link := l } : Outlet).linkLost down := by
    rw [State.outlet_modify_self, huo]
  have hstate : ((u.modify o (·.linkLost down)).outlet o).state = .tripped := by
    rw [hvo, Outlet.linkLost_frame, Outlet.tripped_eq]
    rfl
  have hlimit : ((u.modify o (·.linkLost down)).outlet o).limit = 0 := by
    rw [hvo, Outlet.linkLost_frame, Outlet.tripped_eq]
    rfl
  have hrel' : Releases o s (u.modify o (·.linkLost down)) :=
    ⟨(hb.trans hrel.acts).trans (u.actsAt_modify o _), (hsheds.trans hrel.sheds).trans (.of_same fun _ => rfl), hrel.requests⟩
  obtain ⟨hrests, _, hleaves, hfollows⟩ := hrel'.finish hready hqueue hfree (by rw [hstate]; rfl)
    (State.endsNow_of_state (by rw [hstate]; decide))
  exact ⟨⟨ref, l, (hrests.idle hgroup hlimit).trans hvo, hl⟩, hrests.group.trans hgroup,
    State.request_none fun r hr => hrel'.requests r (hrests.grants r hr), hleaves, hfollows⟩

end Sys2Proof.Machine
end

section
/-! The paralleling breaker's feedback closing (R38, R41, R106, R109, R112, R135). -/

namespace Sys2Proof.Machine

variable {s t u v : State} {o : OutletId} {cause : TripCause}

/-! ### The close made (R38, R106, R135) -/

/-- A paralleling breaker whose close pulse has made contact. -/
def ParallelBreaker.made (b : ParallelBreaker) : ParallelBreaker :=
  { b with feedback := true, channel := .idle, closeTimer := none, tripTimer := none, afterClose := false }

/-- A paralleling breaker whose feedback has closed. -/
def ParallelBreaker.atClosed (b : ParallelBreaker) : ParallelBreaker := { b with feedback := true }

/-- The outlet of a close made, before it enters TRANSFER_IN. -/
def Outlet.closeMade (x : Outlet) : Outlet :=
  { x with
    pb := x.pb.made
    check := { x.check.exit with outcome := some .transfer, notedExpiry := false }
    handover := { x.handover.clear with parallelTimer := x.parallelTime } }

theorem exec_pbFeedbackCloses_same (hs : s.ready = true) (h : (s.outlet o).pb.feedback = true) :
    exec (.pbFeedbackCloses o) s = .next s := atEvent_of_idle hs (if_pos h)

theorem exec_pbFeedbackCloses (h : (s.outlet o).pb.feedback = false) :
    exec (.pbFeedbackCloses o) s = atEvent (fun s => s.pbCloses o) s := atEvent_congr (if_neg (by simp [h]))

theorem State.pbCloses_made (hc : (s.outlet o).pb.channel = .closePulse) (hk : (s.outlet o).check.state = .closing) :
    s.pbCloses o = ((s.modify o Outlet.closeMade).raiseSome o (some .pbClosed)).enter o .transferIn := by
  simp only [State.pbCloses, State.modifyPb, State.outlet_modify_self, hc, hk, if_true, State.closeMade,
    State.modify_modify]
  rfl

theorem State.pbCloses_pulse (hc : (s.outlet o).pb.channel = .closePulse) (hk : (s.outlet o).check.state ≠ .closing) :
    s.pbCloses o = s.modify o fun x => { x with pb := x.pb.made } := by
  simp only [State.pbCloses, State.modifyPb, State.outlet_modify_self, hc, hk, if_false, State.modify_modify]
  rfl

theorem exec_pbFeedbackCloses_made (hs : s.ready = true) (hfb : (s.outlet o).pb.feedback = false)
    (hc : (s.outlet o).pb.channel = .closePulse) (hk : (s.outlet o).check.state = .closing)
    (hst : (s.outlet o).state = .synchronising) :
    ∃ t, exec (.pbFeedbackCloses o) s = .next t ∧
      t = { s.modify o (fun x => x.closeMade.entered .transferIn) with status := t.status } ∧
      t.hasRaised s o .pbClosed = true ∧ t.hasRaised s o .stateChanged = true ∧ t.follows s = true := by
  rw [exec_pbFeedbackCloses hfb]
  obtain ⟨t, e, ht, _, hf, hstate, hraised⟩ := State.event_enter (act := fun s => s.pbCloses o) hs
    (State.pbCloses_made hc hk) (by decide) (fun k => OutletState.noConfusion (hst.symm.trans k)) rfl rfl (by decide)
  exact ⟨t, e, ht, hraised _ (by decide) rfl, hstate, hf⟩

/-- The setpoint at the entry to TRANSFER_IN (R77). -/
theorem Outlet.startingSetpoint_transferIn (x : Outlet) :
    (x.power.validity = .invalid → x.startingSetpoint .transferIn = 0) ∧
      (x.power.validity ≠ .invalid → 0 ≤ x.power.kW → x.power.kW ≤ x.limit →
        x.startingSetpoint .transferIn = x.power.kW.toNat) ∧ x.startingSetpoint .transferIn ≤ x.limit := by
  unfold Outlet.startingSetpoint Outlet.startingPower clampInt
  cases x.power.validity <;> simp [Validity.usable] <;> omega

/-! ### A closure that no close pulse accounts for (R41, R109, R112) -/

theorem State.pbCloses_unaccounted (hc : (s.outlet o).pb.channel = .idle ∨ (s.outlet o).pb.channel = .tripPulse) :
    s.pbCloses o = (s.modify o fun x => { x with pb := x.pb.atClosed }).judgeClosure o := by
  rcases hc with hc | hc <;>
  · simp only [State.pbCloses, State.modifyPb, State.outlet_modify_self, hc]
    rfl

/-- The closure comes in SYNCHRONISING, during the trip pulse after a close pulse (R109). -/
def Outlet.closesLate (x : Outlet) : Prop :=
  x.state = .synchronising ∧ x.check.state = .recovering ∧ x.pb.channel = .tripPulse ∧ x.pb.afterClose = true

/-- The outlet of a late closure, before it enters SEPARATING. -/
def Outlet.closedLate (x : Outlet) : Outlet :=
  { x with
    check := { x.check.exit with outcome := some .lateClose }
    handover := { x.handover with overloadTimer := none, lastSeparation := some .lateClose } }

theorem State.judgeClosure_late (h : (s.outlet o).closesLate) :
    s.judgeClosure o = ((s.modify o Outlet.closedLate).raiseSome o (some .lateClose)).enter o .separating := if_pos h

theorem State.judgeClosure_trip (h : ¬(s.outlet o).closesLate)
    (hw : (s.outlet o).state.within .admitted .synchronising = true ∨ (s.outlet o).state = .deEnergising ∨
      (s.outlet o).state = .tripped) : s.judgeClosure o = s.trip o .unsyncClose := by
  unfold State.judgeClosure
  exact (if_neg h).trans (if_pos hw)

/-- The state of an outlet at a closure that no close pulse accounts for: a session up to SYNCHRONISING or one that ends,
none at all, or the paralleled states. -/
theorem OutletState.closure_cases (st : OutletState) :
    (st.within .admitted .synchronising = true ∨ st = .deEnergising ∨ st = .tripped) ∨
      (st.within .vacant .announced = true ∨ st = .held) ∨
        (st ≠ .synchronising ∧ ¬(st.within .admitted .synchronising = true ∨ st = .deEnergising ∨ st = .tripped) ∧
          ¬(st.within .vacant .announced = true ∨ st = .held)) := by
  cases st <;> decide

theorem OutletState.apart_of_unopened {st : OutletState} (h : st.within .vacant .announced = true ∨ st = .held) :
    st ≠ .synchronising ∧ ¬(st.within .admitted .synchronising = true ∨ st = .deEnergising ∨ st = .tripped) ∧
      st ≠ .deEnergising := by
  revert h
  cases st <;> decide

theorem State.judgeClosure_opens (hw : (s.outlet o).state.within .vacant .announced = true ∨ (s.outlet o).state = .held) :
    s.judgeClosure o = s.requestPbTrip o := by
  obtain ⟨h1, h2, _⟩ := OutletState.apart_of_unopened hw
  unfold State.judgeClosure
  exact (if_neg fun k => h1 k.1).trans ((if_neg h2).trans (if_pos hw))

/-- A late closure leads to SEPARATING (R109). -/
theorem exec_pbFeedbackCloses_late (hs : s.ready = true) (hfb : (s.outlet o).pb.feedback = false)
    (hlate : (s.outlet o).closesLate) :
    ∃ t, exec (.pbFeedbackCloses o) s = .next t ∧
      t.outlet o = ({ s.outlet o with pb := (s.outlet o).pb.atClosed } : Outlet).closedLate.entered .separating ∧
      t.hasRaised s o .lateClose = true ∧ t.leavesOthers s o = true ∧ t.follows s = true := by
  obtain ⟨hst, _, hc, _⟩ := id hlate
  rw [exec_pbFeedbackCloses hfb]
  have hact := State.pbCloses_unaccounted (.inr hc)
  rw [State.judgeClosure_late (by rw [State.outlet_modify_self]; exact hlate), State.modify_modify] at hact
  obtain ⟨t, e, ht, hleaves, hf, _, hraised⟩ := State.event_enter (act := fun s => s.pbCloses o) hs hact (by decide)
    (fun k => OutletState.noConfusion (hst.symm.trans k)) rfl rfl (by decide)
  exact ⟨t, e, (State.outlet_of_status ht).trans (State.outlet_modify_self _ _ _), hraised _ (by decide) rfl, hleaves, hf⟩

/-- A closure where no session is open: the PB is asked to open (R41, R112). -/
theorem exec_pbFeedbackCloses_open (hs : s.ready = true) (hfb : (s.outlet o).pb.feedback = false)
    (hc : (s.outlet o).pb.channel = .idle ∨ (s.outlet o).pb.channel = .tripPulse)
    (hw : (s.outlet o).state.within .vacant .announced = true ∨ (s.outlet o).state = .held) :
    ∃ t, exec (.pbFeedbackCloses o) s = .next t ∧
      t.outlet o = { s.outlet o with pb := (s.outlet o).pb.atClosed.requestTrip } ∧ t.follows s = true := by
  rw [exec_pbFeedbackCloses hfb]
  have hact := State.pbCloses_unaccounted hc
  rw [State.judgeClosure_opens (by rw [State.outlet_modify_self]; exact hw), State.requestPbTrip, State.modifyPb,
    State.modify_modify] at hact
  obtain ⟨t, e, ht, _, hf⟩ := State.event_updated (act := fun s => s.pbCloses o) hs hact rfl rfl rfl rfl rfl
  exact ⟨t, e, (State.outlet_of_status ht).trans (State.outlet_modify_self _ _ _), hf⟩

/-- A closure in any other state is recorded and no more. -/
theorem exec_pbFeedbackCloses_stands (hs : s.ready = true) (hfb : (s.outlet o).pb.feedback = false)
    (hc : (s.outlet o).pb.channel = .idle ∨ (s.outlet o).pb.channel = .tripPulse)
    (h1 : (s.outlet o).state ≠ .synchronising)
    (h2 : ¬((s.outlet o).state.within .admitted .synchronising = true ∨ (s.outlet o).state = .deEnergising ∨
      (s.outlet o).state = .tripped))
    (h3 : ¬((s.outlet o).state.within .vacant .announced = true ∨ (s.outlet o).state = .held)) :
    ∃ t, exec (.pbFeedbackCloses o) s = .next t ∧ (t.outlet o).pb.feedback = true ∧ t.follows s = true := by
  rw [exec_pbFeedbackCloses hfb]
  have hact := State.pbCloses_unaccounted hc
  have hjudge : (s.modify o fun x => { x with pb := x.pb.atClosed }).judgeClosure o =
      s.modify o fun x => { x with pb := x.pb.atClosed } := by
    unfold State.judgeClosure
    rw [State.outlet_modify_self]
    exact (if_neg fun k => h1 k.1).trans ((if_neg h2).trans (if_neg h3))
  rw [hjudge] at hact
  obtain ⟨t, e, ht, _, hf⟩ := State.event_updated (act := fun s => s.pbCloses o) hs hact rfl rfl rfl rfl rfl
  refine ⟨t, e, ?_, hf⟩
  rw [State.outlet_of_status ht, State.outlet_modify_self]
  rfl

/-! ### A trip that the outlet controller decides (R15, R16) -/

theorem ParallelBreaker.feedback_requestTrip (b : ParallelBreaker) : b.requestTrip.feedback = b.feedback := by
  unfold ParallelBreaker.requestTrip
  split <;> rfl

theorem ParallelBreaker.feedback_cancelClose (b : ParallelBreaker) : b.cancelClose.feedback = b.feedback := by
  unfold ParallelBreaker.cancelClose
  split <;> rfl

theorem Outlet.askBothOpen_spec (x : Outlet) :
    x.askBothOpen.sb = x.sb.requestOpen ∧ x.askBothOpen.pb.channel = .tripPulse ∧
      x.askBothOpen.pb.feedback = x.pb.feedback := by
  refine ⟨rfl, ParallelBreaker.requestTrip_channel _, ?_⟩
  show (ParallelBreaker.requestTrip _).feedback = _
  rw [ParallelBreaker.feedback_requestTrip]
  show (if x.sb.channel = .closed then x.pb.cancelClose else x.pb).feedback = _
  split
  · exact ParallelBreaker.feedback_cancelClose _
  · rfl

theorem Outlet.tripped_asked (x : Outlet) (h : cause.commandsBoth = true) :
    (x.tripped cause).sb = x.sb.requestOpen ∧ (x.tripped cause).pb.channel = .tripPulse ∧
      (x.tripped cause).pb.feedback = x.pb.feedback := by
  unfold Outlet.tripped
  rw [if_pos h]
  exact x.halt.askBothOpen_spec

/-- A session up to SYNCHRONISING trips with UNSYNC_CLOSE (R112). -/
theorem exec_pbFeedbackCloses_trips (hsteady : s.Steady) (hfb : (s.outlet o).pb.feedback = false)
    (hc : (s.outlet o).pb.channel = .idle ∨ (s.outlet o).pb.channel = .tripPulse) (hlate : ¬(s.outlet o).closesLate)
    (hw : (s.outlet o).state.within .admitted .synchronising = true) :
    ∃ t, exec (.pbFeedbackCloses o) s = .next t ∧ t.hasTripped s o .unsyncClose = true ∧
      (t.outlet o).sb = (s.outlet o).sb.requestOpen ∧ (t.outlet o).pb.channel = .tripPulse ∧
      (t.outlet o).pb.feedback = true ∧ t.leavesOthers s o = true ∧ t.follows s = true := by
  generalize hb : (s.modify o fun x => { x with pb := x.pb.atClosed }) = b
  have hbo : b.outlet o = { s.outlet o with pb := (s.outlet o).pb.atClosed } := by rw [← hb, State.outlet_modify_self]
  have hact : s.pbCloses o = (b.trip o .unsyncClose).modify o (·.linkLost false) := by
    refine ((State.pbCloses_unaccounted hc).trans ?_).trans (State.modify_self _ o).symm
    rw [hb]
    exact State.judgeClosure_trip (by rw [hbo]; exact hlate) (by rw [hbo]; exact .inl hw)
  have hw' : (b.outlet o).state.within .admitted .separating = true := by
    rw [hbo]
    revert hw
    cases (s.outlet o).state <;> decide
  obtain ⟨⟨ref, l, hto, hl⟩, hgroup, hreq, hleaves, hfollows⟩ := State.trip_finish (cause := .unsyncClose) hsteady.ready
    hsteady.queued hsteady.freeApart (hb ▸ s.actsAt_modify o _) (hb ▸ .of_same fun _ => rfl) hw' false
  obtain ⟨h1, h2, h3⟩ := (b.outlet o).tripped_asked (cause := .unsyncClose) rfl
  refine ⟨_, (exec_pbFeedbackCloses hfb).trans (atEvent_of_running (s.ready_iff.1 hsteady.ready).1), ?_⟩
  rw [hact]
  refine ⟨State.hasTripped_of hto (by rw [hbo]) (by rw [hbo]; rfl) (by rw [hbo] at hl; exact hl) hgroup hreq
    (State.follows_iff.1 hfollows).1, ?_, ?_, ?_, hleaves, hfollows⟩
  · rw [hto]
    exact h1.trans (by rw [hbo])
  · rw [hto]
    exact h2
  · rw [hto]
    exact h3.trans (by rw [hbo]; rfl)

/-- In DE_ENERGISING and TRIPPED the closure is a further trip, its breaker requests as at the first (R16, log entry
43). -/
theorem exec_pbFeedbackCloses_notes (hsteady : s.Steady) (hsound : s.sound = true)
    (hfb : (s.outlet o).pb.feedback = false)
    (hc : (s.outlet o).pb.channel = .idle ∨ (s.outlet o).pb.channel = .tripPulse)
    (hst : (s.outlet o).state = .deEnergising ∨ (s.outlet o).state = .tripped) :
    ∃ t, exec (.pbFeedbackCloses o) s = .next t ∧
      Noted o s t (s.outlet o).sb.requestOpen
        ({ s.outlet o with pb := (s.outlet o).pb.atClosed } : Outlet).askBothOpen.pb .unsyncClose := by
  generalize hb : (s.modify o fun x => { x with pb := x.pb.atClosed }) = b
  have hbo : b.outlet o = { s.outlet o with pb := (s.outlet o).pb.atClosed } := by rw [← hb, State.outlet_modify_self]
  have hlate : ¬(s.outlet o).closesLate := fun k => by
    rcases hst with e | e <;> exact OutletState.noConfusion (e.symm.trans k.1)
  have hunwanted : (s.outlet o).closeWanted = false :=
    ((State.protected_of_sound hsound (M := False) False.elim).outlet o).unwanted
      (.inl fun k => by rcases hst with e | e <;> exact OutletState.noConfusion (e.symm.trans k.1))
  have hact : s.pbCloses o = (s.modify o (·.withBreakers (s.outlet o).sb.requestOpen
      ({ s.outlet o with pb := (s.outlet o).pb.atClosed } : Outlet).askBothOpen.pb)).tripNotice o .unsyncClose := by
    rw [State.pbCloses_unaccounted hc, hb, State.judgeClosure_trip (by rw [hbo]; exact hlate) (by rw [hbo]; exact .inr hst)]
    have htrip : b.trip o .unsyncClose = (b.openBreakers o).tripNotice o .unsyncClose := by
      unfold State.trip
      rw [hbo]
      rcases hst with e | e <;> rw [e] <;> rfl
    rw [htrip, State.openBreakers_eq (by rw [hbo]; exact hunwanted), ← hb, State.modify_modify]
    exact congrArg (State.tripNotice · o .unsyncClose) (State.modify_congr rfl)
  refine ⟨_, (exec_pbFeedbackCloses hfb).trans (atEvent_of_running (s.ready_iff.1 hsteady.ready).1), ?_⟩
  rw [hact]
  refine hsteady.notices hst fun hd => ?_
  obtain ⟨h1, h2⟩ := State.sb_of_deEnergising hsteady.ready hd
  exact ShoreBreaker.requestOpen_closed h1 h2

end Sys2Proof.Machine

open Sys2Proof.Machine in
/-- Settles O32: a close made by the check's state, and a closure that no close pulse accounts for by the outlet's. -/
theorem parallelBreakerCloses : Obligations.ParallelBreakerCloses := by
  refine ⟨fun s hs hsound o => ?_, fun s hs hsound hacc o => ?_⟩
  · intro x
    obtain ⟨_, hwf⟩ := State.breakers_of_sound hsound o
    have hopen : x.pb.channel = .closePulse → x.pb.feedback = false := (ParallelBreaker.channel_of hwf).2.2.1
    refine ⟨exec_pbFeedbackCloses_same hs, fun hc hk r hr => ?_, fun hc hk => ?_⟩
    · have hst := (State.check_of_sound hsound o).resolve_left (by rw [hk]; decide)
      obtain ⟨t, e, ht, hclosed, hstate, hf⟩ := exec_pbFeedbackCloses_made hs (hopen hc) hc hk hst
      have hto := (State.outlet_of_status ht).trans (State.outlet_modify_self _ o _)
      have hset : (t.outlet o).reference.setpoint = x.startingSetpoint .transferIn := by rw [hto]; rfl
      obtain ⟨h1, h2, h3⟩ := x.startingSetpoint_transferIn
      refine ⟨t, e, ?_, ?_, ?_, ?_, hclosed, hstate, hf⟩
      · have hpar : x.parallelTime = some (r.snapshot.parTime * Sys2Proof.Config.ticksPerSecond) := by
          rw [Outlet.parallelTime, hr]
          rfl
        refine ht.trans (congrArg (fun u : State => { u with status := t.status }) (State.modify_congr ?_))
        rw [hset, ← hpar]
        rfl
      · rw [hset]; exact h1
      · rw [hset]; exact h2
      · rw [hset]; exact h3
    · rw [exec_pbFeedbackCloses (hopen hc)]
      obtain ⟨t, e, ht, _, hf⟩ := State.event_updated (act := fun s => s.pbCloses o) hs (State.pbCloses_pulse hc hk) rfl rfl
        rfl rfl rfl
      exact ⟨t, e, ht, hf⟩
  · intro x late hfb hc
    have hsteady := State.Steady.of_sound hs hsound hacc
    obtain ⟨hq1, hq2⟩ := x.sb.requestOpen_channel
    by_cases hlate : late
    · obtain ⟨t, e, hto, hraised, hleaves, hf⟩ := exec_pbFeedbackCloses_late hs hfb hlate
      obtain ⟨hst, _, hpulse, _⟩ := id hlate
      refine ⟨t, e, by rw [hto]; rfl, fun _ => ?_, fun _ k => (k hlate).elim, fun k => ?_, fun k => ?_, hf⟩
      · rw [hto]
        exact ⟨rfl, hpulse, rfl, rfl, rfl, rfl, rfl, rfl, hraised, hleaves⟩
      all_goals
        rw [hst] at k
        exact absurd k (by decide)
    · rcases x.state.closure_cases with (hw | hst) | hw | ⟨h1, h2, h3⟩
      · obtain ⟨t, e, htrip, hsb, hpb, hclosed, hleaves, hf⟩ := exec_pbFeedbackCloses_trips hsteady hfb hc hlate hw
        refine ⟨t, e, hclosed, fun k => (hlate k).elim,
          fun _ _ => ⟨htrip, State.sbCommand_of (hsb ▸ hq1) (hsb ▸ hq2), hpb, hleaves⟩, fun k => ?_, fun k => ?_, hf⟩
        all_goals
          exfalso
          revert hw k
          cases x.state <;> decide
      · obtain ⟨t, e, h⟩ := exec_pbFeedbackCloses_notes hsteady hsound hfb hc hst
        obtain ⟨_, hpulse, hclosed⟩ := ({ x with pb := x.pb.atClosed } : Outlet).askBothOpen_spec
        refine ⟨t, e, by rw [h.pb, hclosed]; rfl, fun k => (hlate k).elim, fun k => ?_,
          fun _ => ⟨h.state, h.noted, State.sbCommand_of (h.sb ▸ hq1) (h.sb ▸ hq2), by rw [h.pb, hpulse]⟩, fun k => ?_,
          h.follows⟩
        all_goals
          exfalso
          revert hst k
          cases x.state <;> decide
      · obtain ⟨t, e, hto, hf⟩ := exec_pbFeedbackCloses_open hs hfb hc hw
        refine ⟨t, e, ?_, fun k => (hlate k).elim, fun k => ?_, fun k => ?_, fun _ => ?_, hf⟩
        · rw [hto]
          exact x.pb.atClosed.feedback_requestTrip
        · exact ((OutletState.apart_of_unopened hw).2.1 (.inl k)).elim
        · exact ((OutletState.apart_of_unopened hw).2.1 (.inr k)).elim
        · rw [hto]
          exact ⟨ParallelBreaker.requestTrip_channel _, rfl⟩
      · obtain ⟨t, e, hclosed, hf⟩ := exec_pbFeedbackCloses_stands hs hfb hc h1 h2 h3
        exact ⟨t, e, hclosed, fun k => (hlate k).elim, fun k => (h2 (.inl k)).elim, fun k => (h2 (.inr k)).elim,
          fun k => (h3 k).elim, hf⟩

end

section
/-! What an interlock loss makes of an outlet (R15, R16, R29, R30), and what is raised at the end of its event. -/

namespace Sys2Proof.Machine

variable {s t u v b : State} {o : OutletId} {cause : TripCause} {x y z : Outlet} {i : Interlock}

/-! ### What the end of an event raises at an outlet that rests -/

theorem State.status_recomputeLimit (s : State) (o : OutletId) : (s.recomputeLimit o).status = s.status := by
  rw [(s.recomputeLimit_frame o).1]

theorem State.status_settleBudget (s : State) : s.settleBudget.status = s.status := by
  simp only [State.settleBudget]
  split
  · simp only [State.recomputeLimits, State.status_recomputeLimit]
  · rfl

theorem State.status_endPrepare (s : State) (o : OutletId) : (s.endPrepare o).status = s.status := by
  rw [(s.endPrepare_spec o).1]

/-- A grant raises STATE_CHANGED at the outlet it is for alone. -/
theorem State.status_grant {r : Request} (hr : r.outlet ≠ o) (rest : List Request) (ms : List (Fin 8)) :
    (s.grant r rest ms).status.get (.outlet o) = s.status.get (.outlet o) := by
  unfold State.grant
  dsimp only
  generalize hu : ({ s with grants := rest } : State).modifyModules ms (·.grantTo r.outlet r.kind) = u
  have hus : u.status = s.status := by rw [← hu, State.modifyModules_eq]
  cases r.kind
  · show (u.enter r.outlet .energising).status.get (.outlet o) = _
    rw [(u.actsAt_enter r.outlet .energising).status (.outlet o) (by simpa using hr.symm), hus]
  · exact congrArg (StatusUnit.get · (.outlet o)) hus

theorem State.status_examine (n : Nat) (hs : ∀ r ∈ s.grants, r.outlet ≠ o) :
    (s.examine n).status.get (.outlet o) = s.status.get (.outlet o) := by
  induction n generalizing s with
  | zero => rfl
  | succ n ih =>
    simp only [State.examine]
    split
    · rfl
    · next r rest hg =>
      split
      · rfl
      · rw [hg] at hs
        rw [ih (by rw [State.grant_frame]; exact fun k hk => hs k (List.mem_cons_of_mem _ hk)),
          State.status_grant (hs r List.mem_cons_self)]

/-- The end of an event raises nothing at an outlet without a request, where no session closes. -/
theorem State.count_finish (hs : ∀ r ∈ s.grants, r.outlet ≠ o) (he : s.noneEnds) {e : Item} (hx : e ∈ outletEvents) :
    (s.finish.status.get (.outlet o)).count e = (s.status.get (.outlet o)).count e := by
  unfold State.finish whenRunning
  split
  swap
  · rfl
  rw [State.count_reportAll _ o hx]
  have hgrants : s.recomputeLimits.grants = s.grants := by
    simp only [State.recomputeLimits]
    rw [(State.recomputeLimit_frame _ .c).1, (State.recomputeLimit_frame _ .b).1, (State.recomputeLimit_frame _ .a).1]
  simp only [State.settle, State.completeEnd_of_not (he _), State.status_endPrepare, State.reallocate,
    State.status_settleBudget]
  rw [State.status_examine _ (by rw [hgrants]; exact hs)]
  simp only [State.recomputeLimits, State.status_recomputeLimit]

/-! ### A trip that the unit reports -/

/-- What an outlet is after it has taken a cause that the unit reports: tripped, its trip counted, or as it was. -/
inductive Outlet.Takes (cause : TripCause) (y z : Outlet) : Prop
  | trips (ref : Reference) (l : ShipLink) (h : y.state.within .admitted .separating = true)
      (e : z = { y.tripped cause with reference := ref.stop, link := l }) (hl : y.link.noticed l cause)
  | notes (l : ShipLink) (h : y.state = .deEnergising ∨ y.state = .tripped)
      (e : z = { y with session := y.session.map (·.countTrip cause), link := l }) (hl : y.link.noticed l cause)
  | stands (h : y.state.within .vacant .announced = true ∨ y.state = .held) (e : z = y)

theorem OutletState.cases_trip (st : OutletState) :
    st.within .admitted .separating = true ∨ (st = .deEnergising ∨ st = .tripped) ∨
      (st.within .vacant .announced = true ∨ st = .held) := by
  cases st <;> decide

theorem OutletState.trip_of_ending {st : OutletState} (h : st = .deEnergising ∨ st = .tripped) :
    ¬st.within .admitted .separating = true ∧ ¬(st.within .vacant .announced = true ∨ st = .held) := by
  rcases h with rfl | rfl <;> decide

theorem OutletState.trip_of_unopened {st : OutletState} (h : st.within .vacant .announced = true ∨ st = .held) :
    ¬st.within .admitted .separating = true ∧ ¬(st = .deEnergising ∨ st = .tripped) ∧ ¬st.inSession = true := by
  revert h
  cases st <;> decide

theorem Outlet.Takes.of_session (h : y.Takes cause z) (hw : y.state.within .admitted .separating = true) :
    ∃ (ref : Reference) (l : ShipLink), z = { y.tripped cause with reference := ref.stop, link := l } ∧
      y.link.noticed l cause := by
  cases h with
  | trips ref l _ e hl => exact ⟨ref, l, e, hl⟩
  | notes _ h => exact ((OutletState.trip_of_ending h).1 hw).elim
  | stands h => exact ((OutletState.trip_of_unopened h).1 hw).elim

theorem Outlet.Takes.of_ending (h : y.Takes cause z) (hst : y.state = .deEnergising ∨ y.state = .tripped) :
    ∃ l, z = { y with session := y.session.map (·.countTrip cause), link := l } ∧ y.link.noticed l cause := by
  cases h with
  | trips _ _ hw => exact ((OutletState.trip_of_ending hst).1 hw).elim
  | notes l _ e hl => exact ⟨l, e, hl⟩
  | stands h => exact ((OutletState.trip_of_ending hst).2 h).elim

theorem Outlet.Takes.of_unopened (h : y.Takes cause z)
    (hst : y.state.within .vacant .announced = true ∨ y.state = .held) : z = y := by
  cases h with
  | trips _ _ hw => exact ((OutletState.trip_of_unopened hst).1 hw).elim
  | notes _ h => exact ((OutletState.trip_of_unopened hst).2.1 h).elim
  | stands _ e => exact e

theorem State.trip_of_unopened (h : (s.outlet o).state.within .vacant .announced = true ∨ (s.outlet o).state = .held) :
    s.trip o cause = s :=
  (if_neg (OutletState.trip_of_unopened h).1).trans (if_neg (OutletState.trip_of_unopened h).2.2)

theorem State.takes_trip (hc : cause.byController = false) (b : State) (o : OutletId) :
    (b.outlet o).Takes cause ((b.trip o cause).outlet o) := by
  rcases (b.outlet o).state.cases_trip with h | h | h
  · obtain ⟨_, _, ref, l, e, hl⟩ := State.trip_spec (cause := cause) h
    exact .trips ref l h e hl
  · obtain ⟨_, _, e, hl⟩ := b.tripNotice_spec o cause
    rw [State.trip_further h hc]
    exact .notes _ h e hl
  · exact .stands h (congrArg (State.outlet · o) (State.trip_of_unopened h))

/-- Where the unit has acted on both breakers, a trip leaves them, and the outlet at rest. -/
theorem Outlet.Takes.spec (hc : cause.commandsBoth = false) (h : y.Takes cause z) :
    z.sb = y.sb ∧ z.pb = y.pb ∧ z.interlocks = y.interlocks ∧ z.state.supplied = false ∧ z.state ≠ .admitted ∧
      z.state.isTransfer = false ∧ z.state ≠ .synchronising ∧ (z.state = .deEnergising → y.state = .deEnergising) := by
  cases h with
  | trips ref l h e hl =>
    subst e
    simp only [Outlet.tripped, hc]
    exact ⟨rfl, rfl, rfl, rfl, by decide, rfl, by decide, nofun⟩
  | notes l h e hl =>
    subst e
    refine ⟨rfl, rfl, rfl, ?_⟩
    rcases h with h | h <;> dsimp only <;> rw [h] <;> decide
  | stands h e =>
    subst e
    have hst : z.state.supplied = false ∧ z.state ≠ .admitted ∧ z.state.isTransfer = false ∧ z.state ≠ .synchronising := by
      revert h
      cases z.state <;> decide
    exact ⟨rfl, rfl, rfl, hst.1, hst.2.1, hst.2.2.1, hst.2.2.2, id⟩

/-- A trip that the unit reports sheds modules, and takes requests of the outlet back, at most. -/
theorem State.trip_sheds (hc : cause.byController = false) (b : State) (o : OutletId) :
    Sheds b (b.trip o cause) ∧ (∀ r ∈ (b.trip o cause).grants, r ∈ b.grants) ∧
      (((b.outlet o).state ≠ .admitted → (b.outlet o).state.supplied = false → ∀ r ∈ b.grants, r.outlet ≠ o) →
        ∀ r ∈ (b.trip o cause).grants, r.outlet ≠ o) := by
  rcases (b.outlet o).state.cases_trip with h | h | h
  · obtain ⟨hrel, _⟩ := State.trip_spec (cause := cause) h
    exact ⟨hrel.sheds, fun r hr => hrel.sublist.subset hr, fun _ => hrel.requests⟩
  · obtain ⟨hm, hg, _⟩ := b.tripNotice_spec o cause
    rw [State.trip_further h hc, hg]
    refine ⟨.of_same fun m => by simp only [State.module, hm], fun _ hr => hr, fun k => k ?_ ?_⟩
    all_goals rcases h with h | h <;> rw [h] <;> decide
  · rw [State.trip_of_unopened h]
    refine ⟨.of_same fun _ => rfl, fun _ hr => hr, fun k => k ?_ ?_⟩
    all_goals
      revert h
      cases (b.outlet o).state <;> decide

/-- A trip raises STATE_CHANGED once (R15, R193). -/
theorem State.count_trip (hc : cause.commandsBoth = false) (h : (s.outlet o).state.within .admitted .separating = true)
    {e : Item} (hx : e ∈ outletEvents) : ((s.trip o cause).status.get (.outlet o)).count e =
      if e = .stateChanged then addHolding 255 ((s.status.get (.outlet o)).count e) 1
      else (s.status.get (.outlet o)).count e := by
  have hact : s.trip o cause = (((((s.modify o Outlet.halt).withdraw o).tripNotice o cause).stopGroup o).recomputeLimit
      o).enter o .tripped := by
    rw [State.trip, if_pos h]
    simp only [hc, Bool.false_eq_true, if_false]
  generalize hu : ((s.modify o Outlet.halt).withdraw o) = u at hact
  have huo : (u.outlet o).state = (s.outlet o).state := by
    rw [← hu]
    show ((s.modify o Outlet.halt).outlet o).state = _
    rw [State.outlet_modify_self]
    rfl
  obtain ⟨l, hsend, _⟩ := (u.modifySession o fun r => r.countTrip cause).send_spec o (.tripNotice cause)
  have hstatus : (((u.tripNotice o cause).stopGroup o).recomputeLimit o).status = s.status := by
    rw [State.status_recomputeLimit, State.stopGroup, State.modifyModules_eq, State.tripNotice, hsend, ← hu]
    rfl
  have hstate : ((((u.tripNotice o cause).stopGroup o).recomputeLimit o).outlet o).state = (s.outlet o).state := by
    obtain ⟨_, _, ho, _⟩ := u.tripNotice_spec o cause
    obtain ⟨_, _, _, ⟨_, _, hr⟩, _⟩ := ((u.tripNotice o cause).stopGroup o).recomputeLimit_frame o
    rw [hr, State.outlet_stopGroup, ho]
    exact huo
  rw [hact, State.count_enter ?_ hx, hstatus]
  rw [hstate]
  intro k
  rw [k] at h
  exact absurd h (by decide)

end Sys2Proof.Machine
end

section
/-! The loss of an outlet's own interlock (R1, R3, R15, R16, R29 to R31, R42). -/

namespace Sys2Proof.Machine

variable {s t u v b : State} {o : OutletId} {cause : TripCause} {x y z : Outlet} {i : Interlock}

/-! ### PLUG and the link -/

/-- An outlet from which the plug is drawn while no session is open or held (R1, R3). -/
def Outlet.unplugged (x : Outlet) : Outlet :=
  match x.state with
  | .cabled => x.entered .vacant
  | .announced => ({ x with announcement := none } : Outlet).entered .vacant
  | _ => x

theorem State.outlet_movePlug (s : State) (o : OutletId) : (s.movePlug o false).outlet o = (s.outlet o).unplugged := by
  unfold State.movePlug Outlet.unplugged
  split
  · next h => cases h
  · next hst _ => rw [State.outlet_enter_cases, hst]; rfl
  · next hst _ =>
    rw [State.outlet_enter_cases, State.outlet_modify_self]
    dsimp only
    rw [hst]
    rfl
  · next _ h2 h3 =>
    split
    · next hst => exact (h2 hst rfl).elim
    · next hst => exact (h3 hst rfl).elim
    · rfl

theorem State.movePlug_sheds (s : State) (o : OutletId) :
    Sheds s (s.movePlug o false) ∧ (s.movePlug o false).grants = s.grants := by
  unfold State.movePlug
  split
  · exact ⟨.of_enter s o _, s.grants_enter o _⟩
  · exact ⟨.of_enter s o _, s.grants_enter o _⟩
  · exact ⟨.trans (.of_same fun _ => rfl) (.of_enter _ o _), State.grants_enter _ o _⟩
  · exact ⟨.of_same fun _ => rfl, rfl⟩

theorem State.movePlug_of_not (h : (s.outlet o).state.within .vacant .announced = false) : s.movePlug o false = s := by
  unfold State.movePlug
  split
  · next h => cases h
  · next hst _ => rw [hst] at h; cases h
  · next hst _ => rw [hst] at h; cases h
  · rfl

/-- The loss of a link in a state that it does not move. -/
theorem State.linkDown_eq (h1 : (s.outlet o).state ≠ .announced) (h2 : (s.outlet o).state ≠ .synchronising)
    (h3 : (s.outlet o).state ≠ .transferIn) :
    s.linkDown o .plug = s.modify o (·.linkLost (s.outlet o).link.up) := by
  unfold State.linkDown
  cases hup : (s.outlet o).link.up with
  | false => exact (State.modify_self s o).symm
  | true =>
    have hst : ((s.modifyLink o fun l => l.goDown .plug).modifyHandover o fun h => { h with shipStatus := none }).outlet
        o = (s.outlet o).linkLost true := by
      rw [State.modifyHandover, State.modifyLink, State.modify_modify, State.outlet_modify_self]
      rfl
    simp only [if_true, State.takeLinkDown]
    split
    · next e => rw [hst] at e; exact (h1 e).elim
    · next e => rw [hst] at e; exact (h2 e).elim
    · next e => rw [hst] at e; exact (h3 e).elim
    · rw [State.modifyHandover, State.modifyLink, State.modify_modify]
      rfl

/-! ### The loss of an input -/

/-- What the unit does with an outlet at the loss of one of its inputs, before it reports (R30). -/
def Outlet.lostInput (x : Outlet) (i : Interlock) : Outlet :=
  { x.lossOpened with interlocks := x.interlocks.set i false }

/-- The trip cause that the loss of an outlet's input carries (R29). -/
def tripCauseOf (i : Interlock) : TripCause := if i = .estop then .estop else .interlock

theorem tripCauseOf_spec (i : Interlock) :
    (tripCauseOf i).byController = false ∧ (tripCauseOf i).commandsBoth = false := by
  cases i <;> decide

theorem State.changeInput_lost (hsound : s.sound = true) (hi : (s.outlet o).interlocks.get i = true) :
    s.changeInput o i false =
      let w := (s.modify o (·.lostInput i)).trip o (tripCauseOf i)
      if i = .plug then (w.movePlug o false).linkDown o .plug else w := by
  have hx := (State.protected_of_sound hsound (M := False) False.elim).outlet o
  have hopen : (s.modify o fun x => { x with interlocks := x.interlocks.set i false }).openOnLoss o =
      s.modify o (·.lostInput i) := by
    rw [State.openOnLoss_eq (by rw [State.outlet_modify_self]; exact hx.unwanted_closing), State.modify_modify]
    rfl
  have hcause : lossCause (.ofOutlet o i) = (tripCauseOf i) := by cases i <;> rfl
  simp only [State.changeInput, hi, Bool.true_eq_false, if_false, Bool.false_eq_true, State.deliverInterlock, hopen, hcause]

/-- An outlet after its controller and its link have taken the loss of the input. -/
def Outlet.afterLoss (z : Outlet) (i : Interlock) : Outlet :=
  if i = .plug then z.unplugged.linkLost z.link.up else z

theorem Outlet.unplugged_frame (z : Outlet) : z.unplugged.sb = z.sb ∧ z.unplugged.pb = z.pb ∧
    z.unplugged.interlocks = z.interlocks ∧ z.unplugged.link = z.link ∧ z.unplugged.session = z.session ∧
      (z.unplugged.state = z.state ∨ z.unplugged.state = .vacant) ∧ z.unplugged.state ≠ .announced := by
  unfold Outlet.unplugged
  split
  · exact ⟨rfl, rfl, rfl, rfl, rfl, .inr rfl, nofun⟩
  · exact ⟨rfl, rfl, rfl, rfl, rfl, .inr rfl, nofun⟩
  · next h1 h2 => exact ⟨rfl, rfl, rfl, rfl, rfl, .inl rfl, h2⟩

theorem Outlet.linkLost_unit (z : Outlet) (down : Bool) : (z.linkLost down).sb = z.sb ∧ (z.linkLost down).pb = z.pb ∧
    (z.linkLost down).interlocks = z.interlocks ∧ (z.linkLost down).state = z.state ∧
      (z.linkLost down).session = z.session ∧ (z.linkLost down).announcement = z.announcement := by
  cases down <;> exact ⟨rfl, rfl, rfl, rfl, rfl, rfl⟩

theorem Outlet.afterLoss_frame (z : Outlet) (i : Interlock) : (z.afterLoss i).sb = z.sb ∧ (z.afterLoss i).pb = z.pb ∧
    (z.afterLoss i).interlocks = z.interlocks ∧ (z.afterLoss i).session = z.session ∧
      ((z.afterLoss i).state = z.state ∨ (z.afterLoss i).state = .vacant) := by
  unfold Outlet.afterLoss
  split
  · obtain ⟨h1, h2, h3, _, h5, h6, _⟩ := z.unplugged_frame
    obtain ⟨k1, k2, k3, k4, k5, _⟩ := z.unplugged.linkLost_unit z.link.up
    exact ⟨k1.trans h1, k2.trans h2, k3.trans h3, k5.trans h5, by rw [k4]; exact h6⟩
  · exact ⟨rfl, rfl, rfl, rfl, .inl rfl⟩

/-- What the act of a loss leaves (R29, R30), with the requests of the outlet gone. -/
theorem State.changeInput_releases (hsound : s.sound = true) (hi : (s.outlet o).interlocks.get i = true) :
    Releases o s (s.changeInput o i false) ∧
      ∃ z, ((s.outlet o).lostInput i).Takes (tripCauseOf i) z ∧ (s.changeInput o i false).outlet o = z.afterLoss i := by
  have hacts := s.actsAt_changeInput o i false
  have hact := State.changeInput_lost hsound hi
  generalize hb : s.modify o (·.lostInput i) = b at hact
  have hbo : b.outlet o = (s.outlet o).lostInput i := by rw [← hb, State.outlet_modify_self]
  have htakes := State.takes_trip (tripCauseOf_spec i).1 b o
  obtain ⟨hsheds, _, hreq⟩ := State.trip_sheds (tripCauseOf_spec i).1 b o
  have hreq := hreq fun h1 h2 => by
    rw [hbo] at h1 h2
    rw [← hb]
    show ∀ r ∈ s.grants, r.outlet ≠ o
    exact State.no_request_of_sound hsound h1 h2
  have hsheds : Sheds s (b.trip o (tripCauseOf i)) := .trans (hb ▸ .of_same fun _ => rfl) hsheds
  rw [hbo] at htakes
  obtain ⟨_, _, _, _, _, htransfer, hsync, _⟩ := htakes.spec (tripCauseOf_spec i).2
  dsimp only at hact
  generalize b.trip o (tripCauseOf i) = w at hact htakes hsheds hreq htransfer hsync
  rw [hact] at hacts ⊢
  by_cases hp : i = .plug
  · rw [if_pos hp] at hacts ⊢
    obtain ⟨hsheds', hgrants⟩ := w.movePlug_sheds o
    have hmo := w.outlet_movePlug o
    obtain ⟨_, _, _, hlink, _, hst, hann⟩ := (w.outlet o).unplugged_frame
    rw [← hmo] at hlink hst hann
    have hne (st : OutletState) (h1 : (w.outlet o).state ≠ st) (h2 : st ≠ .vacant) :
        ((w.movePlug o false).outlet o).state ≠ st := fun e => by
      rcases hst with k | k
      · exact h1 (k.symm.trans e)
      · exact h2 (e.symm.trans k)
    rw [State.linkDown_eq hann (hne _ hsync (by decide))
      (hne _ (fun e => by rw [e] at htransfer; cases htransfer) (by decide))] at hacts ⊢
    refine ⟨⟨hacts, (hsheds.trans hsheds').trans (.of_same fun _ => rfl), fun r hr => hreq r (hgrants ▸ hr)⟩, w.outlet o,
      htakes, ?_⟩
    rw [State.outlet_modify_self, hlink, hmo, Outlet.afterLoss, if_pos hp]
  · rw [if_neg hp] at hacts ⊢
    exact ⟨⟨hacts, hsheds, hreq⟩, w.outlet o, htakes, by rw [Outlet.afterLoss, if_neg hp]⟩

end Sys2Proof.Machine
end

section
/-! What the end of the event leaves at the loss of an outlet's own interlock. -/

namespace Sys2Proof.Machine

variable {s t u v b : State} {o : OutletId} {cause : TripCause} {x y z : Outlet} {i : Interlock}

/-! ### The breakers and the lock (R30, R31, R42) -/

/-- The unit's own opening, by the state of each channel. -/
theorem Outlet.openedOnLoss_of (hsb : y.sb = x.sb.requestOpen) (hpb : y.pb = x.pb.openOnLoss) :
    x.openedOnLoss y = true := by
  unfold Outlet.openedOnLoss
  rw [hsb, hpb, Bool.and_eq_true]
  constructor
  · unfold ShoreBreaker.requestOpen
    cases hc : x.sb.channel <;> simp [sbOpenTime, ms]
  · unfold ParallelBreaker.openOnLoss ParallelBreaker.startTrip
    cases hc : x.pb.channel <;> cases hf : x.pb.feedback <;> simp [tripTime, ms]

/-- Under the lock no close command, no close pulse and no WINDOW is left. -/
theorem State.locked (hsb : (t.outlet o).sb = x.sb.requestOpen) (hpb : (t.outlet o).pb = x.pb.openOnLoss)
    (hl : (t.outlet o).interlocks.made t.estopAllMade = false) :
    t.sbCommand o = false ∧ t.pbClose o = false ∧ t.window o = false := by
  obtain ⟨h1, h2⟩ := x.sb.requestOpen_channel
  refine ⟨State.sbCommand_of (hsb ▸ h1) (hsb ▸ h2), ?_, ?_⟩
  · rw [← Bool.not_eq_true, t.pbClose_iff, hpb]
    exact x.pb.openOnLoss_channel
  · rw [State.window, t.blocking_isNone, hl, Bool.and_false]

theorem Interlocks.made_set_false (l : Interlocks) (i : Interlock) (e : Bool) : (l.set i false).made e = false := by
  cases i <;> simp [Interlocks.set, Interlocks.made]

/-! ### The end of the event -/

/-- What the loss of an outlet's own interlock leaves: the outlet as its controller and its link have taken it. -/
structure Loses (o : OutletId) (i : Interlock) (s t : State) : Prop where
  outlet : ∃ z, ((s.outlet o).lostInput i).Takes (tripCauseOf i) z ∧
    t.outlet o = { z.afterLoss i with limit := (t.outlet o).limit, reference := (t.outlet o).reference }
  others : t.leavesOthers s o = true
  follows : t.follows s = true

theorem exec_loss (hs : s.ready = true) (hsound : s.sound = true) (hi : (s.outlet o).interlocks.get i = true) :
    exec (.interlockChange (.ofOutlet o i) false) s = .next (s.changeInput o i false).finish ∧
      (s.changeInput o i false).noneEnds ∧ Releases o s (s.changeInput o i false) ∧
        Loses o i s (s.changeInput o i false).finish := by
  obtain ⟨hrel, z, htakes, huo⟩ := State.changeInput_releases hsound hi
  obtain ⟨hsb, _, _, hsup, _, _, _, hde⟩ := htakes.spec (tripCauseOf_spec i).2
  obtain ⟨ksb, _, _, _, hst⟩ := z.afterLoss_frame i
  have hends : (s.changeInput o i false).endsNow o = false := by
    by_cases hd : ((s.changeInput o i false).outlet o).state = .deEnergising
    · have hd' : (s.outlet o).state = .deEnergising := by
        rw [huo] at hd
        exact hde (hst.elim (fun k => k.symm.trans hd) fun k => OutletState.noConfusion (k.symm.trans hd))
      obtain ⟨h1, h2⟩ := State.sb_of_deEnergising hs hd'
      obtain ⟨h1, h2⟩ := ShoreBreaker.requestOpen_closed h1 h2
      refine State.endsNow_of_closed ?_ ?_
      · rw [huo, ksb, hsb]; exact h1
      · rw [huo, ksb, hsb]; exact h2
    · exact State.endsNow_of_state hd
  obtain ⟨hrests, _, hleaves, hfollows⟩ := hrel.finish hs (State.queued_of_sound hsound) (State.freeApart_of_sound hsound)
    (by rw [huo]; rcases hst with k | k <;> rw [k]; exacts [hsup, rfl]) hends
  refine ⟨atEvent_of_running (s.ready_iff.1 hs).1, hrel.noneEnds hs hends, hrel, ⟨z, htakes, ?_⟩, hleaves, hfollows⟩
  rw [← huo]
  exact hrests.outlet

/-- The breakers, and the interlocks that hold them, after the loss. -/
theorem Loses.unit (h : Loses o i s t) : (t.outlet o).sb = (s.outlet o).sb.requestOpen ∧
    (t.outlet o).pb = (s.outlet o).pb.openOnLoss ∧
      (t.outlet o).interlocks = (s.outlet o).interlocks.set i false := by
  obtain ⟨z, htakes, hto⟩ := h.outlet
  obtain ⟨h1, h2, h3, _⟩ := htakes.spec (tripCauseOf_spec i).2
  obtain ⟨k1, k2, k3, _⟩ := z.afterLoss_frame i
  rw [hto]
  exact ⟨k1.trans h1, k2.trans h2, k3.trans h3⟩

/-! ### By the state of the outlet -/

theorem Outlet.afterLoss_of_not (h : z.state.within .vacant .announced = false) (i : Interlock) :
    z.afterLoss i = z.linkLost (decide (i = .plug) && z.link.up) := by
  have hun : z.unplugged = z := by
    unfold Outlet.unplugged
    split
    · next e => rw [e] at h; cases h
    · next e => rw [e] at h; cases h
    · rfl
  unfold Outlet.afterLoss
  split
  · next hi => rw [hun, decide_eq_true hi, Bool.true_and]
  · next hi => rw [decide_eq_false hi, Bool.false_and]; rfl

/-- The whole of R15 (R29). -/
theorem State.changeInput_trips (hsound : s.sound = true) (hi : (s.outlet o).interlocks.get i = true)
    (hw : (s.outlet o).state.within .admitted .separating = true) :
    ∃ down, s.changeInput o i false =
      ((s.modify o (·.lostInput i)).trip o (tripCauseOf i)).modify o (·.linkLost down) := by
  have hact := State.changeInput_lost hsound hi
  have hbo := s.outlet_modify_self o (·.lostInput i)
  generalize s.modify o (·.lostInput i) = b at hact hbo
  have hst : ((b.trip o (tripCauseOf i)).outlet o).state = .tripped := by
    obtain ⟨_, _, ref, l, e, _⟩ := State.trip_spec (s := b) (o := o) (cause := tripCauseOf i) (by rw [hbo]; exact hw)
    rw [e, Outlet.tripped_eq]
    rfl
  dsimp only at hact
  generalize b.trip o (tripCauseOf i) = w at hact hst
  by_cases hp : i = .plug
  · rw [if_pos hp, State.movePlug_of_not (by rw [hst]; rfl), State.linkDown_eq (by rw [hst]; decide) (by rw [hst]; decide)
      (by rw [hst]; decide)] at hact
    exact ⟨_, hact⟩
  · rw [if_neg hp] at hact
    exact ⟨false, hact.trans (State.modify_self w o).symm⟩

/-- A session state trips at the loss, and STATE_CHANGED is raised once (R15, R29). -/
theorem exec_loss_trips (hs : s.ready = true) (hsound : s.sound = true) (hi : (s.outlet o).interlocks.get i = true)
    (hw : (s.outlet o).state.within .admitted .separating = true) :
    (s.changeInput o i false).finish.hasTripped s o (tripCauseOf i) = true ∧
      (s.changeInput o i false).finish.hasRaised s o .stateChanged = true := by
  obtain ⟨_, hnone, hrel, _⟩ := exec_loss hs hsound hi
  have hcount := State.count_finish hrel.requests hnone (e := .stateChanged) (by decide)
  obtain ⟨down, hact⟩ := State.changeInput_trips hsound hi hw
  have hbo := s.outlet_modify_self o (·.lostInput i)
  have hstatus : (s.modify o (·.lostInput i)).status = s.status := rfl
  have hacts := s.actsAt_modify o (·.lostInput i)
  have hsheds : Sheds s (s.modify o (·.lostInput i)) := .of_same fun _ => rfl
  rw [hact] at hcount ⊢
  generalize s.modify o (·.lostInput i) = b at hbo hstatus hacts hsheds hcount
  have hbw : (b.outlet o).state.within .admitted .separating = true := by rw [hbo]; exact hw
  obtain ⟨⟨ref, l, hto, hl⟩, hgroup, hreq, _, hfollows⟩ := State.trip_finish (cause := tripCauseOf i) hs
    (State.queued_of_sound hsound) (State.freeApart_of_sound hsound) hacts hsheds hbw down
  refine ⟨State.hasTripped_of hto (by rw [hbo]; rfl) (by rw [hbo]; rfl) (by rw [hbo] at hl; exact hl) hgroup hreq
    (State.follows_iff.1 hfollows).1, State.hasRaised_of_count ?_⟩
  rw [hcount, ← hstatus]
  exact (State.count_trip (tripCauseOf_spec i).2 hbw (by decide)).trans (if_pos rfl)

/-- In DE_ENERGISING and TRIPPED the loss is a further trip (R16). -/
theorem Loses.notes (h : Loses o i s t) (hst : (s.outlet o).state = .deEnergising ∨ (s.outlet o).state = .tripped) :
    (t.outlet o).state = (s.outlet o).state ∧ t.hasNoted s o (tripCauseOf i) = true := by
  obtain ⟨z, htakes, hto⟩ := h.outlet
  obtain ⟨l, e, hl⟩ := htakes.of_ending hst
  have hz : z.state = (s.outlet o).state := by rw [e]; rfl
  rw [Outlet.afterLoss_of_not (by rw [hz]; rcases hst with k | k <;> rw [k] <;> rfl)] at hto
  generalize (decide (i = .plug) && z.link.up) = down at hto
  obtain ⟨_, _, _, k4, k5, _⟩ := z.linkLost_unit down
  have hnoticed : (s.outlet o).link.noticed z.link (tripCauseOf i) := by rw [e]; exact hl
  refine ⟨by rw [hto]; exact k4.trans hz, State.hasNoted_of_link ?_ ?_⟩
  · rw [hto]
    exact k5.trans (by rw [e]; rfl)
  · rw [hto]
    exact ShipLink.noticed.linkLost hnoticed down

/-- Without a session the controller takes no trip (R29). -/
theorem Loses.stands (h : Loses o i s t)
    (hst : (s.outlet o).state.within .vacant .announced = true ∨ (s.outlet o).state = .held) :
    t.outlet o = { ((s.outlet o).lostInput i).afterLoss i with
      limit := (t.outlet o).limit, reference := (t.outlet o).reference } := by
  obtain ⟨z, htakes, hto⟩ := h.outlet
  rw [← htakes.of_unopened hst]
  exact hto

/-- In HELD, and at any loss but PLUG's, the outlet stays in its state (R1, R29). -/
theorem Outlet.afterLoss_stands (h : y.state = .held ∨ i ≠ .plug) :
    (y.afterLoss i).state = y.state ∧ (y.afterLoss i).announcement = y.announcement := by
  by_cases hi : i = .plug
  · have hst := h.resolve_right (not_not_intro hi)
    rw [Outlet.afterLoss_of_not (by rw [hst]; rfl)]
    obtain ⟨_, _, _, h4, _, h6⟩ := y.linkLost_unit (decide (i = .plug) && y.link.up)
    exact ⟨h4, h6⟩
  · rw [Outlet.afterLoss, if_neg hi]
    exact ⟨rfl, rfl⟩

/-- The plug drawn while no session is open or held (R1, R3). -/
theorem Outlet.afterLoss_vacant (h : y.state.within .vacant .announced = true) :
    (y.afterLoss .plug).state = .vacant ∧ (y.state = .cabled ∨ y.state = .announced →
      (y.afterLoss .plug).announcement = if y.state = .announced then none else y.announcement) := by
  obtain ⟨_, _, _, h4, _, h6⟩ := y.unplugged.linkLost_unit y.link.up
  rw [Outlet.afterLoss, if_pos rfl, h4, h6]
  unfold Outlet.unplugged
  cases hst : y.state with
  | vacant => exact ⟨hst, fun k => by rcases k with k | k <;> cases k⟩
  | cabled => exact ⟨rfl, fun _ => rfl⟩
  | announced => exact ⟨rfl, fun _ => rfl⟩
  | _ => rw [hst] at h; exact absurd h (by decide)

/-- The link after a PLUG loss (R29). -/
theorem Loses.link (h : Loses o .plug s t) : (t.outlet o).link.up = false ∧ ((s.outlet o).link.up = true →
    (t.outlet o).link.lastDown = some .plug ∧ (t.outlet o).link.fifo = [] ∧ (t.outlet o).link.queue = []) := by
  obtain ⟨z, htakes, hto⟩ := h.outlet
  have hup : z.link.up = (s.outlet o).link.up := by
    cases htakes with
    | trips ref l _ e hl => rw [e]; exact hl.1
    | notes l _ e hl => rw [e]; exact hl.1
    | stands _ e => rw [e]; rfl
  have hlink : (z.afterLoss .plug).link = if z.link.up then z.link.goDown .plug else z.link := by
    obtain ⟨_, _, _, k, _⟩ := z.unplugged_frame
    rw [Outlet.afterLoss, if_pos rfl, ← k]
    cases z.unplugged.link.up <;> rfl
  rw [hto]
  dsimp only
  rw [hlink, ← hup]
  cases hz : z.link.up with
  | false => exact ⟨hz, nofun⟩
  | true => exact ⟨rfl, fun _ => ⟨rfl, rfl, rfl⟩⟩

end Sys2Proof.Machine
end

section
/-! The loss of ESTOP_ALL (R29, R30): the unit opens the breakers of the three channels, and the three controllers take it
in turn. -/

namespace Sys2Proof.Machine

variable {s t u v b : State} {o : OutletId} {cause : TripCause} {x y z : Outlet}

/-! ### Three trips -/

/-- The state in which an outlet takes its turn in the order A, B, C: the others' turns touch neither the outlet nor its
requests, and shed modules at most. -/
theorem State.turn_of_trips (hc : cause.byController = false) (b : State) (o : OutletId) :
    ∃ p : State, p.outlet o = b.outlet o ∧
      (allOutlets.foldl (fun s o => s.trip o cause) b).outlet o = (p.trip o cause).outlet o ∧
      Sheds b p ∧ Sheds (p.trip o cause) (allOutlets.foldl (fun s o => s.trip o cause) b) ∧
      (∀ r ∈ p.grants, r ∈ b.grants) ∧
      ∀ r ∈ (allOutlets.foldl (fun s o => s.trip o cause) b).grants, r ∈ (p.trip o cause).grants := by
  have e : allOutlets.foldl (fun s o => s.trip o cause) b = ((b.trip .a cause).trip .b cause).trip .c cause := rfl
  rw [e]
  have other (p : State) {o q : OutletId} (h : o ≠ q) : (p.trip q cause).outlet o = p.outlet o :=
    (p.actsAt_trip q cause).outlets o h
  have sheds (p : State) (q : OutletId) := (State.trip_sheds hc p q).1
  have grants (p : State) (q : OutletId) := (State.trip_sheds hc p q).2.1
  have refl (p : State) : Sheds p p := .of_same fun _ => rfl
  cases o with
  | a =>
    exact ⟨b, rfl, by rw [other _ (by decide), other _ (by decide)], refl b, (sheds _ .b).trans (sheds _ .c),
      fun _ h => h, fun r h => grants _ .b r (grants _ .c r h)⟩
  | b =>
    exact ⟨b.trip .a cause, other _ (by decide), by rw [other _ (by decide)], sheds b .a, sheds _ .c, grants b .a,
      grants _ .c⟩
  | c =>
    exact ⟨(b.trip .a cause).trip .b cause, by rw [other _ (by decide), other _ (by decide)], rfl,
      (sheds b .a).trans (sheds _ .b), refl _, fun r h => grants b .a r (grants _ .b r h), fun _ h => h⟩

/-- What three trips leave: each outlet as it has taken the cause, with its request taken back and its group stopped where
it tripped, and the common parts as they were. -/
structure TripsAll (cause : TripCause) (b u : State) : Prop where
  takes : ∀ o, (b.outlet o).Takes cause (u.outlet o)
  group : ∀ o, (b.outlet o).state.within .admitted .separating = true → u.group o = []
  grants : u.grants = []
  sheds : Sheds b u
  common : u.common = b.common

theorem State.tripsAll (hc : cause.byController = false) (h : ∀ o, (b.outlet o).state ≠ .admitted →
    (b.outlet o).state.supplied = false → ∀ r ∈ b.grants, r.outlet ≠ o) :
    TripsAll cause b (allOutlets.foldl (fun s o => s.trip o cause) b) := by
  refine ⟨fun o => ?_, fun o hw => ?_, List.eq_nil_iff_forall_not_mem.2 fun r hr => ?_, ?_, ?_⟩
  · obtain ⟨p, hp, hu, _⟩ := State.turn_of_trips hc b o
    rw [← hp, hu]
    exact State.takes_trip hc p o
  · obtain ⟨p, hp, _, _, hsheds, _⟩ := State.turn_of_trips hc b o
    obtain ⟨_, hgroup, _⟩ := State.trip_spec (s := p) (o := o) (cause := cause) (by rw [hp]; exact hw)
    exact hsheds.group_nil hgroup
  · obtain ⟨p, hp, _, _, _, hback, hon⟩ := State.turn_of_trips hc b r.outlet
    refine (State.trip_sheds hc p r.outlet).2.2 (fun h1 h2 k hk => ?_) r (hon r hr) rfl
    rw [hp] at h1 h2
    exact h r.outlet h1 h2 k (hback k hk)
  · obtain ⟨p, _, _, hto, hfrom, _⟩ := State.turn_of_trips hc b .a
    exact (hto.trans (State.trip_sheds hc p .a).1).trans hfrom
  · exact ((State.actsAt_trip _ .c cause).common.trans (State.actsAt_trip _ .b cause).common).trans
      (b.actsAt_trip .a cause).common

/-! ### The event -/

/-- The act of a loss of ESTOP_ALL. -/
theorem State.changeEstopAll_lost (hsound : s.sound = true) (h : s.estopAllMade = true) :
    ∃ b, (∀ o, b.outlet o = (s.outlet o).lossOpened) ∧ b = { s with estopAllMade := false, outlets := b.outlets } ∧
      s.changeEstopAll false = allOutlets.foldl (fun s o => s.trip o .estopAll) b := by
  have hx (o : OutletId) := (State.protected_of_sound hsound (M := False) False.elim).outlet o
  obtain ⟨hout, hframe⟩ := State.outlet_openAll (s := { s with estopAllMade := false })
    fun o => (hx o).unwanted_closing
  refine ⟨_, hout, hframe, ?_⟩
  simp only [State.changeEstopAll, h, Bool.true_eq_false, if_false, Bool.false_eq_true, State.deliverInterlock]
  rfl

/-- What the loss of ESTOP_ALL leaves. -/
structure LosesAll (s t : State) : Prop where
  takes : ∀ o, ∃ z, (s.outlet o).lossOpened.Takes .estopAll z ∧
    t.outlet o = { z with limit := (t.outlet o).limit, reference := (t.outlet o).reference }
  trips : ∀ o, (s.outlet o).state.within .admitted .separating = true → t.hasTripped s o .estopAll = true
  common : t.common = { s.common with estopAllMade := false }
  follows : t.follows s = true

/-- In DE_ENERGISING and TRIPPED the loss is a further trip (R16). -/
theorem LosesAll.notes (h : LosesAll s t) (o : OutletId)
    (hst : (s.outlet o).state = .deEnergising ∨ (s.outlet o).state = .tripped) :
    (t.outlet o).state = (s.outlet o).state ∧ t.hasNoted s o .estopAll = true := by
  obtain ⟨z, htakes, hto⟩ := h.takes o
  obtain ⟨l, e, hl⟩ := htakes.of_ending hst
  refine ⟨by rw [hto, e]; rfl, State.hasNoted_of ?_ ?_⟩
  · rw [hto, e]
    rfl
  · rw [hto, e]
    exact hl

theorem LosesAll.stands (h : LosesAll s t) (o : OutletId)
    (hst : (s.outlet o).state.within .vacant .announced = true ∨ (s.outlet o).state = .held) :
    (t.outlet o).state = (s.outlet o).state := by
  obtain ⟨z, htakes, hto⟩ := h.takes o
  rw [hto, htakes.of_unopened hst]
  rfl

theorem exec_estopAllLost (hs : s.ready = true) (hsound : s.sound = true) (h : s.estopAllMade = true) :
    ∃ t, exec (.interlockChange .estopAll false) s = .next t ∧ LosesAll s t := by
  obtain ⟨b, hbo, hframe, hact⟩ := State.changeEstopAll_lost hsound h
  have hbg : b.grants = s.grants := by rw [hframe]
  have hbm (m : Fin 8) : b.module m = s.module m := by rw [hframe]; rfl
  have hbc : b.common = ({ s with estopAllMade := false } : State).common := by rw [hframe]; rfl
  obtain ⟨htakes, hgroup, hgrants, hsheds, hcommon⟩ := State.tripsAll (b := b) (cause := .estopAll) rfl
    fun o h1 h2 => by
      rw [hbo] at h1 h2
      rw [hbg]
      exact State.no_request_of_sound hsound h1 h2
  rw [← hact] at htakes hgroup hgrants hsheds hcommon
  refine ⟨_, atEvent_of_running (s.ready_iff.1 hs).1, ?_⟩
  show LosesAll s (s.changeEstopAll false).finish
  generalize s.changeEstopAll false = u at htakes hgroup hgrants hsheds hcommon
  simp only [hbo] at htakes hgroup
  have hsb (o : OutletId) := (htakes o).spec (cause := .estopAll) rfl
  have hnone : u.noneEnds := fun o => by
    obtain ⟨k1, _, _, _, _, _, _, kd⟩ := hsb o
    by_cases hd : (u.outlet o).state = .deEnergising
    · obtain ⟨h1, h2⟩ := State.sb_of_deEnergising hs (kd hd)
      obtain ⟨h1, h2⟩ := ShoreBreaker.requestOpen_closed h1 h2
      exact State.endsNow_of_closed (by rw [k1]; exact h1) (by rw [k1]; exact h2)
    · exact State.endsNow_of_state hd
  have hfree : u.freeApart := ((State.freeApart_of_module (State.freeApart_of_sound hsound) hbm).sheds hsheds)
  have hrests (o : OutletId) : Rests o u u.finish := by
    obtain ⟨_, _, _, hsup, _⟩ := hsb o
    exact State.rests_finish ⟨hsup, by rw [hgrants]; nofun⟩ hfree hnone
  have hqueued : u.queued := ⟨by rw [hgrants]; exact List.nodup_nil, by rw [hgrants]; nofun⟩
  have hcom : u.finish.common = ({ s with estopAllMade := false } : State).common :=
    (u.answers_finish hqueued hnone).common.trans (hcommon.trans hbc)
  have hrun : u.phase = .running :=
    (State.common_fields (hcommon.trans hbc)).1.trans (s.ready_iff.1 hs).1
  obtain ⟨_, _, _, _, _, _, _, _, _, _, _, _, _, _, _, _, hset⟩ := State.common_fields hcom
  have hfollows : u.finish.follows s = true := State.follows_iff.2 ⟨State.finish_stated hrun, hset⟩
  refine ⟨fun o => ⟨u.outlet o, htakes o, (hrests o).outlet⟩, fun o hw => ?_, hcom, hfollows⟩
  obtain ⟨ref, l, e, hl⟩ := (htakes o).of_session hw
  have hlimit : (u.outlet o).limit = 0 := by
    rw [e, Outlet.tripped_eq]
    rfl
  have hto := ((hrests o).idle (hgroup o hw) hlimit).trans e
  exact State.hasTripped_of (down := false) hto rfl rfl hl ((hrests o).group.trans (hgroup o hw))
    (State.request_none fun r hr => by
      have := (hrests o).grants r hr
      rw [hgrants] at this
      cases this) (State.follows_iff.1 hfollows).1

end Sys2Proof.Machine

open Sys2Proof.Machine in
/-- Settles O29: what the act of a loss leaves of an outlet, by its state (`Outlet.Takes`), and of PLUG and the link
(`Outlet.afterLoss`); the end of the event keeps it, for the outlet rests. -/
theorem interlockLossOpensAndTrips : Obligations.InterlockLossOpensAndTrips := by
  refine ⟨fun s hs hsound => ⟨fun o i hi => ?single, fun he => ?all⟩, fun s hs hsound hacc =>
    ⟨fun o i hi => ?singleTrips, fun he => ?allTrip⟩⟩
  case single =>
    obtain ⟨e, _, _, h⟩ := exec_loss hs hsound hi
    obtain ⟨hsb, hpb, hlocks⟩ := h.unit
    obtain ⟨h1, h2, h3⟩ := State.locked hsb hpb (by rw [hlocks]; exact Interlocks.made_set_false _ _ _)
    exact ⟨_, e, hlocks, Outlet.openedOnLoss_of hsb hpb, h1, h2, h3, h.others, h.follows⟩
  case all =>
    obtain ⟨t, e, h⟩ := exec_estopAllLost hs hsound he
    have hestop : t.estopAllMade = false := (congrArg State.estopAllMade h.common :)
    refine ⟨t, e, hestop, fun o => ?_, h.common, h.follows⟩
    obtain ⟨z, htakes, hto⟩ := h.takes o
    obtain ⟨hsb, hpb, hlocks, _⟩ := htakes.spec (cause := .estopAll) rfl
    have hsb' : (t.outlet o).sb = (s.outlet o).sb.requestOpen := by rw [hto]; exact hsb
    have hpb' : (t.outlet o).pb = (s.outlet o).pb.openOnLoss := by rw [hto]; exact hpb
    exact ⟨by rw [hto]; exact hlocks, Outlet.openedOnLoss_of hsb' hpb',
      State.locked hsb' hpb' (by rw [hestop, Interlocks.made, Bool.and_false])⟩
  case singleTrips =>
    intro st cause
    obtain ⟨e, _, _, h⟩ := exec_loss hs hsound hi
    refine ⟨_, e, exec_loss_trips hs hsound hi, h.notes, fun hst => ?_, fun hst hp => ?_, fun hp => ?_⟩
    · have hnone : st.within .vacant .announced = true ∨ st = .held := hst.symm.imp_left And.left
      have hto := h.stands hnone
      obtain ⟨hstate, hann⟩ := Outlet.afterLoss_stands (y := (s.outlet o).lostInput i) (hst.imp id And.right)
      refine ⟨by rw [hto]; exact hstate, ?_, by rw [hto]; exact hann⟩
      rw [hto]
      refine (Outlet.afterLoss_frame _ i).2.2.2.1.trans (Option.not_isSome_iff_eq_none.1 fun k => ?_)
      have hin := (State.session_of_accounts (s.ready_iff.1 hs).1 hacc o).symm.trans k
      exact absurd hin (OutletState.trip_of_unopened hnone).2.2
    · subst hp
      have hto := h.stands (.inl hst)
      obtain ⟨hstate, hann⟩ := Outlet.afterLoss_vacant (y := (s.outlet o).lostInput .plug) hst
      exact ⟨by rw [hto]; exact hstate, fun k => by rw [hto]; exact hann k⟩
    · subst hp
      exact h.link
  case allTrip =>
    obtain ⟨t, e, h⟩ := exec_estopAllLost hs hsound he
    exact ⟨t, e, fun o => ⟨h.trips o, h.notes o, h.stands o⟩⟩

end

section
/-! The end of an event at which no session closes, stage by stage, and what it leaves of an outlet that waits for no
first grant (R11, R52, R55, R56). -/

namespace Sys2Proof.Machine

variable {s t u : State} {o q : OutletId} {m : Fin 8} {r : Request} {rest : List Request} {ms : List (Fin 8)}

/-! ### Stage by stage -/

/-- What each stage of the allocator's answer keeps, the answer keeps (R52, R55, R56). -/
theorem State.reallocate_induction {P : State → Prop} (limit : ∀ a o, P a → P (a.recomputeLimit o))
    (grant : ∀ (a : State) r rest ms, a.grants = r :: rest → a.grantable r = some ms → P a → P (a.grant r rest ms))
    (budget : ∀ (a : State) b, P a → P { a with budgetOver := b }) (hs : P s) : P s.reallocate := by
  have limits (a : State) (h : P a) : P a.recomputeLimits := limit _ _ (limit _ _ (limit _ _ h))
  have examine (n : Nat) (a : State) (h : P a) : P (a.examine n) := by
    induction n generalizing a with
    | zero => exact h
    | succ n ih =>
      simp only [State.examine]
      split
      · exact h
      · next hg =>
        split
        · exact h
        · next hm => exact ih _ (grant _ _ _ _ hg hm h)
  have settle (a : State) (h : P a) : P a.settleBudget := by
    simp only [State.settleBudget]
    split
    · exact limits _ (budget _ _ h)
    · exact budget _ _ h
  exact settle _ (examine _ _ (limits _ hs))

/-- Where no session closes, the end of an event is the allocator's answer, the ends of PREPARE and the owners' reports. -/
theorem State.finish_of_noneEnds (hp : s.phase = .running) (he : s.noneEnds) :
    s.finish = (((s.reallocate.endPrepare .a).endPrepare .b).endPrepare .c).reportAll := by
  rw [State.finish, whenRunning_of_running hp, State.settle, State.completeEnd_of_not (he .a),
    State.completeEnd_of_not (he .b), State.completeEnd_of_not (he .c)]

/-- What each stage of the end of an event keeps, the end of the event keeps, where no session closes. -/
theorem State.finish_induction {P : State → Prop} (limit : ∀ a o, P a → P (a.recomputeLimit o))
    (grant : ∀ (a : State) r rest ms, a.grants = r :: rest → a.grantable r = some ms → P a → P (a.grant r rest ms))
    (budget : ∀ (a : State) b, P a → P { a with budgetOver := b }) (prepare : ∀ a o, P a → P (a.endPrepare o))
    (status : ∀ (a : State) v, P a → P { a with status := v }) (he : s.noneEnds) (hs : P s) : P s.finish := by
  by_cases hp : s.phase = .running
  · rw [State.finish_of_noneEnds hp he, (State.reportAll_spec _).1]
    exact status _ _ (prepare _ _ (prepare _ _ (prepare _ _ (State.reallocate_induction limit grant budget hs))))
  · rw [State.finish, whenRunning_of_ne hp]
    exact hs

/-! ### An outlet that waits for no first grant -/

/-- Between `s` and `t` an outlet has had its limit recomputed and its PREPARE ended at most. -/
structure Passes (o : OutletId) (s t : State) : Prop where
  requests : ∀ r ∈ t.grants, r ∈ s.grants
  estop : t.estopAllMade = s.estopAllMade
  outlet : t.outlet o = { s.outlet o with
    limit := (t.outlet o).limit, reference := (t.outlet o).reference, link := (t.outlet o).link
    phase := (t.outlet o).phase, sb := (t.outlet o).sb, closeWanted := (t.outlet o).closeWanted }
  prepare : ((t.outlet o).phase = (s.outlet o).phase ∧ (t.outlet o).sb = (s.outlet o).sb) ∨
    ((s.outlet o).phase = some .prepare ∧ (t.outlet o).phase = some .closing ∧
      ((s.outlet o).sb.channel = .opened → s.blocking o = none → (t.outlet o).sb.channel = .closing))

theorem Passes.refl (o : OutletId) (s : State) : Passes o s s := ⟨fun _ h => h, rfl, rfl, .inl ⟨rfl, rfl⟩⟩

/-- A step that moves no more of the outlet than its limit and what follows it. -/
theorem Passes.step (h : Passes o s t) (hr : ∀ r ∈ u.grants, r ∈ t.grants) (he : u.estopAllMade = t.estopAllMade)
    (ho : u.outlet o = { t.outlet o with
      limit := (u.outlet o).limit, reference := (u.outlet o).reference, link := (u.outlet o).link }) :
    Passes o s u := by
  have hph : (u.outlet o).phase = (t.outlet o).phase := by rw [ho]
  have hsb : (u.outlet o).sb = (t.outlet o).sb := by rw [ho]
  refine ⟨fun r k => h.requests r (hr r k), he.trans h.estop, ?_, by rw [hph, hsb]; exact h.prepare⟩
  rw [ho, h.outlet]

theorem Passes.blocking (h : Passes o s t) : t.blocking o = s.blocking o := by
  simp only [State.blocking, h.estop]
  rw [h.outlet]

/-- The end of PREPARE at the outlet (R11, R33). -/
theorem Passes.closes (h : Passes o s t) (hc : t.closesNow o = true) : Passes o s (t.endPrepare o) := by
  obtain ⟨hf, _, hy, hph⟩ := t.endPrepare_spec o
  have hphase : (t.outlet o).phase = some .prepare := by
    simp only [State.closesNow, Bool.and_eq_true, beq_iff_eq] at hc
    exact hc.1.2
  obtain ⟨hprep, hsb⟩ : (s.outlet o).phase = some .prepare ∧ (t.outlet o).sb = (s.outlet o).sb := by
    rcases h.prepare with ⟨h1, h2⟩ | ⟨_, h2, _⟩
    · exact ⟨h1.symm.trans hphase, h2⟩
    · rw [h2] at hphase; cases hphase
  refine ⟨by rw [hf]; exact h.requests, by rw [hf]; exact h.estop, ?_, .inr ⟨hprep, hph hc, fun hch hb => ?_⟩⟩
  · rw [hy, h.outlet]
  · have e : t.endPrepare o = (t.modify o fun x => { x with phase := some .closing }).requestSbClose o := by
      simp only [State.closesNow, Bool.and_eq_true, beq_iff_eq] at hc
      rw [State.endPrepare]
      exact if_pos ⟨hc.1.1, hc.1.2, hc.2⟩
    have hblock : (t.modify o fun x => { x with phase := some .closing }).blocking o = none := by
      rw [State.blocking_modify rfl, h.blocking, hb]
    have hopen : ((t.modify o fun x => { x with phase := some .closing }).outlet o).sb.channel = .opened := by
      rw [State.outlet_modify_self]
      exact (congrArg ShoreBreaker.channel hsb).trans hch
    rw [e, (State.requestSbClose_spec _ o).2.1 hopen hblock]

theorem Passes.endPrepare (h : Passes o s t) (q : OutletId) : Passes o s (t.endPrepare q) := by
  cases hc : t.closesNow q with
  | false => rw [State.endPrepare_of_not hc]; exact h
  | true =>
    by_cases hq : o = q
    · subst hq
      exact h.closes hc
    · obtain ⟨hf, hne, _⟩ := t.endPrepare_spec q
      exact h.step (by rw [hf]; exact fun _ k => k) (by rw [hf]) (by rw [hne o hq])

theorem Passes.recomputeLimit (h : Passes o s t) (q : OutletId) : Passes o s (t.recomputeLimit q) := by
  obtain ⟨hf, hne, _⟩ := t.recomputeLimit_frame q
  refine h.step (by rw [hf]; exact fun _ k => k) (by rw [hf]) ?_
  by_cases hq : o = q
  · subst hq
    obtain ⟨l, _, e⟩ := t.recomputeLimit_self o
    rw [e]
  · rw [hne o hq]

/-- A grant passes over an outlet whose request is no initial one. -/
theorem Passes.grant (h : Passes o s t) (hk : ∀ r ∈ s.grants, r.outlet = o → r.kind = .topUp)
    (hg : t.grants = r :: rest) : Passes o s (t.grant r rest ms) := by
  have hf := t.grant_frame r rest ms
  refine h.step (fun r' hr' => ?_) (by rw [hf]) ?_
  · rw [hf] at hr'
    rw [hg]
    exact List.mem_cons_of_mem _ hr'
  · obtain ⟨hne, htop, _⟩ := t.outlet_grant r rest ms
    by_cases ho : o = r.outlet
    · have := htop (hk r (h.requests r (by rw [hg]; exact List.mem_cons_self)) ho.symm)
      rw [← ho] at this
      rw [this]
    · rw [hne o ho]

/-- The end of an event at which no session closes passes over an outlet whose request is no initial one. -/
theorem State.passes_finish (he : s.noneEnds) (hk : ∀ r ∈ s.grants, r.outlet = o → r.kind = .topUp) :
    Passes o s s.finish :=
  State.finish_induction (P := Passes o s) (fun _ q h => h.recomputeLimit q) (fun _ _ _ _ hg _ h => h.grant hk hg)
    (fun _ _ h => h.step (fun _ k => k) rfl rfl) (fun _ q h => h.endPrepare q)
    (fun _ _ h => h.step (fun _ k => k) rfl rfl) he (.refl o s)

end Sys2Proof.Machine
end

section
/-! The module pool at the end of an event: what a grant adds, when the head of the queue still waits, and how far the
claims can rise (R44, R52 to R56). -/

namespace Sys2Proof.Machine

variable {s t u : State} {o q : OutletId} {m : Fin 8} {r : Request} {rest : List Request} {ms : List (Fin 8)}

/-! ### What a grant adds -/

/-- A figure of the pool that counts no free module and a granted one with its rating rises by the ratings granted. -/
theorem State.sum_grant (rest : List Request) (h : s.grantable r = some ms) (c : Module → Nat) (b : Prop) [Decidable b]
    (hshare : ∀ m : Module, c { m with share := 0 } = c m) (hfree : ∀ m : Module, m.isFree = true → c m = 0)
    (hgrant : ∀ m : Module, c (m.grantTo r.outlet r.kind) = if b then m.rating else 0) :
    (allModules.map fun m => c ((s.grant r rest ms).module m)).sum =
      (allModules.map fun m => c (s.module m)).sum + if b then s.ratings ms else 0 := by
  obtain ⟨hnd, hms, _⟩ := State.grantable_spec h
  have hadd : (if b then s.ratings ms else 0) =
      (allModules.map fun m => if m ∈ ms then (if b then (s.module m).rating else 0) else 0).sum := by
    by_cases hb : b
    · simp only [if_pos hb, State.ratings_eq hnd]
    · simp [hb]
  rw [hadd, ← List.sum_map_add]
  refine congrArg List.sum (List.map_congr_left fun m _ => ?_)
  rw [← hshare, State.grant_module rest hnd, hshare]
  split
  · next hm => rw [hgrant, hfree _ (hms m hm), Nat.zero_add]
  · rw [Nat.add_zero]

theorem State.committed_sum (s : State) (o : OutletId) : s.committed o = (allModules.map fun m =>
    if (s.module m).group = some o ∧ (s.module m).state ∈ committedStates then (s.module m).rating else 0).sum := by
  simp only [State.committed, State.ratings, State.members, State.group, List.filter_filter, sum_map_filter]
  refine congrArg List.sum (List.map_congr_left fun m _ => ?_)
  simp [and_comm]

theorem State.committed_grant (rest : List Request) (h : s.grantable r = some ms) (q : OutletId) :
    (s.grant r rest ms).committed q = s.committed q + if q = r.outlet then s.ratings ms else 0 := by
  rw [State.committed_sum, State.committed_sum]
  refine State.sum_grant rest h (fun m => if m.group = some q ∧ m.state ∈ committedStates then m.rating else 0) _
    (fun _ => rfl) (fun m hm => if_neg ?_) fun m => ?_
  · rw [Module.isFree_off hm]
    rintro ⟨_, hc⟩
    revert hc
    decide
  · simp [Module.grantTo, committedStates, eq_comm]

theorem State.committedUnmarked_grant (rest : List Request) (h : s.grantable r = some ms) (q : OutletId) :
    (s.grant r rest ms).committedUnmarked q = s.committedUnmarked q + if q = r.outlet then s.ratings ms else 0 := by
  rw [State.committedUnmarked_eq, State.committedUnmarked_eq]
  refine State.sum_grant rest h (Module.carries q) _ (fun _ => rfl) (fun m hm => ?_) fun m => ?_
  · refine Module.carries_of_not (.inr (.inl ?_)) q
    rw [Module.isFree_off hm]
    decide
  · simp [Module.carries, Module.grantTo, committedStates, eq_comm]

theorem State.admitted_grant (s : State) (r : Request) (rest : List Request) (ms : List (Fin 8)) (q : OutletId) :
    (s.grant r rest ms).admitted q = s.admitted q := by
  simp only [State.admitted, (s.grant_outlet r rest ms q).2.1]

/-- The modules taken reach what is wanted (R56). -/
theorem State.wanted_le_ratings {l : List (Fin 8)} {n : Nat} (h : s.take l n = some ms) : n ≤ s.ratings ms := by
  induction l generalizing n ms with
  | nil =>
    simp only [State.take] at h
    split at h
    · omega
    · cases h
  | cons k l ih =>
    simp only [State.take] at h
    split at h
    · omega
    · split at h
      · obtain ⟨l', hl', rfl⟩ := Option.map_eq_some_iff.1 h
        have := ih hl'
        simp only [State.ratings, List.map_cons, List.sum_cons] at this ⊢
        omega
      · exact ih h

theorem State.grantable_wanted (h : s.grantable r = some ms) : r.wanted ≤ s.ratings ms := by
  simp only [State.grantable] at h
  split at h
  · cases h
  · next l hl =>
    split at h
    · cases h; exact State.wanted_le_ratings hl
    · cases h

/-! ### How far the claims rise -/

/-- Between `s` and `t` no claim has fallen, and none has risen but within the grid import limit (R55). -/
structure Claims (s t : State) : Prop where
  gridLimit : t.gridLimit = s.gridLimit
  admitted : ∀ q, t.admitted q = s.admitted q
  rises : ∀ q, s.claim q ≤ t.claim q
  within : t.claims ≤ s.gridLimit ∨ ∀ q, t.claim q = s.claim q

theorem Claims.refl (s : State) : Claims s s := ⟨rfl, fun _ => rfl, fun _ => Nat.le_refl _, .inr fun _ => rfl⟩

theorem Claims.claims_le (h : Claims s t) : s.claims ≤ t.claims := by
  have ha := h.rises .a
  have hb := h.rises .b
  have hc := h.rises .c
  simp only [State.claims]
  omega

/-- Where the claims already reach the grid import limit, none rises. -/
theorem Claims.claim_eq (h : Claims s t) (hl : s.gridLimit ≤ s.claims) (q : OutletId) : t.claim q = s.claim q := by
  rcases h.within with hw | hw
  · have ha := h.rises .a
    have hb := h.rises .b
    have hc := h.rises .c
    simp only [State.claims] at hl hw
    cases q <;> omega
  · exact hw q

theorem Claims.of_pool (h : Claims s t) (hp : SamePool t u) : Claims s u where
  gridLimit := hp.gridLimit.trans h.gridLimit
  admitted q := (hp.admitted q).trans (h.admitted q)
  rises q := by rw [hp.claim_eq]; exact h.rises q
  within := h.within.imp (fun k => by rw [hp.claims_eq]; exact k) fun k q => by rw [hp.claim_eq]; exact k q

theorem State.claim_grant (rest : List Request) (h : s.grantable r = some ms) (q : OutletId) :
    (s.grant r rest ms).claim q =
      if q = r.outlet then min (s.admitted q) (s.committed q + s.ratings ms) else s.claim q := by
  rw [State.claim, State.admitted_grant, State.committed_grant rest h]
  split
  · rfl
  · rw [Nat.add_zero]; rfl

theorem Claims.grant (h : Claims s t) (rest : List Request) (hm : t.grantable r = some ms) :
    Claims s (t.grant r rest ms) := by
  have hgrid : (t.grant r rest ms).gridLimit = t.gridLimit := by rw [State.grant_frame]
  have hclaim := State.claim_grant rest hm
  refine ⟨hgrid.trans h.gridLimit, fun q => (t.admitted_grant r rest ms q).trans (h.admitted q), fun q => ?_, .inl ?_⟩
  · refine Nat.le_trans (h.rises q) ?_
    rw [hclaim]
    split
    · simp only [State.claim]
      omega
    · exact Nat.le_refl _
  · have hb := (State.grantable_spec hm).2.2
    rw [State.claimsWith, h.gridLimit] at hb
    simp only [State.claims, hclaim] at hb ⊢
    cases ho : r.outlet <;> rw [ho] at hb <;> simp at hb ⊢ <;> omega

theorem State.samePool_endPrepare (s : State) (o : OutletId) : SamePool s (s.endPrepare o) :=
  (s.endPrepare_settles o).2.2.1

theorem SamePool.of_status (s : State) (v : StatusUnit) : SamePool s { s with status := v } :=
  ⟨rfl, rfl, fun _ => rfl, fun _ => rfl⟩

/-- The end of an event at which no session closes raises claims within the grid import limit alone. -/
theorem State.claims_finish (he : s.noneEnds) : Claims s s.finish :=
  State.finish_induction (P := Claims s) (fun a q h => h.of_pool (a.samePool_recomputeLimit q))
    (fun _ _ rest _ _ hm h => h.grant rest hm) (fun a b h => h.of_pool (.of_budget a b))
    (fun a q h => h.of_pool (a.samePool_endPrepare q)) (fun a v h => h.of_pool (.of_status a v)) he (.refl s)

/-! ### When the head of the queue still waits -/

/-- With fewer modules free and no less wanted, what cannot be taken still cannot. -/
theorem State.take_of_fewer (h : ∀ m, (u.module m).isFree = true → (s.module m).isFree = true ∧
    (u.module m).rating = (s.module m).rating) {l : List (Fin 8)} {n k : Nat} (hn : k ≤ n)
    (hu : (u.take l n).isSome = true) : (s.take l k).isSome = true := by
  induction l generalizing n k with
  | nil =>
    simp only [State.take] at hu ⊢
    split at hu
    · rw [if_pos (by omega)]; rfl
    · cases hu
  | cons m l ih =>
    simp only [State.take] at hu ⊢
    by_cases hk : k = 0
    · simp [hk]
    · rw [if_neg hk]
      rw [if_neg (by omega)] at hu
      cases hf : (u.module m).isFree with
      | true =>
        obtain ⟨hs, hr⟩ := h m hf
        rw [hf, if_pos rfl, Option.isSome_map] at hu
        rw [hs, if_pos rfl, Option.isSome_map]
        exact ih (by omega) hu
      | false =>
        rw [hf, if_neg Bool.false_ne_true] at hu
        split
        · rw [Option.isSome_map]
          exact ih (by omega) hu
        · exact ih hn hu

/-- A request that wants what its members are short of can be granted exactly where the free modules reach it and the
admitted capacity fits the grid import limit. -/
theorem State.grantable_isSome (h : s.admitted r.outlet ≤ s.committed r.outlet + r.wanted) :
    (s.grantable r).isSome = true ↔
      (s.take allModules r.wanted).isSome = true ∧ s.claimsWith r.outlet (s.admitted r.outlet) ≤ s.gridLimit := by
  simp only [State.grantable]
  cases hl : s.take allModules r.wanted with
  | none => simp
  | some l =>
    have := State.wanted_le_ratings hl
    have hmin : min (s.admitted r.outlet) (s.committed r.outlet + s.ratings l) = s.admitted r.outlet := by omega
    dsimp only
    rw [hmin]
    split
    · next hc => simp [hc]
    · next hc => simp [hc]

theorem State.committedUnmarked_le_committed (s : State) (o : OutletId) : s.committedUnmarked o ≤ s.committed o := by
  rw [State.committedUnmarked, State.committed, State.ratings, State.ratings]
  exact (List.filter_sublist.map _).sum_le_sum fun _ _ => Nat.zero_le _

/-- What soundness says of a request that waits (R53, R54). -/
theorem State.wanted_of_sound (h : s.sound = true) (hr : r ∈ s.grants) :
    s.admitted r.outlet ≤ s.committedUnmarked r.outlet + r.wanted := by
  obtain ⟨_, _, _, hg⟩ := (State.sound_iff s).1 h
  exact (((State.grantsSound_iff s).1 hg).2 r hr).1

/-- Of a part whose requests want what their outlets are short of, an act on the modules that frees none and moves no
committed rating leaves the head of the queue waiting. -/
theorem State.queueWaits_of_fewer (hw : s.queueWaits = true)
    (hr : ∀ r ∈ s.grants, s.admitted r.outlet ≤ s.committed r.outlet + r.wanted) (hg : u.grants = s.grants)
    (hl : u.gridLimit = s.gridLimit) (ha : ∀ o, u.admitted o = s.admitted o)
    (hc : ∀ o, u.committed o = s.committed o) (hf : ∀ m, (u.module m).isFree = true →
      (s.module m).isFree = true ∧ (u.module m).rating = (s.module m).rating) : u.queueWaits = true := by
  simp only [State.queueWaits, hg] at hw ⊢
  cases hq : s.grants with
  | nil => rfl
  | cons r rest =>
    rw [hq] at hw
    dsimp only at hw ⊢
    have hrs := hr r (by rw [hq]; exact List.mem_cons_self)
    rw [← Option.not_isSome, Bool.not_eq_true', ← Bool.not_eq_true] at hw ⊢
    rw [State.grantable_isSome hrs] at hw
    rw [State.grantable_isSome (by rw [ha, hc]; exact hrs)]
    rintro ⟨h1, h2⟩
    refine hw ⟨State.take_of_fewer hf (Nat.le_refl _) h1, ?_⟩
    simpa only [State.claimsWith, State.claims, State.claim, ha, hc, hl] using h2

/-- An act on the modules alone that moves no committed rating and no group capacity and ends no PREPARE leaves the
part standing, where the head of the queue still waits. -/
theorem State.Standing.of_modules (hs : s.Standing) (hf : u = { s with modules := u.modules })
    (hc : ∀ o, u.committed o = s.committed o) (hcap : ∀ o, u.groupCapacity o = s.groupCapacity o)
    (hcl : ∀ o, u.closesNow o = false) (hw : u.queueWaits = true) : u.Standing := by
  have ho (o : OutletId) : u.outlet o = s.outlet o := by rw [hf]; rfl
  have ha (o : OutletId) : u.admitted o = s.admitted o := by simp only [State.admitted, ho]
  have hb : u.budgetOver = s.budgetOver := by rw [hf]
  have hl : u.gridLimit = s.gridLimit := by rw [hf]
  refine ⟨fun o => ⟨?_, ?_, hcl o⟩, hw, ?_⟩
  · exact (State.endsNow_congr (s := s) (by rw [ho]) (by rw [ho])).trans (hs.outlets o).1
  · simp only [State.newLimit, ho, ha, hcap, hb]
    exact (hs.outlets o).2.1
  · simp only [State.claims, State.claim, ha, hc, hb, hl]
    exact hs.budget

/-! ### What the end of an event leaves of the modules -/

/-- What a module's nameplate holds, a grant leaves. -/
theorem State.nameplate_finish (he : s.noneEnds) (m : Fin 8) :
    (s.finish.module m).signature = (s.module m).signature ∧ (s.finish.module m).rating = (s.module m).rating := by
  let P (a : State) : Prop := (a.module m).signature = (s.module m).signature ∧ (a.module m).rating = (s.module m).rating
  have same (a b : State) (hm : b.module m = a.module m) (h : P a) : P b := by
    show (b.module m).signature = _ ∧ (b.module m).rating = _
    rw [hm]
    exact h
  refine State.finish_induction (P := P) (fun a q => same _ _ (a.group_recomputeLimit q m))
    (fun a r rest ms _ hm h => ?_) (fun a b => same _ _ rfl)
    (fun a q => same _ _ (by rw [(a.endPrepare_spec q).1]; rfl)) (fun a v => same _ _ rfl) he ⟨rfl, rfl⟩
  have e := State.grant_module rest (State.grantable_spec hm).1 m (s := a) (r := r)
  have e1 := congrArg Module.signature e
  have e2 := congrArg Module.rating e
  dsimp only at e1 e2
  refine ⟨e1.trans ?_, e2.trans ?_⟩
  · split
    · exact h.1
    · exact h.1
  · split
    · exact h.2
    · exact h.2

end Sys2Proof.Machine
end

section
/-! A member that leaves the committed rating of its group: what the loss leaves where the group keeps a member to run
on, and where it does not (R15, R50, R53, R64). -/

namespace Sys2Proof.Machine

variable {s t u v w : State} {o : OutletId} {m : Fin 8} {marks : Bool} {r : Request} {rest : List Request}
  {ms : List (Fin 8)}

/-! ### A capacity provided for -/

/-- An outlet's admitted capacity is committed, or a waiting request wants what is missing (R53, R54). -/
def State.Provided (s : State) (o : OutletId) : Prop :=
  s.admitted o ≤ s.committedUnmarked o ∨
    ∃ r ∈ s.grants, r.outlet = o ∧ s.admitted o ≤ s.committedUnmarked o + r.wanted

theorem State.Provided.congr (h : s.Provided o) (ha : t.admitted o = s.admitted o)
    (hc : t.committedUnmarked o = s.committedUnmarked o) (hg : t.grants = s.grants) : t.Provided o := by
  simpa only [State.Provided, ha, hc, hg] using h

theorem State.request_isSome (h : ∃ r ∈ s.grants, r.outlet = o) : (s.request o).isSome = true := by
  obtain ⟨r, hr, ho⟩ := h
  rw [State.request, List.find?_isSome]
  exact ⟨r, hr, by simp [ho]⟩

theorem State.Provided.spec (h : s.Provided o) :
    s.admitted o ≤ s.committedUnmarked o ∨ (s.request o).isSome = true :=
  h.imp_right fun ⟨r, hr, ho, _⟩ => State.request_isSome ⟨r, hr, ho⟩

theorem State.mem_ask (s : State) (o : OutletId) (kind : RequestKind) (n : Nat) :
    ∃ r ∈ (s.ask o kind n).grants, r.outlet = o := by
  simp only [State.ask]
  split
  · next h =>
    obtain ⟨r, hr, ho⟩ := List.find?_isSome.1 (by rwa [State.request] at h)
    refine ⟨{ r with wanted := n }, List.mem_map.2 ⟨r, hr, ?_⟩, by simpa using ho⟩
    exact if_pos (by simpa using ho)
  · exact ⟨_, List.mem_append_right _ (List.mem_singleton_self _), rfl⟩

theorem State.outlet_topUp (s : State) (o q : OutletId) : (s.topUp o).outlet q = s.outlet q := by
  simp only [State.topUp, State.ask, State.withdraw]
  split
  · split <;> rfl
  · rfl

/-- A top-up provides for the outlet (R53). -/
theorem State.provided_topUp (s : State) (o : OutletId) : (s.topUp o).Provided o := by
  have ha : (s.topUp o).admitted o = s.admitted o := by simp only [State.admitted, State.outlet_topUp]
  have hc : (s.topUp o).committedUnmarked o = s.committedUnmarked o := by
    simp only [State.committedUnmarked_eq, State.module, s.modules_topUp o]
  rw [State.Provided, ha, hc]
  rcases Nat.lt_or_ge (s.committedUnmarked o) (s.admitted o) with h | h
  · obtain ⟨r, hr, ho⟩ := s.mem_ask o .topUp (s.admitted o - s.committedUnmarked o)
    have e : s.topUp o = s.ask o .topUp (s.admitted o - s.committedUnmarked o) := if_pos h
    refine .inr ⟨r, by rw [e]; exact hr, ho, ?_⟩
    rw [State.wanted_ask hr ho]
    omega
  · exact .inl h

theorem State.Provided.inert (h : s.Provided o) (hi : Inert s t) (hg : t.grants = s.grants) : t.Provided o :=
  h.congr (hi.admitted o) (State.figures_congr fun m _ => hi.module m).2.1 hg

/-- A grant provides what its request wants. -/
theorem State.Provided.grant (h : s.Provided o) (hg : s.grants = r :: rest) (hm : s.grantable r = some ms) :
    (s.grant r rest ms).Provided o := by
  have hgrants : (s.grant r rest ms).grants = rest := by rw [State.grant_frame]
  rw [State.Provided, State.admitted_grant, State.committedUnmarked_grant rest hm, hgrants]
  rcases h with h | ⟨k, hk, hko, h⟩
  · exact .inl (by omega)
  · rw [hg] at hk
    rcases List.mem_cons.1 hk with rfl | hk
    · have := State.grantable_wanted hm
      exact .inl (by rw [if_pos hko.symm]; omega)
    · exact .inr ⟨k, hk, hko, by omega⟩

/-- The end of an event at which no session closes leaves an outlet provided for. -/
theorem State.provided_finish (he : s.noneEnds) (h : s.Provided o) : s.finish.Provided o := by
  refine State.finish_induction (P := fun a => a.Provided o)
    (fun a q h => h.inert (a.inert_recomputeLimit q) (by rw [(a.recomputeLimit_frame q).1]))
    (fun a r rest ms hg hm h => h.grant hg hm) (fun a b h => h.congr rfl rfl rfl) (fun a q h => ?_)
    (fun a v h => h.congr rfl rfl rfl) he h
  have hf := (a.endPrepare_spec q).1
  exact h.congr ((a.samePool_endPrepare q).admitted o)
    (by simp only [State.committedUnmarked_eq, State.module]; rw [hf]) (by rw [hf])

/-! ### The consequences of a loss, case by case -/

/-- A group with a member to run on (R53). -/
def State.runsOn (s : State) (o : OutletId) : Bool :=
  if (s.outlet o).state = .energising ∧ (s.outlet o).phase = some .prepare then !(s.group o).isEmpty
  else !(s.members o [.standby, .running]).isEmpty

theorem State.outlet_survive (s : State) (o q : OutletId) (marks : Bool) :
    (s.survive o marks).outlet q = (s.recomputeLimit o).outlet q := by
  rw [State.survive, State.outlet_topUp]
  split
  · simp only [State.outlet, (State.markSurplus_frame _ o).1]
  · rfl

/-- What the outlet's state makes of a loss: a survival, a trip, or a limit recomputed. -/
theorem State.memberLost_cases (s : State) (o : OutletId) (marks : Bool) :
    ((s.outlet o).state.supplied = true → s.runsOn o = true →
      s.memberLost o marks = (s.computeShares o).survive o marks) ∧
    ((s.outlet o).state.supplied = true → s.runsOn o = false →
      ∃ b, s.memberLost o marks = b.trip o .noModules ∧ ActsAt o s b ∧ Sheds s b ∧ b.outlet o = s.outlet o) ∧
    ((s.outlet o).state.supplied = false → s.memberLost o marks = (s.computeShares o).recomputeLimit o) := by
  have hg (m : Fin 8) : ((s.computeShares o).module m).group = (s.module m).group :=
    congrArg ModuleCore.group ((s.inert_computeShares o).module m)
  have hst (m : Fin 8) : ((s.computeShares o).module m).state = (s.module m).state :=
    congrArg ModuleCore.state ((s.inert_computeShares o).module m)
  have hgroup : (s.computeShares o).group o = s.group o := by
    simp only [State.group, hg]
  have hmem : (s.computeShares o).members o [.standby, .running] = s.members o [.standby, .running] :=
    State.members_congr fun m => by rw [hg, hst]
  have hsheds : Sheds s (s.computeShares o) := .of_shares (s.computeShares_frame o).2.2
  have hacts := s.actsAt_computeShares o
  simp only [State.memberLost, State.outlet_computeShares, hgroup, hmem, State.runsOn]
  refine ⟨fun hsup hk => ?_, fun hsup hk => ?_, fun hsup => ?_⟩
  · split
    · next hp => rw [if_pos hp, Bool.not_eq_true'] at hk; rw [if_neg (by simp [hk])]
    · next hp => rw [if_neg hp, Bool.not_eq_true'] at hk; rw [hk]; simp
  · split
    · next hp =>
      rw [if_pos hp, Bool.not_eq_false'] at hk
      exact ⟨_, if_pos hk, hacts, hsheds, s.outlet_computeShares o o⟩
    · next hp =>
      rw [if_neg hp, Bool.not_eq_false'] at hk
      refine ⟨_, if_pos hk, hacts.trans (State.actsAt_stopGroup _ o),
        hsheds.trans (.of_stopGroup _ o), ?_⟩
      rw [State.outlet_stopGroup, State.outlet_computeShares]
  · rw [if_neg, if_neg (by simp [hsup])]
    rintro ⟨h, _⟩
    rw [h] at hsup
    cases hsup

/-! ### The end of the event -/

theorem State.noneEnds_memberLost (he : s.noneEnds) (o : OutletId) (marks : Bool) : (s.memberLost o marks).noneEnds := by
  intro q
  by_cases hq : q = o
  · subst hq
    by_cases hst : (s.outlet q).state = .deEnergising
    · rw [(s.memberLost_cases q marks).2.2 (by rw [hst]; rfl)]
      refine (State.endsNow_congr (s := s) ?_ ?_).trans (he q)
      · rw [State.recomputeLimit_state, State.outlet_computeShares]
      · rw [State.recomputeLimit_sb, State.outlet_computeShares]
    · exact State.endsNow_of_state (mt ((s.calm_memberLost q marks).ends q) hst)
  · have ho := (s.actsAt_memberLost o marks).outlets q hq
    exact (State.endsNow_congr (s := s) (by rw [ho]) (by rw [ho])).trans (he q)

theorem State.noneEnds_of_ready (h : s.ready = true) : s.noneEnds := fun o =>
  ((State.Standing.of_ready h).outlets o).1

/-- An act on the modules alone. -/
theorem State.noneEnds_of_outlets (he : s.noneEnds) (ho : ∀ o, t.outlet o = s.outlet o) : t.noneEnds := fun o =>
  (State.endsNow_congr (s := s) (by rw [ho]) (by rw [ho])).trans (he o)

/-- What the end of an event leaves where the act is at one outlet and no session closes. -/
theorem ActsAt.finish (hs : s.ready = true) (h : ActsAt o s u) (hq : u.queued) (he : u.noneEnds) :
    u.finish.leavesOthers s o = true ∧ u.finish.follows s = true := by
  have hp : u.phase = .running := (congrArg State.phase h.common).trans (s.ready_iff.1 hs).1
  refine ⟨h.leavesOthers hq he, State.follows_iff.2 ⟨State.finish_stated hp, ?_⟩⟩
  exact congrArg State.status ((u.answers_finish hq he).common.trans h.common)

/-- A module that is not free is kept whole by the end of an event. -/
theorem State.module_finish (hq : s.queued) (he : s.noneEnds) (hm : (s.module m).isFree = false) :
    s.finish.module m = s.module m := by
  have := (s.answers_finish hq he).modules m
  simpa [Module.keptBy, hm] using this

/-- Where a member is left to run on, the outlet stands, and a shortfall waits as a request (R53). -/
theorem State.memberLost_survives {p q : OutletId → Prop} {M T : Prop} (hs : s.ready = true)
    (hsup : (s.outlet o).state.supplied = true) (hk : w.runsOn o = true) (hw : ∀ q, w.outlet q = s.outlet q)
    (hu : (w.memberLost o marks).Protected p q M T) :
    let t := (w.memberLost o marks).finish
    (t.outlet o).state = (s.outlet o).state ∧ (t.outlet o).session = (s.outlet o).session ∧
      (t.outlet o).pb = (s.outlet o).pb ∧ t.Provided o := by
  have he := State.noneEnds_memberLost (State.noneEnds_of_outlets (State.noneEnds_of_ready hs) hw) o marks
  have hkinds := (hu.pool o).kinds
  rw [(w.memberLost_cases o marks).1 (by rw [hw]; exact hsup) hk] at he hkinds ⊢
  obtain ⟨l, _, hlim⟩ := (w.computeShares o).recomputeLimit_self o
  have hout := (w.computeShares o).outlet_survive o o marks
  rw [State.outlet_computeShares, hw] at hlim
  have hprov : ((w.computeShares o).survive o marks).Provided o := State.provided_topUp _ o
  generalize (w.computeShares o).survive o marks = v at he hkinds hout hprov ⊢
  rw [hlim] at hout
  have hst : (v.outlet o).state = (s.outlet o).state := by rw [hout]
  have hpass := State.passes_finish he (o := o) fun r hr hro => by
    have hfits := hkinds r hr hro
    cases hkd : r.kind with
    | topUp => rfl
    | initial =>
      rw [hkd] at hfits
      rw [← hst, show (v.outlet o).state = .admitted from hfits] at hsup
      cases hsup
  have hy := hpass.outlet
  have hstate : (v.finish.outlet o).state = (s.outlet o).state := by rw [hy, hout]
  have hsession : (v.finish.outlet o).session = (s.outlet o).session := by rw [hy, hout]
  have hpb : (v.finish.outlet o).pb = (s.outlet o).pb := by rw [hy, hout]
  exact ⟨hstate, hsession, hpb, State.provided_finish he hprov⟩

/-- Where none is left, the outlet trips with NO_MODULES, both breakers asked to open (R15, R53). -/
theorem State.memberLost_trips (hs : s.ready = true) (hq : s.queued) (hfree : s.freeApart)
    (hsup : (s.outlet o).state.supplied = true) (hk : w.runsOn o = false) (hw : ActsAt o s w) (hsheds : Sheds s w)
    (hwo : w.outlet o = s.outlet o) :
    let t := (w.memberLost o marks).finish
    t.hasTripped s o .noModules = true ∧ t.sbCommand o = false ∧ (t.outlet o).pb.channel = .tripPulse := by
  obtain ⟨b, e, hacts, hb, hbo⟩ := (w.memberLost_cases o marks).2.1 (by rw [hwo]; exact hsup) hk
  rw [hwo] at hbo
  obtain ⟨⟨ref, l, hout, hl⟩, hg, hr, _, hfol⟩ := State.trip_finish (cause := .noModules) hs hq hfree
    (hw.trans hacts) (hsheds.trans hb) (by rw [hbo]; exact OutletState.within_admitted_of_supplied hsup) false
  have hid : (b.trip o .noModules).modify o (·.linkLost false) = b.trip o .noModules := State.modify_self _ o
  rw [hid] at hout hg hr hfol
  rw [e]
  dsimp only
  generalize (b.trip o .noModules).finish = t at hout hg hr hfol ⊢
  rw [hbo] at hout hl
  obtain ⟨hsb, hpb, _⟩ := Outlet.tripped_asked (cause := .noModules) (s.outlet o) rfl
  have hout' : t.outlet o = { (s.outlet o).tripped .noModules with reference := ref.stop, link := l } := hout
  refine ⟨State.hasTripped_of hout rfl rfl hl hg hr (State.follows_iff.1 hfol).1,
    State.sbCommand_requestOpen (b := (s.outlet o).sb) (by rw [hout']; exact hsb), by rw [hout']; exact hpb⟩

end Sys2Proof.Machine
end

section
/-! Acts on one module: time, a module outside every group, and what such an act leaves of a ready part (R44, R45,
R50, R65). -/

namespace Sys2Proof.Machine

variable {s t u v w : State} {o : OutletId} {m : Fin 8} {f : Module → Module}

theorem State.sound_elapse (h : s.sound = true) (hp : s.phase = .running) (n : Nat) : (s.elapse n).sound = true :=
  ((State.protected_of_sound (M := False) h nofun).inert (s.inert_elapse n)).sound
    (State.atRest_of_running (by rw [State.elapse_phase]; exact hp))

/-- An update of one module, module by module. -/
theorem State.module_modifyModule (s : State) (m : Fin 8) (f : Module → Module) (j : Fin 8) :
    (s.modifyModule m f).module j = if j = m then f (s.module m) else s.module j := by
  by_cases h : j = m
  · subst h; simp
  · simp [h]

theorem State.modifyModule_modifyModule (s : State) (m : Fin 8) (f g : Module → Module) :
    (s.modifyModule m f).modifyModule m g = s.modifyModule m fun x => g (f x) := by
  simp [State.modifyModule, State.module]

theorem State.modifyModule_congr {g : Module → Module} (h : f (s.module m) = g (s.module m)) :
    s.modifyModule m f = s.modifyModule m g := by
  rw [State.modifyModule, State.modifyModule, h]

theorem State.modifyModule_self (s : State) (m : Fin 8) : (s.modifyModule m fun x => x) = s := by
  simp [State.modifyModule, State.module]

/-! ### The levels -/

theorem State.anyFaulted_iff (s : State) :
    (s.modules.any fun m => m.state == .faulted) = true ↔ ∃ m, (s.module m).state = .faulted := by
  rw [Vector.any_iff_exists]
  constructor
  · rintro ⟨i, hi, h⟩
    exact ⟨⟨i, hi⟩, beq_iff_eq.1 h⟩
  · rintro ⟨m, h⟩
    exact ⟨m.val, m.isLt, beq_iff_eq.2 h⟩

/-- An act on the modules alone that faults none and repairs none moves no level. -/
theorem State.stated_of_modules (h : s.stated = true) (hf : u = { s with modules := u.modules })
    (hm : ∀ m, (u.module m).state = .faulted ↔ (s.module m).state = .faulted) : u.stated = true := by
  have hany : (u.modules.any fun m => m.state == .faulted) = s.modules.any fun m => m.state == .faulted := by
    rw [Bool.eq_iff_iff, State.anyFaulted_iff, State.anyFaulted_iff]
    exact exists_congr hm
  rw [State.stated_iff] at h ⊢
  intro g x hx
  have hlevel : u.level g x = s.level g x := by
    rw [hf] at hany ⊢
    cases g with
    | part =>
      cases x with
      | moduleFaulted => exact hany
      | _ => rfl
    | outlet o => cases x <;> rfl
  rw [hlevel, ← h g x hx, hf]

theorem State.stated_of_ready (h : s.ready = true) : s.stated = true :=
  (s.settled_iff.1 (s.ready_iff.1 h).2).2.2.2

/-- A part in which nothing waits to settle is ready once its conditions are stated. -/
theorem State.Standing.ready (h : s.Standing) (hp : s.phase = .running) (hst : s.stated = true) : s.ready = true :=
  s.ready_iff.2 ⟨hp, s.settled_iff.2 ⟨h.outlets, h.queue, h.budget, hst⟩⟩

/-! ### A module outside every group -/

theorem State.members_modifyModule (hg : (s.module m).group = none) (hg' : (f (s.module m)).group = none)
    (o : OutletId) (sts : List ModuleState) : (s.modifyModule m f).members o sts = s.members o sts :=
  State.members_congr fun j => by
    rw [State.module_modifyModule]
    split
    · next h => subst h; simp [hg, hg']
    · rfl

theorem State.ratings_modifyModule (hg : (s.module m).group = none) (o : OutletId) (sts : List ModuleState) :
    (s.modifyModule m f).ratings (s.members o sts) = s.ratings (s.members o sts) :=
  State.ratings_congr fun j hj => by
    have hj := ((s.mem_members o sts j).1 hj).1
    rw [State.module_modifyModule, if_neg]
    rintro rfl
    rw [hg] at hj
    cases hj

/-- An update of a module outside every group that does not free it leaves nothing to settle. -/
theorem State.Standing.of_outside (hs : s.ready = true) (hsound : s.sound = true) (hg : (s.module m).group = none)
    (hg' : (f (s.module m)).group = none)
    (hf : (f (s.module m)).isFree = true → (s.module m).isFree = true ∧ (f (s.module m)).rating = (s.module m).rating) :
    (s.modifyModule m f).Standing := by
  have hc (o : OutletId) : (s.modifyModule m f).committed o = s.committed o := by
    rw [State.committed, State.members_modifyModule hg hg', State.ratings_modifyModule hg]
    rfl
  refine (State.Standing.of_ready hs).of_modules rfl hc (fun o => ?_) (fun o => ?_) ?_
  · rw [State.groupCapacity, State.members_modifyModule hg hg', State.ratings_modifyModule hg]
    rfl
  · have hprep : (s.modifyModule m f).prepared o = s.prepared o := State.prepared_congr
      (fun j => by
        rw [State.module_modifyModule]
        split
        · next h => subst h; rw [hg, hg']
        · rfl)
      fun j hj => by
        rw [State.module_modifyModule, if_neg]
        rintro rfl
        rw [hg] at hj
        cases hj
    have hold := ((State.Standing.of_ready hs).outlets o).2.2
    rwa [State.closesNow, hprep]
  · have hrs (r : Request) (hr : r ∈ s.grants) : s.admitted r.outlet ≤ s.committed r.outlet + r.wanted := by
      have := State.wanted_of_sound hsound hr
      have := s.committedUnmarked_le_committed r.outlet
      omega
    refine State.queueWaits_of_fewer (State.Standing.of_ready hs).queue hrs rfl rfl (fun _ => rfl) hc fun j hj => ?_
    rw [State.module_modifyModule] at hj ⊢
    split at hj
    · next h => subst h; rw [if_pos rfl]; exact hf hj
    · next h => rw [if_neg h]; exact ⟨hj, rfl⟩

/-- One that leaves its being faulted too leaves the part ready. -/
theorem State.ready_of_outside (hs : s.ready = true) (hsound : s.sound = true) (hg : (s.module m).group = none)
    (hg' : (f (s.module m)).group = none)
    (hf : (f (s.module m)).isFree = true → (s.module m).isFree = true ∧ (f (s.module m)).rating = (s.module m).rating)
    (hst : (f (s.module m)).state = .faulted ↔ (s.module m).state = .faulted) :
    (s.modifyModule m f).ready = true :=
  (State.Standing.of_outside hs hsound hg hg' hf).ready (s.ready_iff.1 hs).1
    (State.stated_of_modules (State.stated_of_ready hs) rfl fun j => by
      rw [State.module_modifyModule]
      split
      · next h => subst h; exact hst
      · rfl)

end Sys2Proof.Machine
end

section
/-! Faults (R45 to R47, R50, R53): what removes a member, and what a module outside every group records. -/

namespace Sys2Proof.Machine

variable {s t u v w : State} {o : OutletId} {m : Fin 8} {f : Module → Module} {code : FaultCode}

/-! ### A member gone from its group -/

theorem State.group_gone (hg' : (f (s.module m)).group = none) (o : OutletId) :
    (s.modifyModule m f).group o = (s.group o).filter (· != m) := by
  simp only [State.group, List.filter_filter]
  refine List.filter_congr fun j _ => ?_
  rw [State.module_modifyModule]
  split
  · next h => simp [h, hg']
  · next h => simp [h]

/-- Whether the group runs on without the member (R53). -/
theorem State.runsOn_gone (hg' : (f (s.module m)).group = none) (o : OutletId) :
    (s.modifyModule m f).runsOn o =
      (let others := (s.group o).filter (· != m)
      if (s.outlet o).state == .energising && (s.outlet o).phase == some .prepare then !others.isEmpty
        else others.any fun j => (s.module j).state == .standby || (s.module j).state == .running) := by
  have hany : (!((s.modifyModule m f).members o [.standby, .running]).isEmpty) = ((s.group o).filter (· != m)).any
      fun j => (s.module j).state == .standby || (s.module j).state == .running := by
    rw [State.members, State.group_gone hg', Bool.eq_iff_iff, Bool.not_eq_true', List.isEmpty_eq_false_iff_exists_mem,
      List.any_eq_true]
    refine exists_congr fun j => ?_
    rw [List.mem_filter, State.module_modifyModule]
    refine and_congr_right fun hj => ?_
    rw [if_neg (by simpa using (List.mem_filter.1 hj).2)]
    simp
  simp only [State.runsOn, hany, State.group_gone hg']
  simp [State.outlet]

theorem Sheds.of_gone (hg' : (f (s.module m)).group = none) : Sheds s (s.modifyModule m f) := fun j => by
  rw [State.module_modifyModule]
  split
  · exact .inl hg'
  · exact .inr ⟨rfl, rfl⟩

/-! ### The fault of a member -/

/-- A report that marks a module's answering alone, as every report and every silence does (R45). -/
def Module.heard (m : Module) (answering : Bool) (silence : Timer) : Module :=
  { m with answering := answering, silence := silence }

/-- A member reported or found faulty (R50, R53). -/
theorem State.faultModule_finish (hs : s.ready = true) (hsound : s.sound = true) (hg : (s.module m).group = some o)
    (code : FaultCode) (a : Bool) (n : Timer) :
    let t := ((s.modifyModule m (·.heard a n)).faultModule m code).finish
    t.hasFaulted s m o code = true ∧ t.follows s = true ∧ (t.module m).answering = a := by
  have hheard : Inert s (s.modifyModule m (·.heard a n)) := s.inert_modifyModule m _ rfl
  have hu := ((State.protected_of_sound (M := False) hsound nofun).inert hheard).faultModule m code
  have hmarks : (s.modifyModule m (·.heard a n)).hasMarks o = s.hasMarks o := hheard.hasMarks o
  have e : (s.modifyModule m (·.heard a n)).faultModule m code =
      (s.modifyModule m fun x => (x.heard a n).faultWith code).memberLost o (s.hasMarks o) := by
    rw [State.faultModule]
    simp only [State.module_modifyModule_self]
    rw [show ((s.module m).heard a n).group = some o from hg]
    dsimp only
    rw [hmarks, State.modifyModule_modifyModule]
  rw [e] at hu ⊢
  generalize hf : (fun x : Module => (x.heard a n).faultWith code) = f at hu ⊢
  have hgone : (f (s.module m)).group = none := by rw [← hf]; rfl
  have hw : ActsAt o s (s.modifyModule m f) := s.actsAt_modifyModule o m f hg
  have hruns := State.runsOn_gone hgone o
  have hsheds := Sheds.of_gone (s := s) hgone
  have he := State.noneEnds_memberLost (s := s.modifyModule m f)
    (State.noneEnds_of_outlets (State.noneEnds_of_ready hs) fun _ => rfl) o (s.hasMarks o)
  have hacts := hw.trans ((s.modifyModule m f).actsAt_memberLost o (s.hasMarks o))
  obtain ⟨hothers, hfollows⟩ := hacts.finish hs hu.queued he
  have hm : (((s.modifyModule m f).memberLost o (s.hasMarks o)).finish).module m = f (s.module m) := by
    have hstay : ((s.modifyModule m f).memberLost o (s.hasMarks o)).module m = f (s.module m) := by
      rw [(State.actsAt_memberLost _ o _).modules m (by rw [State.module_modifyModule_self, hgone]; nofun),
        State.module_modifyModule_self]
    rw [State.module_finish hu.queued he (by rw [hstay, ← hf]; rfl), hstay]
  have hoff : (s.outlet o).state.supplied = true → (s.modifyModule m f).runsOn o = true →
      _ := fun h1 h2 => State.memberLost_survives (marks := s.hasMarks o) hs h1 h2 (fun _ => rfl) hu
  have htrip : (s.outlet o).state.supplied = true → (s.modifyModule m f).runsOn o = false →
      _ := fun h1 h2 => State.memberLost_trips (marks := s.hasMarks o) hs (State.queued_of_sound hsound)
        (State.freeApart_of_sound hsound) h1 h2 hw hsheds rfl
  generalize ((s.modifyModule m f).memberLost o (s.hasMarks o)).finish = t at hothers hfollows hm hoff htrip ⊢
  refine ⟨?_, hfollows, by rw [hm, ← hf]; rfl⟩
  dsimp only at hruns
  rw [State.hasFaulted, ← hruns]
  simp only [hm, hothers, Bool.and_true, Bool.and_eq_true, Bool.or_eq_true]
  refine ⟨by rw [← hf]; simp [Module.faultWith, Module.leave], ?_⟩
  cases hsup : (s.outlet o).state.supplied with
  | false => exact .inl rfl
  | true =>
    refine .inr ?_
    cases hk : (s.modifyModule m f).runsOn o with
    | true =>
      obtain ⟨hstate, hsession, hpb, hprov⟩ := hoff hsup hk
      simpa [hstate, hsession, hpb] using hprov.spec
    | false =>
      obtain ⟨htripped, hcmd, hpulse⟩ := htrip hsup hk
      simp [htripped, hcmd, hpulse]

/-! ### The reports and the timers -/

theorem State.answers_heard (s : State) (m : Fin 8) :
    s.moduleAnswers m = s.modifyModule m (·.heard true (some silenceTime)) := rfl

theorem State.isMember_of_sound (h : s.sound = true) (m : Fin 8) :
    (s.module m).state.isMember = (s.module m).group.isSome := by
  have := State.member_of_sound h m
  simp only [State.memberSound, Bool.and_eq_true, beq_iff_eq] at this
  exact this.1.1.1.symm

/-- A timer whose end faults a member, and the silence of one (R45 to R47). -/
theorem State.faultModule_atExpiry (hs : s.ready = true) (hsound : s.sound = true) (hg : (s.module m).group = some o)
    (n : Nat) (code : FaultCode) (a : Bool) (l : Timer) :
    let t := (((s.elapse n).modifyModule m (·.heard a l)).faultModule m code).finish
    t.hasFaulted (s.elapse n) m o code = true ∧ t.follows s = true ∧ (t.module m).answering = a :=
  State.faultModule_finish ((s.ready_elapse n).trans hs) (State.sound_elapse hsound (s.ready_iff.1 hs).1 n)
    (by rw [State.elapse_module]; exact hg) code a l

/-- The end of a timer that faults. -/
theorem State.faultModule_timer (hs : s.ready = true) (hsound : s.sound = true) (hg : (s.module m).group = some o)
    (n : Nat) (code : FaultCode) :
    let t := ((s.elapse n).faultModule m code).finish
    t.hasFaulted (s.elapse n) m o code = true ∧ t.follows s = true := by
  have h := State.faultModule_atExpiry hs hsound hg n code ((s.elapse n).module m).answering
    ((s.elapse n).module m).silence
  have e : ((s.elapse n).modifyModule m
      (·.heard ((s.elapse n).module m).answering ((s.elapse n).module m).silence)) = s.elapse n :=
    (State.modifyModule_congr (g := fun x => x) rfl).trans (State.modifyModule_self _ m)
  rw [e] at h
  exact ⟨h.1, h.2.1⟩

/-- A module outside every group after its fault report (R50). -/
def Module.reported (m : Module) (code : FaultCode) : Module :=
  { m.heard true (some silenceTime) with
    state := if m.state = .outOfService then .outOfService else .faulted
    rest := if m.state = .outOfService then m.rest else none
    lastFault := some code }

theorem Module.isFree_reported (m : Module) (code : FaultCode) : (m.reported code).isFree = false := by
  have hstate : (m.reported code).state ≠ .off := by
    simp only [Module.reported]
    split <;> nofun
  rw [← Bool.not_eq_true]
  exact fun h => hstate (Module.isFree_off h)

theorem State.faultModule_outside (hg : (s.module m).group = none) (code : FaultCode) :
    (s.moduleAnswers m).faultModule m code = s.modifyModule m (·.reported code) := by
  rw [State.faultModule, State.answers_heard, State.module_modifyModule_self]
  rw [show ((s.module m).heard true (some silenceTime)).group = none from hg,
    show ((s.module m).heard true (some silenceTime)).state = (s.module m).state from rfl]
  dsimp only
  rw [State.modifyModule_modifyModule, State.modifyModule_modifyModule]
  split
  · next hst => exact State.modifyModule_congr (by simp [Module.reported, Module.heard, hst])
  · next hst => exact State.modifyModule_congr (by simp [Module.reported, Module.heard, hst])

/-- The report of a module outside every group (R50). -/
theorem exec_moduleFault_outside (hs : s.ready = true) (hsound : s.sound = true) (hg : (s.module m).group = none)
    {code : Byte} (hc : code ≠ 0#8) :
    ∃ t, exec (.moduleFault m code) s = .next t ∧
      t = { s.modifyModule m (·.reported (.reported code.toNat)) with status := t.status } ∧ t.follows s = true := by
  have hexec : exec (.moduleFault m code) s =
      atEvent (fun s => (s.moduleAnswers m).faultModule m (.reported code.toNat)) s := if_neg hc
  have hstand := State.Standing.of_outside (f := (·.reported (.reported code.toNat))) hs hsound hg hg fun h => by
    rw [Module.isFree_reported] at h
    cases h
  obtain ⟨t, ht, heq, hfol, _⟩ := hstand.event
    (act := fun s => (s.moduleAnswers m).faultModule m (.reported code.toNat)) (s.ready_iff.1 hs).1
    (State.faultModule_outside hg _) (s.ready_iff.1 hs).1 rfl
  exact ⟨t, hexec.trans ht, heq, hfol⟩

/-- The silence of a module, once its 100 ms have passed (R45). -/
def State.goesSilent (s : State) (m : Fin 8) : State :=
  let s := s.modifyModule m (·.heard false none)
  if (s.module m).state.isMember then s.faultModule m .linkLost else s

theorem exec_moduleSilent {n : Nat} (hp : s.phase = .running) (hn : (s.module m).silence = some n) :
    exec (.moduleSilent m) s = .next ((s.elapse n).goesSilent m).finish :=
  (atEvent_atExpiry (timer := fun s => (s.module m).silence) (act := (·.goesSilent m)) hp hn).trans
    (atEvent_of_running (by rw [State.elapse_phase]; exact hp))

theorem State.goesSilent_eq (hsound : s.sound = true) :
    s.goesSilent m = if (s.module m).group.isSome then (s.modifyModule m (·.heard false none)).faultModule m .linkLost
      else s.modifyModule m (·.heard false none) := by
  rw [State.goesSilent, State.module_modifyModule_self,
    show ((s.module m).heard false none).state = (s.module m).state from rfl, State.isMember_of_sound hsound]

/-- The silence of a module outside every group (R45). -/
theorem State.ready_goesSilent (hs : s.ready = true) (hsound : s.sound = true) (hg : (s.module m).group = none) :
    s.goesSilent m = s.modifyModule m (·.heard false none) ∧ (s.goesSilent m).ready = true := by
  have e : s.goesSilent m = s.modifyModule m (·.heard false none) := by
    rw [State.goesSilent_eq hsound, hg]
    rfl
  refine ⟨e, ?_⟩
  rw [e]
  refine State.ready_of_outside hs hsound hg hg (fun hfree => ?_) Iff.rfl
  simp [Module.isFree, Module.heard] at hfree

end Sys2Proof.Machine

open Sys2Proof.Machine in
/-- Settles O36: a member faulted leaves its group and its outlet survives or trips by what the group keeps; a module
outside every group only records the fault. -/
theorem faultsRemoveMembers : Obligations.FaultsRemoveMembers := by
  intro s hs hsound _ m
  have hp := (s.ready_iff.1 hs).1
  refine ⟨fun o hg => ⟨fun code hc => ?_, fun n hn => ?_, fun n hn => ?_, fun n hn => ?_⟩,
    fun hg => ⟨fun code hc => exec_moduleFault_outside hs hsound hg hc,
      fun n hn => ?_⟩, fun hn => ?_, fun hn => ?_, fun hn => ?_⟩
  · obtain ⟨hfault, hfol, _⟩ := State.faultModule_finish hs hsound hg (.reported code.toNat) true (some silenceTime)
    exact ⟨_, (show exec (.moduleFault m code) s = _ from if_neg hc).trans (atEvent_of_running hp), hfault, hfol⟩
  · obtain ⟨hfault, hfol, hans⟩ := State.faultModule_atExpiry hs hsound hg n .linkLost false none
    have hg' : ((s.elapse n).module m).group = some o := by rw [State.elapse_module]; exact hg
    have e := State.goesSilent_eq (m := m) (State.sound_elapse hsound hp n)
    rw [hg'] at e
    exact ⟨_, (exec_moduleSilent hp hn).trans (by rw [e]; rfl), hans, hfault, hfol⟩
  · obtain ⟨hfault, hfol⟩ := State.faultModule_timer hs hsound hg n .prechargeTimeout
    exact ⟨_, (atEvent_atExpiry (timer := fun s => (s.module m).precharge) hp hn).trans
      (atEvent_of_running (by rw [State.elapse_phase]; exact hp)), hfault, hfol⟩
  · obtain ⟨hfault, hfol⟩ := State.faultModule_timer hs hsound hg n .selfTestTimeout
    exact ⟨_, (atEvent_atExpiry (timer := fun s => (s.module m).selfTest) hp hn).trans
      (atEvent_of_running (by rw [State.elapse_phase]; exact hp)), hfault, hfol⟩
  · have hg' : ((s.elapse n).module m).group = none := by rw [State.elapse_module]; exact hg
    obtain ⟨e, hready⟩ := State.ready_goesSilent ((s.ready_elapse n).trans hs) (State.sound_elapse hsound hp n) hg'
    rw [exec_moduleSilent hp hn, State.finish_of_ready hready, e]
    rfl
  · exact atEvent_of_idle hs (by rw [hn]; rfl)
  · exact atEvent_of_idle hs (by rw [hn]; rfl)
  · exact atEvent_of_idle hs (by rw [hn]; rfl)

end

section
/-! The reports of a module on its way into a group's service (R45 to R48): an answer, CHARGED, and the result of the
self-test. -/

namespace Sys2Proof.Machine

variable {s t u v w : State} {o : OutletId} {m : Fin 8} {f : Module → Module}

/-! ### Acts on the modules that the allocator does not see -/

/-- An act on the modules alone that the allocator does not see and that ends no PREPARE leaves the part standing. -/
theorem State.Standing.of_pool (hs : s.Standing) (hf : u = { s with modules := u.modules }) (hp : SamePool s u)
    (hcl : ∀ o, u.closesNow o = false) : u.Standing :=
  hs.of_modules hf hp.committed_eq hp.groupCapacity_eq hcl (hp.queueWaits_eq.trans hs.queue)

/-- What the end of PREPARE reads of a module. -/
def Module.preparing (m : Module) : Option OutletId × Bool × Bool :=
  (m.group, [ModuleState.precharging, .selfTest].contains m.state && m.initial, m.state == .standby)

theorem State.prepared_iff (s : State) (o : OutletId) : s.prepared o = true ↔
    (∀ m, (s.module m).group = some o → (s.module m).state ∈ [ModuleState.precharging, .selfTest] →
      (s.module m).initial = false) ∧
    ∃ m, (s.module m).group = some o ∧ (s.module m).state = .standby := by
  simp only [State.prepared, Bool.and_eq_true, List.all_eq_true, Bool.not_eq_true', List.isEmpty_eq_false_iff_exists_mem,
    State.mem_members, List.mem_singleton, and_imp]

theorem State.prepared_of_preparing (h : ∀ m, (t.module m).preparing = (s.module m).preparing) (o : OutletId) :
    t.prepared o = s.prepared o := by
  have hg (m : Fin 8) : (t.module m).group = (s.module m).group := congrArg Prod.fst (h m)
  have hi (m : Fin 8) := congrArg (·.2.1) (h m)
  have hst (m : Fin 8) := congrArg (·.2.2) (h m)
  have key (a : Module) (hm : a.group = some o) : (a.state ∈ [ModuleState.precharging, .selfTest] → a.initial = false) ↔
      a.preparing.2.1 = false := by
    simp only [Module.preparing, Bool.and_eq_false_iff]
    cases a.initial <;> simp
  have hinit (m : Fin 8) : (t.module m).preparing.2.1 = (s.module m).preparing.2.1 := hi m
  have hstand (m : Fin 8) : (t.module m).state = .standby ↔ (s.module m).state = .standby := by
    have := hst m
    simp only [Module.preparing] at this
    rw [← beq_iff_eq, this, beq_iff_eq]
  rw [Bool.eq_iff_iff, State.prepared_iff, State.prepared_iff]
  refine and_congr (forall_congr' fun m => ?_) (exists_congr fun m => by rw [hg, hstand])
  rw [hg]
  exact forall_congr' fun hm => by rw [key _ ((hg m).trans hm), key _ hm, hinit]

/-- An update of one module that neither the allocator nor the end of PREPARE sees leaves the part ready, unless it
faults or repairs the module. -/
theorem State.ready_modifyModule (hs : s.ready = true) (hpool : (f (s.module m)).pooled = (s.module m).pooled)
    (hprep : (f (s.module m)).preparing = (s.module m).preparing)
    (hst : (f (s.module m)).state = .faulted ↔ (s.module m).state = .faulted) :
    (s.modifyModule m f).ready = true := by
  have each {α : Sort _} (g : Module → α) (h : g (f (s.module m)) = g (s.module m)) (j : Fin 8) :
      g ((s.modifyModule m f).module j) = g (s.module j) := by
    rw [State.module_modifyModule]
    split
    · next e => rw [e]; exact h
    · rfl
  have hp : SamePool s (s.modifyModule m f) := ⟨rfl, rfl, fun _ => rfl, each _ hpool⟩
  refine ((State.Standing.of_ready hs).of_pool rfl hp fun o => ?_).ready (s.ready_iff.1 hs).1
    (State.stated_of_modules (State.stated_of_ready hs) rfl fun j =>
      iff_of_eq (each (fun x => x.state = .faulted) (propext hst) j))
  rw [State.closesNow, State.prepared_of_preparing (each _ hprep)]
  exact ((State.Standing.of_ready hs).outlets o).2.2

/-! ### Answers (R45) -/

theorem State.ready_heard (hs : s.ready = true) (h : (s.module m).answering = true ∨ (s.module m).state ≠ .off) :
    (s.moduleAnswers m).ready = true := by
  refine State.ready_modifyModule hs ?_ rfl Iff.rfl
  have hfree : (s.module m |>.heard true (some silenceTime)).isFree = (s.module m).isFree := by
    rcases h with h | h
    · simp [Module.isFree, Module.heard, h]
    · simp [Module.isFree, Module.heard, h]
  exact congrArg (fun b => ((s.module m).pooled.1, (s.module m).pooled.2.1, b, (s.module m).pooled.2.2.2)) hfree

/-- An answer leaves everything but the module's own marks, and what the grant queue makes of it. -/
theorem exec_moduleAnswer (hs : s.ready = true) (hsound : s.sound = true) (m : Fin 8) :
    ∃ t, exec (.moduleAnswer m) s = .next t ∧
      ((s.module m).heard true (some silenceTime)).keptBy (t.module m) = true ∧
      (∀ j, j ≠ m → (s.module j).keptBy (t.module j) = true) ∧ (∀ o, (t.outlet o).kept = (s.outlet o).kept) ∧
      ((s.module m).answering = true ∨ (s.module m).state ≠ .off → t = s.moduleAnswers m) ∧
      t.common = s.common ∧ t.follows s = true := by
  have hp := (s.ready_iff.1 hs).1
  have hq : (s.moduleAnswers m).queued :=
    ((State.protected_of_sound (M := False) hsound nofun).inert (s.inert_moduleAnswers m)).queued
  have ha := (s.moduleAnswers m).answers_finish hq (State.noneEnds_of_outlets (State.noneEnds_of_ready hs) fun _ => rfl)
  have hm := ha.modules m
  rw [State.answers_heard, State.module_modifyModule_self] at hm
  refine ⟨_, atEvent_of_running hp, hm, fun j hj => ?_, ha.outlets, fun h => State.finish_of_ready (State.ready_heard hs h),
    ha.common, State.follows_iff.2 ⟨State.finish_stated hp, congrArg State.status ha.common⟩⟩
  have := ha.modules j
  rwa [State.answers_heard, State.module_modifyModule_ne _ _ hj] at this

/-! ### CHARGED (R46) -/

/-- A module that has reported CHARGED in PRECHARGING. -/
def Module.charged (m : Module) : Module :=
  { m.heard true (some silenceTime) with
    state := .selfTest, precharge := none, selfTest := some (seconds 2), command := some .test }

theorem exec_moduleCharged (hs : s.ready = true) (h : (s.module m).state = .precharging) :
    exec (.moduleCharged m) s = .next (s.modifyModule m Module.charged) := by
  have e : (s.moduleAnswers m).takeCharged m = s.modifyModule m Module.charged := by
    rw [State.answers_heard, State.takeCharged, State.module_modifyModule_self]
    rw [if_pos (show ((s.module m).heard true (some silenceTime)).state = .precharging from h),
      State.modifyModule_modifyModule]
    rfl
  have hready : (s.modifyModule m Module.charged).ready = true := by
    refine State.ready_modifyModule hs ?_ ?_ (by simp [Module.charged, h])
    · simp only [Module.pooled, Module.charged, Module.heard, Module.isFree, committedStates, h]
      rfl
    · simp [Module.preparing, Module.charged, Module.heard, h]
  rw [← e] at hready ⊢
  exact atEvent_of_ready (s.ready_iff.1 hs).1 hready

theorem State.takeCharged_of_not (h : (s.module m).state ≠ .precharging) :
    (s.moduleAnswers m).takeCharged m = s.moduleAnswers m :=
  if_neg (by rw [State.answers_heard, State.module_modifyModule_self]; exact h)

/-! ### The result of a self-test (R47, R48) -/

theorem State.takeResult_of_not (h : (s.module m).state ≠ .selfTest) (pass : Bool) (sig : BitVec 32) :
    (s.moduleAnswers m).takeResult m pass sig = s.moduleAnswers m :=
  if_neg (by rw [State.answers_heard, State.module_modifyModule_self]; exact h)

/-- The three outcomes of a self-test. -/
theorem State.takeResult_selfTest (h : (s.module m).state = .selfTest) (sig : BitVec 32) :
    (s.moduleAnswers m).takeResult m false sig = (s.moduleAnswers m).faultModule m .selfTestFail ∧
      ((s.module m).signature ≠ 0 → (s.module m).signature ≠ sig.toNat →
        (s.moduleAnswers m).takeResult m true sig = (s.moduleAnswers m).faultModule m .signatureMismatch) ∧
      ((s.module m).signature = 0 ∨ (s.module m).signature = sig.toNat →
        (s.moduleAnswers m).takeResult m true sig = (s.moduleAnswers m).standBy m) := by
  have hst : ((s.moduleAnswers m).module m).state = .selfTest := by
    rw [State.answers_heard, State.module_modifyModule_self]
    exact h
  have hsig : ((s.moduleAnswers m).module m).signature = (s.module m).signature := by
    rw [State.answers_heard, State.module_modifyModule_self]
    rfl
  simp only [State.takeResult, if_pos hst, hsig]
  refine ⟨rfl, fun h0 h1 => ?_, fun hok => ?_⟩
  · simp [h0, h1]
  · rw [if_neg (by nofun), if_neg (by rintro ⟨h0, h1⟩; exact hok.elim h0 h1)]

/-- A module that has passed its self-test. -/
def Module.passed (m : Module) : Module :=
  { m.heard true (some silenceTime) with state := .standby, selfTest := none }

/-- The outlet's group runs, so that a member standing by runs at once (R48). -/
def Outlet.groupRuns (x : Outlet) : Bool :=
  x.state.within .cableLive .separating || (x.state == .energising && x.phase == some .ramp)

theorem State.standBy_eq (hg : (s.module m).group = some o) :
    (s.moduleAnswers m).standBy m = if (s.outlet o).groupRuns then (s.modifyModule m Module.passed).runGroup o
      else s.modifyModule m Module.passed := by
  rw [State.answers_heard, State.standBy, State.modifyModule_modifyModule]
  have e : (s.modifyModule m fun x => { x.heard true (some silenceTime) with state := .standby, selfTest := none }) =
      s.modifyModule m Module.passed := rfl
  dsimp only
  rw [e, State.module_modifyModule_self, show (Module.passed (s.module m)).group = some o from hg]
  dsimp only
  rw [State.outlet_modifyModule]
  simp only [Outlet.groupRuns, Bool.or_eq_true, Bool.and_eq_true, beq_iff_eq]

/-! ### The pass of a self-test -/

theorem State.queueWaits_standBy (hs : s.ready = true) (hsound : s.sound = true) (hg : (s.module m).group = some o)
    (hst : (s.module m).state = .selfTest) : ((s.moduleAnswers m).standBy m).queueWaits = true := by
  have hpassed : (s.modifyModule m Module.passed).queueWaits = true := by
    have hc (q : OutletId) : (s.modifyModule m Module.passed).committed q = s.committed q := by
      rw [State.committed_sum, State.committed_sum]
      refine congrArg List.sum (List.map_congr_left fun j _ => ?_)
      rw [State.module_modifyModule]
      split
      · next h => subst h; simp [Module.passed, Module.heard, committedStates, hst]
      · rfl
    refine State.queueWaits_of_fewer (State.Standing.of_ready hs).queue (fun r hr => ?_) rfl rfl (fun _ => rfl) hc
      fun j hj => ?_
    · have := State.wanted_of_sound hsound hr
      have := s.committedUnmarked_le_committed r.outlet
      omega
    · rw [State.module_modifyModule] at hj ⊢
      split at hj
      · cases Module.isFree_off hj
      · next h => rw [if_neg h]; exact ⟨hj, rfl⟩
  rw [State.standBy_eq hg]
  split
  · rw [(State.samePool_runGroup _ o).queueWaits_eq]
    exact hpassed
  · exact hpassed

/-- Where the head of the queue waits, the end of an event at which no session closes leaves the modules. -/
theorem State.modules_finish_of_waits (hp : s.phase = .running) (he : s.noneEnds) (hw : s.queueWaits = true) :
    s.finish.modules = s.modules := by
  have limit (a : State) (o : OutletId) : (a.recomputeLimit o).modules = a.modules := by
    rw [(a.recomputeLimit_frame o).1]
  have prepare (a : State) (o : OutletId) : (a.endPrepare o).modules = a.modules := by
    rw [(a.endPrepare_spec o).1]
  have limits (a : State) : a.recomputeLimits.modules = a.modules := by
    simp only [State.recomputeLimits, limit]
  have hexamine : s.recomputeLimits.examine s.recomputeLimits.grants.length = s.recomputeLimits :=
    State.examine_of_waits ((State.samePool_recomputeLimits s).queueWaits_eq.trans hw) _
  have hbudget (a : State) : a.settleBudget.modules = a.modules := by
    simp only [State.settleBudget]
    split
    · exact limits _
    · rfl
  rw [State.finish_of_noneEnds hp he, (State.reportAll_spec _).1]
  simp only [prepare, State.reallocate, hexamine, hbudget, limits]

theorem Passes.of_same (h : Passes o u t) (ho : u.outlet o = s.outlet o) (hg : u.grants = s.grants)
    (he : u.estopAllMade = s.estopAllMade) : Passes o s t := by
  refine ⟨by rw [← hg]; exact h.requests, h.estop.trans he, by rw [← ho]; exact h.outlet, ?_⟩
  rw [← ho, ← State.blocking_congr ho he]
  exact h.prepare

/-- Whether every other module of the initial grant is through with its preparation (R11). -/
theorem State.prepared_passed (hg : (s.module m).group = some o)
    (h : ((s.group o).all fun j => j == m || !(s.module j).initial ||
      ((s.module j).state != .precharging && (s.module j).state != .selfTest)) = true) :
    (s.modifyModule m Module.passed).prepared o = true := by
  rw [State.prepared_iff]
  refine ⟨fun j hj hst => ?_, m, by rw [State.module_modifyModule_self]; exact ⟨hg, rfl⟩⟩
  rw [State.module_modifyModule] at hj hst ⊢
  split at hj
  · next e => rw [if_pos e] at hst; simp [Module.passed] at hst
  · next e =>
    rw [if_neg e] at hst ⊢
    have hall := List.all_eq_true.1 h j ((s.mem_group o j).2 hj)
    simp only [beq_iff_eq, Bool.or_eq_true, e, false_or, Bool.not_eq_true', Bool.and_eq_true, bne_iff_ne] at hall
    rcases hall with hall | ⟨h1, h2⟩
    · exact hall
    · simp [h1, h2] at hst

/-- The module, the outlet and its breaker after the pass of a self-test. -/
theorem exec_moduleResult_pass (hs : s.ready = true) (hsound : s.sound = true) (hacc : s.accounts = true)
    (hg : (s.module m).group = some o) (hst : (s.module m).state = .selfTest) {sig : BitVec 32}
    (hsig : (s.module m).signature = 0 ∨ (s.module m).signature = sig.toNat) :
    ∃ t, exec (.moduleResult m true sig) s = .next t ∧ (t.module m).group = some o ∧ (t.module m).selfTest = none ∧
      (t.module m).state = (if (s.outlet o).groupRuns then .running else .standby) ∧ Passes o s t ∧
      ((s.outlet o).groupRuns = false → (s.modifyModule m Module.passed).prepared o = true →
        t.closesNow o = false ∧ t.prepared o = true) ∧
      t.leavesOthers s o = true ∧ t.follows s = true := by
  have hp := (s.ready_iff.1 hs).1
  have hheard := s.inert_moduleAnswers m
  have hu := ((State.protected_of_sound (M := False) hsound nofun).inert hheard).standBy (m := m)
    (by rw [State.answers_heard, State.module_modifyModule_self]; exact hst)
  have hw := State.queueWaits_standBy hs hsound hg hst
  have hcalm := (s.calm_moduleAnswers m).trans (State.calm_standBy _ m)
  have hend : ((s.moduleAnswers m).standBy m).endsOpen := hcalm.endsOpen (State.endsOpen_of_accounts hp hacc)
  have hexec : exec (.moduleResult m true sig) s = .next ((s.moduleAnswers m).standBy m).finish :=
    (atEvent_of_running hp).trans (by rw [(State.takeResult_selfTest hst sig).2.2 hsig])
  have hpass := s.actsAt_modifyModule o m Module.passed hg
  have hacts : ActsAt o s ((s.moduleAnswers m).standBy m) := by
    rw [State.standBy_eq hg]
    exact .ite (fun _ => hpass.trans (State.actsAt_runGroup _ o)) fun _ => hpass
  have hout (q : OutletId) : ((s.moduleAnswers m).standBy m).outlet q = s.outlet q := by
    rw [State.standBy_eq hg]
    split
    · rw [State.outlet_runGroup]; rfl
    · rfl
  have hgrants : ((s.moduleAnswers m).standBy m).grants = s.grants := by
    rw [State.standBy_eq hg]
    split
    · exact (State.samePool_runGroup _ o).grants
    · rfl
  have hm : { ((s.moduleAnswers m).standBy m).module m with share := 0, command := none } =
      { Module.passed (s.module m) with
        state := if (s.outlet o).groupRuns then .running else .standby, share := 0, command := none } := by
    rw [State.standBy_eq hg]
    split
    · have h := congrArg (fun x : Module => { x with command := none })
        (State.module_runGroup (s.modifyModule m Module.passed) o m)
      rw [State.module_modifyModule_self, if_pos ⟨hg, rfl⟩] at h
      exact h
    · rw [State.module_modifyModule_self]
      rfl
  have hplain : (s.outlet o).groupRuns = false → ((s.moduleAnswers m).standBy m) = s.modifyModule m Module.passed :=
    fun h => by rw [State.standBy_eq hg, h]; rfl
  rw [hexec]
  generalize (s.moduleAnswers m).standBy m = u at hu hw hcalm hend hacts hout hgrants hm hplain ⊢
  have hpu : u.phase = .running := hcalm.phase.trans hp
  have he := State.noneEnds_of_outlets (State.noneEnds_of_ready hs) hout
  obtain ⟨hothers, hfollows⟩ := hacts.finish hs hu.queued he
  have hmods := State.modules_finish_of_waits hpu he hw
  have hmod (j : Fin 8) : u.finish.module j = u.module j := by simp only [State.module, hmods]
  refine ⟨_, rfl, ?_, ?_, ?_, ?_, fun hno hprep => ?_, hothers, hfollows⟩
  · rw [hmod]
    exact (congrArg Module.group hm).trans hg
  · rw [hmod]
    exact congrArg Module.selfTest hm
  · rw [hmod]
    exact congrArg Module.state hm
  · refine (State.passes_finish he fun r hr hro => ?_).of_same (hout o) hgrants
      (congrArg State.estopAllMade hacts.common :)
    have hfits := (hu.pool o).kinds r hr hro
    have hhome := State.group_of_sound hsound hg
    rw [hout] at hfits
    cases hk : r.kind with
    | topUp => rfl
    | initial =>
      rw [hk] at hfits
      rw [show (s.outlet o).state = .admitted from hfits] at hhome
      cases hhome
  · refine ⟨(((State.settled_iff _).1 (State.finish_settled hpu hend)).1 o).2.2, ?_⟩
    rw [State.prepared_of_preparing (fun j => congrArg Module.preparing (hmod j)), hplain hno]
    exact hprep

end Sys2Proof.Machine

open Sys2Proof.Machine in
/-- Settles O35: answers and CHARGED move one module that the allocator does not see move; a failed self-test is a
fault; a passed one leaves the queue waiting, so that PREPARE ends as soon as the last module of the initial grant
stands by. -/
theorem moduleReportsMoveLifecycle : Obligations.ModuleReportsMoveLifecycle := by
  refine ⟨fun s hs hsound m => ⟨exec_moduleAnswer hs hsound m, exec_moduleCharged hs,
    fun h => atEvent_congr (State.takeCharged_of_not h)⟩, fun s hs hsound hacc m sig =>
    ⟨fun h pass => atEvent_congr (State.takeResult_of_not h pass sig), fun o hg hst => ?_⟩⟩
  have hp := (s.ready_iff.1 hs).1
  obtain ⟨hfail, hmismatch, _⟩ := State.takeResult_selfTest hst sig
  refine ⟨?_, fun h0 h1 => ?_, fun hsig => ?_⟩
  · obtain ⟨hfault, hfol, _⟩ := State.faultModule_finish hs hsound hg .selfTestFail true (some silenceTime)
    exact ⟨_, (atEvent_of_running hp).trans (by rw [hfail, State.answers_heard]), hfault, hfol⟩
  · obtain ⟨hfault, hfol, _⟩ := State.faultModule_finish hs hsound hg .signatureMismatch true (some silenceTime)
    exact ⟨_, (atEvent_of_running hp).trans (by rw [hmismatch h0 h1, State.answers_heard]), hfault, hfol⟩
  · obtain ⟨t, ht, hgroup, htimer, hstate, hpass, hprep, hothers, hfol⟩ :=
      exec_moduleResult_pass hs hsound hacc hg hst hsig
    have hy := hpass.outlet
    refine ⟨t, ht, hgroup, htimer, ?_, by rw [hy], by rw [hy], by rw [hy], fun hph => ?_, fun hen hph hall => ?_,
      hothers, hfol⟩
    · rw [hstate]
      simp only [Outlet.groupRuns, Bool.or_eq_true, Bool.and_eq_true, beq_iff_eq]
    · rcases hpass.prepare with ⟨_, hsb⟩ | ⟨h, _⟩
      · exact hsb
      · exact (hph h).elim
    · have hno : (s.outlet o).groupRuns = false := by simp [Outlet.groupRuns, hen, hph]; rfl
      obtain ⟨hcloses, hprepared⟩ := hprep hno (State.prepared_passed hg hall)
      rcases hpass.prepare with ⟨hphase, _⟩ | ⟨_, hclosing, hsb⟩
      · have hst' : (t.outlet o).state = .energising := by rw [hy]; exact hen
        rw [State.closesNow, hst', hphase, hph, hprepared] at hcloses
        cases hcloses
      · refine ⟨hclosing, fun hb hch => ?_⟩
        rw [State.sbCommand, hsb hch hb]

end

section
/-! The orders on one module (R64, R65): SERVICE, RETURN and SIGNATURE. -/

namespace Sys2Proof.Machine

variable {s t u v w : State} {o : OutletId} {m : Fin 8} {f : Module → Module} {marks : Bool}

/-! ### A loss at which no session ends -/

/-- A module outside the committed rating, or one that does not run and carries no mark, is passed over by the marks of a
surplus. -/
theorem State.module_survive (hst : (s.module m).state ≠ .running) (hp : (s.module m).releasePending = false) :
    (s.survive o marks).module m = s.module m := by
  have hlim : (s.recomputeLimit o).module m = s.module m := by
    rw [(s.recomputeLimit_frame o).1]
    rfl
  have htop (a : State) : (a.topUp o).module m = a.module m := by simp only [State.module, State.modules_topUp]
  rw [State.survive, htop]
  split
  · rw [State.module_markSurplus, hlim]
    split
    · simp [hst, ← hp]
    · rfl
  · exact hlim

/-- Where the outlet does not trip, a loss leaves every session, and every module that does not run and carries no mark
but for its share. -/
theorem State.memberLost_keeps (h : (s.outlet o).state.supplied = true → s.runsOn o = true) :
    (∀ q, ((s.memberLost o marks).outlet q).session = (s.outlet q).session) ∧
      ∀ m, (s.module m).state ≠ .running → (s.module m).releasePending = false →
        { (s.memberLost o marks).module m with share := 0 } = { s.module m with share := 0 } := by
  have hmod (m : Fin 8) := (s.computeShares_frame o).2.2 m
  cases hsup : (s.outlet o).state.supplied with
  | true =>
    rw [(s.memberLost_cases o marks).1 hsup (h hsup)]
    refine ⟨fun q => ?_, fun m hst hp => ?_⟩
    · rw [State.outlet_survive, State.recomputeLimit_session, State.outlet_computeShares]
    · have hst' : ((s.computeShares o).module m).state = (s.module m).state := (congrArg Module.state (hmod m) :)
      have hp' : ((s.computeShares o).module m).releasePending = (s.module m).releasePending :=
        (congrArg Module.releasePending (hmod m) :)
      rw [State.module_survive (by rw [hst']; exact hst) (hp'.trans hp)]
      exact hmod m
  | false =>
    rw [(s.memberLost_cases o marks).2.2 hsup]
    refine ⟨fun q => ?_, fun m _ _ => ?_⟩
    · rw [State.recomputeLimit_session, State.outlet_computeShares]
    · rw [((s.computeShares o).recomputeLimit_frame o).1]
      exact hmod m

/-! ### SERVICE (R64) -/

/-- The other members that keep the group supplied run on without the module (R64). -/
theorem State.runsOn_of_service (hg : (s.module m).group = some o) (h : s.isLastModule m = false)
    (hsup : (s.outlet o).state.supplied = true) : (s.modifyModule m f).runsOn o = true := by
  rw [State.isLastModule, hg] at h
  dsimp only at h
  rw [hsup, Bool.true_and, List.isEmpty_eq_false_iff_exists_mem] at h
  obtain ⟨j, hj⟩ := h
  obtain ⟨hmem, hne⟩ := List.mem_filter.1 hj
  obtain ⟨hgj, hst⟩ := (State.mem_members ..).1 hmem
  have hjm : j ≠ m := by simpa using hne
  have hmod : (s.modifyModule m f).module j = s.module j := by rw [State.module_modifyModule, if_neg hjm]
  rw [State.runsOn, State.outlet_modifyModule]
  split
  · rw [Bool.not_eq_true', List.isEmpty_eq_false_iff_exists_mem]
    exact ⟨j, (State.mem_group ..).2 (by rw [hmod]; exact hgj)⟩
  · next hprep =>
    rw [Outlet.supplyingStates, if_neg hprep] at hst
    rw [Bool.not_eq_true', List.isEmpty_eq_false_iff_exists_mem]
    exact ⟨j, (State.mem_members ..).2 (by rw [hmod]; exact ⟨hgj, hst⟩)⟩

/-- A module in service is never free. -/
theorem Module.service_toService (m : Module) : m.toService.service = true ∧ m.toService.isFree = false := by
  have hservice : m.toService.service = true := by
    unfold Module.toService Module.stop Module.retire
    cases m.state <;> rfl
  exact ⟨hservice, by simp [Module.isFree, hservice]⟩

/-- What SERVICE makes of a module is what R64 says, whatever its share becomes. -/
theorem Module.servicedAs_toService (m : Module) (n : Nat) (hr : m.rest = none ∨ m.state = .off) :
    m.servicedAs { m.toService with share := n } = true := by
  unfold Module.servicedAs Module.toService
  cases hst : m.state
  case faulted | outOfService =>
    have hnone : m.rest = none := hr.resolve_right (by simp [hst])
    simp [hnone]
  case off | running | releasing => simp [Module.release, seconds]
  case precharging | selfTest | standby => simp [Module.stop, Module.retire, Module.leave]

theorem Module.toService_left {m : Module} (hm : m.state.isMember = true) (hr : m.state ≠ .releasing) :
    m.toService.state ≠ .running ∧ m.toService.releasePending = false := by
  unfold Module.toService
  cases hst : m.state
  case running => simp [Module.release]
  case precharging | selfTest | standby => simp [Module.stop, Module.retire, Module.leave]
  case releasing => exact (hr hst).elim
  case off | faulted | outOfService => rw [hst] at hm; cases hm

/-- The module that goes into service, and what the act leaves (R49, R53, R64). -/
structure Services (m : Fin 8) (s u : State) : Prop where
  module : ∃ n, u.module m = { (s.module m).toService with share := n }
  others : ∀ k, k ≠ m → ((s.module k).group = none ∨ (s.module k).group ≠ (s.module m).group) → u.module k = s.module k
  outlets : ∀ q, (s.module m).group ≠ some q → u.outlet q = s.outlet q
  session : ∀ q, (u.outlet q).session = (s.outlet q).session
  noneEnds : u.noneEnds
  common : u.common = s.common

theorem State.services_modifyModule (hs : s.ready = true) (m : Fin 8) :
    Services m s (s.modifyModule m Module.toService) where
  module := ⟨_, by rw [State.module_modifyModule_self]⟩
  others k hk _ := by rw [State.module_modifyModule, if_neg hk]
  outlets _ _ := rfl
  session _ := rfl
  noneEnds := State.noneEnds_of_outlets (State.noneEnds_of_ready hs) fun _ => rfl
  common := rfl

theorem State.services_serviceModule (hs : s.ready = true) (hsound : s.sound = true) (h : s.isLastModule m = false) :
    Services m s (s.serviceModule m) := by
  have hplain := State.services_modifyModule hs m
  simp only [State.serviceModule]
  split
  · next o hg =>
    split
    · exact hplain
    · next hst =>
      have hmem : (s.module m).state.isMember = true := by rw [State.isMember_of_sound hsound, hg]; rfl
      obtain ⟨hrun, hpending⟩ := Module.toService_left hmem hst
      have hacts := State.actsAt_memberLost (s.modifyModule m Module.toService) o (s.hasMarks o)
      have hkeeps := State.memberLost_keeps (s := s.modifyModule m Module.toService) (marks := s.hasMarks o)
        fun hsup => State.runsOn_of_service hg h hsup
      have hgroup : ∀ k, k ≠ m → ((s.module k).group = none ∨ (s.module k).group ≠ (s.module m).group) →
          ((s.modifyModule m Module.toService).module k).group ≠ some o := fun k hk hkg => by
        rw [State.module_modifyModule, if_neg hk]
        rw [hg] at hkg
        exact hkg.elim (fun e => by rw [e]; nofun) id
      refine ⟨⟨(((s.modifyModule m Module.toService).memberLost o (s.hasMarks o)).module m).share, ?_⟩,
        fun k hk hkg => ?_, fun q hq => ?_, hkeeps.1, State.noneEnds_memberLost hplain.noneEnds o _,
        hacts.common⟩
      · have hmod := hkeeps.2 m (by rw [State.module_modifyModule_self]; exact hrun)
          (by rw [State.module_modifyModule_self]; exact hpending)
        rw [State.module_modifyModule_self] at hmod
        exact (congrArg (fun x : Module => { x with
          share := (((s.modifyModule m Module.toService).memberLost o (s.hasMarks o)).module m).share }) hmod :)
      · rw [hacts.modules k (hgroup k hk hkg)]
        exact hplain.others k hk hkg
      · rw [hacts.outlets q (fun e => hq (by rw [e]; exact hg))]
        rfl
  · exact hplain

/-- SERVICE on a module that is not the last of a supplied group (R64). -/
theorem exec_moduleService (hs : s.ready = true) (hsound : s.sound = true) (h : s.isLastModule m = false) :
    ∃ t, exec (.moduleService (m.val + 1)) s = .next t ∧ (s.module m).servicedAs (t.module m) = true ∧
      t.terminal.reply = some (.ok "" [("STATE", .name (t.module m).state.name)]) ∧
      (∀ k, k ≠ m → ((s.module k).group = none ∨ (s.module k).group ≠ (s.module m).group) →
        (s.module k).keptBy (t.module k) = true) ∧
      (∀ o, (s.module m).group ≠ some o → (t.outlet o).kept = (s.outlet o).kept) ∧
      (∀ o, (t.outlet o).session = (s.outlet o).session) ∧
      t.common = { s.common with terminal := t.terminal } ∧ t.follows s = true := by
  have hp := (s.ready_iff.1 hs).1
  have hserves := State.services_serviceModule hs hsound h
  have hact : s.orderService (m.val + 1) =
      (s.serviceModule m).answer (.ok "" [("STATE", .name ((s.serviceModule m).module m).state.name)]) := by
    rw [State.orderService, State.forModule_val, if_neg (by rw [h]; nofun)]
    rfl
  have hprot := (State.protected_of_sound (M := False) hsound nofun).serviceModule m
  have hrest := ((State.protected_of_sound (M := False) hsound nofun).module m).rest
  refine ⟨_, (atEvent_of_running hp).trans (by rw [hact]), ?_⟩
  generalize s.serviceModule m = u at hserves hprot ⊢
  obtain ⟨n, hm⟩ := hserves.module
  generalize hr : Reply.ok "" [("STATE", .name (u.module m).state.name)] = r
  have hpu : u.phase = .running := (congrArg State.phase hserves.common :).trans hp
  have hq : (u.answer r).queued := hprot.queued
  have he : (u.answer r).noneEnds := hserves.noneEnds
  have ha := (u.answer r).answers_finish hq he
  have hkeep : (u.answer r).finish.module m = u.module m := State.module_finish (s := u.answer r) hq he (by
    show (u.module m).isFree = false
    rw [hm]
    exact (s.module m).service_toService.2)
  have hstated := State.finish_stated (u := u.answer r) hpu
  generalize (u.answer r).finish = t at ha hkeep hstated ⊢
  have hterm : t.terminal = (u.answer r).terminal := (congrArg State.terminal ha.common :)
  refine ⟨?_, ?_, fun k hk hkg => ?_, fun o ho => ?_, fun o => ?_, ?_, State.follows_iff.2 ⟨hstated, ?_⟩⟩
  · rw [hkeep, hm]
    exact (s.module m).servicedAs_toService n hrest
  · rw [hterm, hkeep, ← hr]
    rfl
  · rw [← hserves.others k hk hkg]
    exact ha.modules k
  · rw [← hserves.outlets o ho]
    exact ha.outlets o
  · rw [← hserves.session o]
    exact (congrArg Outlet.session (ha.outlets o) :)
  · rw [ha.common, hterm, ← hserves.common]
    rfl
  · exact (congrArg State.status ha.common :).trans (congrArg State.status hserves.common :)

/-! ### RETURN (R65) -/

/-- A module that returns to the pool, to rest there first. -/
def Module.returned (m : Module) : Module := { m with state := .off, rest := some restTime, service := false }

theorem exec_moduleReturn (hs : s.ready = true) (hsound : s.sound = true)
    (h : (s.module m).state = .outOfService ∨ (s.module m).state = .faulted) :
    ∃ t, exec (.moduleReturn (m.val + 1)) s = .next t ∧
      t = { (s.answer (.ok "" [])).modifyModule m Module.returned with status := t.status } ∧ t.follows s = true := by
  have hp := (s.ready_iff.1 hs).1
  have hact : s.orderReturn (m.val + 1) = (s.answer (.ok "" [])).modifyModule m Module.returned := by
    rw [State.orderReturn, State.forModule_val]
    exact if_pos h
  have hg : (s.module m).group = none := by
    rw [← Option.not_isSome_iff_eq_none, ← State.isMember_of_sound hsound]
    rcases h with h | h
    · rw [h]; nofun
    · rw [h]; nofun
  have hfree (k : Module) : k.returned.isFree = false := by simp [Module.isFree, Module.returned]
  have hready : (s.answer (.ok "" [])).ready = true := hs
  have hstand := State.Standing.of_outside (f := Module.returned) hready ((State.sound_answer s _).trans hsound)
    (m := m) hg hg fun hf => by rw [hfree] at hf; cases hf
  obtain ⟨t, ht, heq, hfol, _⟩ := hstand.event (s := s) (act := fun s => s.orderReturn (m.val + 1)) hp hact hp rfl
  exact ⟨t, ht, heq, hfol⟩

/-- The return of a module whose drain still runs Clears its service flag alone. -/
theorem exec_moduleReturn_releasing (hs : s.ready = true) (hst : (s.module m).state = .releasing)
    (hservice : (s.module m).service = true) :
    exec (.moduleReturn (m.val + 1)) s =
      .next ((s.answer (.ok "" [])).modifyModule m fun x => { x with service := false }) := by
  have hact : s.orderReturn (m.val + 1) = (s.answer (.ok "" [])).modifyModule m fun x => { x with service := false } := by
    rw [State.orderReturn, State.forModule_val]
    dsimp only
    rw [if_neg (by simp [hst]), if_pos ⟨hst, hservice⟩]
    rfl
  have hready : ((s.answer (.ok "" [])).modifyModule m fun x => { x with service := false }).ready = true := by
    refine State.ready_modifyModule (hs : (s.answer (.ok "" [])).ready = true) ?_ rfl Iff.rfl
    rw [show (s.answer (.ok "" [])).module m = s.module m from rfl]
    simp only [Module.pooled, Module.isFree, hst]
    rfl
  rw [← hact] at hready ⊢
  exact atEvent_of_ready (s.ready_iff.1 hs).1 hready

/-! ### SIGNATURE (R65) -/

/-- A module given another signature and rating. -/
def Module.named (m : Module) (sig rating : Nat) : Module := { m with signature := sig, rating := rating }

/-- SIGNATURE on a module outside every group: the nameplate is replaced, and the queue examined. -/
theorem exec_signature (hs : s.ready = true) (hsound : s.sound = true) (hm : (s.module m).state.isMember = false)
    {sig rating : Nat} (hsig : sig ≤ 4294967295) :
    let given := clampNat 500 4000 rating
    ∃ t, exec (.signature (m.val + 1) sig rating) s = .next t ∧ (t.module m).signature = sig ∧
      (t.module m).rating = given ∧ ((s.module m).named sig given).keptBy (t.module m) = true ∧
      (∀ k, k ≠ m → (s.module k).keptBy (t.module k) = true) ∧
      t.terminal.reply = some
        (let pairs := [("EXPECTED_SIGNATURE", Value.number sig), ("RATING", .number given)]
         if given != rating then .clamped pairs else .ok "" pairs) ∧
      (∀ o, (t.outlet o).kept = (s.outlet o).kept) ∧
      t.common = { s.common with terminal := t.terminal } ∧ t.follows s = true := by
  intro given
  have hp := (s.ready_iff.1 hs).1
  generalize hr : (let pairs := [("EXPECTED_SIGNATURE", Value.number sig), ("RATING", Value.number given)]
    if given != rating then Reply.clamped pairs else .ok "" pairs) = r
  have hact : s.orderSignature (m.val + 1) sig rating = (s.modifyModule m (·.named sig given)).answer r := by
    rw [State.orderSignature, State.forModule_val]
    dsimp only
    rw [if_neg (by simpa [Config.max32] using hsig), if_neg (by simp [hm]), ← hr]
    rfl
  have hq := ((State.protected_of_sound (M := False) hsound nofun).orderSignature (m.val + 1) sig rating).queued
  rw [hact] at hq
  have he : ((s.modifyModule m (·.named sig given)).answer r).noneEnds :=
    State.noneEnds_of_outlets (State.noneEnds_of_ready hs) fun _ => rfl
  have ha := State.answers_finish _ hq he
  obtain ⟨hsig', hrating⟩ := State.nameplate_finish he m
  have hmod (j : Fin 8) : ((s.modifyModule m (·.named sig given)).answer r).module j =
      if j = m then (s.module m).named sig given else s.module j := State.module_modifyModule s m (·.named sig given) j
  have hstated := State.finish_stated (u := (s.modifyModule m (·.named sig given)).answer r) hp
  refine ⟨_, (atEvent_of_running hp).trans (by rw [hact]), ?_⟩
  generalize ((s.modifyModule m (·.named sig given)).answer r).finish = t at ha hsig' hrating hstated ⊢
  have hterm : t.terminal = ((s.modifyModule m (·.named sig given)).answer r).terminal :=
    (congrArg State.terminal ha.common :)
  rw [hmod, if_pos rfl] at hsig' hrating
  refine ⟨hsig', hrating, ?_, fun k hk => ?_, by rw [hterm]; rfl, ha.outlets, ?_, State.follows_iff.2 ⟨hstated, ?_⟩⟩
  · have := ha.modules m
    rwa [hmod, if_pos rfl] at this
  · have := ha.modules k
    rwa [hmod, if_neg hk] at this
  · rw [ha.common, hterm]
    rfl
  · exact (congrArg State.status ha.common :)

end Sys2Proof.Machine

open Sys2Proof.Machine in
/-- Settles O18: a module goes into service as a member lost, where others supply its group; a returned module rests
first; a new nameplate lets the queue be examined. -/
theorem moduleOrdersServeAndReturn : Obligations.ModuleOrdersServeAndReturn := by
  refine ⟨fun s hs hsound m h => exec_moduleService hs hsound h, fun s hs hsound m =>
    ⟨exec_moduleReturn hs hsound, exec_moduleReturn_releasing hs⟩, fun s hs hsound m hm sig rating hsig => ?_⟩
  have hgiven : (if rating < 500 then 500 else min rating 4000) = clampNat 500 4000 rating := by
    unfold clampNat
    split
    · rfl
    · split <;> omega
  rw [hgiven]
  obtain ⟨t, ht, hsig', hrating, hkept, hothers, hreply, hrest⟩ := exec_signature hs hsound hm (rating := rating) hsig
  refine ⟨t, ht, hsig', hrating, hkept, hothers, hreply.trans (congrArg some ?_), hrest⟩
  by_cases h : clampNat 500 4000 rating = rating
  · rw [if_pos h, if_neg (by simp [h])]
  · rw [if_neg h, if_pos (by simpa using h)]

end

section
/-! The shares of a running group add up to the whole (R81, R82). -/

namespace Sys2Proof.Machine

variable {s t u : State} {o : OutletId}

theorem sum_equalPart (remainder n k : Nat) :
    ((List.range k).map (equalPart remainder n)).sum = k * (remainder / n) + min k (remainder % n) := by
  induction k with
  | zero => simp
  | succ k ih =>
    rw [List.range_succ, List.map_append, List.sum_append, ih, List.map_singleton, List.sum_singleton, equalPart,
      Nat.succ_mul]
    split <;> omega

/-- The equal parts of a remainder add up to it. -/
theorem sum_equalParts (remainder : Nat) {n : Nat} (hn : 0 < n) :
    ((List.range n).map (equalPart remainder n)).sum = remainder := by
  rw [sum_equalPart, Nat.min_eq_right (Nat.mod_lt _ hn).le]
  exact Nat.div_add_mod remainder n

theorem State.sum_shareOut (remainder n : Nat) {ms : List (Fin 8)} (hms : ms.Nodup) (i : Nat) (s : State) :
    (ms.map fun m => ((s.shareOut remainder n ms i).module m).share).sum =
      ((List.range' i ms.length).map (equalPart remainder n)).sum := by
  induction ms generalizing s i with
  | nil => rfl
  | cons k ms ih =>
    obtain ⟨hk, hms⟩ := List.nodup_cons.1 hms
    have hrest := ih hms (i + 1) (s.modifyModule k fun x => { x with share := equalPart remainder n i })
    have hkept := (State.shareOut_spec (s.modifyModule k fun x => { x with share := equalPart remainder n i })
      remainder n ms (i + 1)).2.1 k hk
    simp only [State.shareOut, List.map_cons, List.sum_cons, List.length_cons, List.range'_succ, hrest, hkept,
      State.module_modifyModule_self]

/-- The group of an outlet that does not stand in STOPPED: the RUNNING members carry what the RELEASING ones leave. -/
theorem State.sum_computeShares (hmode : (s.outlet o).reference.mode ≠ .stopped) (hu : s.computeShares o = u)
    (hrun : u.members o [.running] ≠ [])
    (hcarried : ((u.members o [.releasing]).map fun m => (u.module m).share).sum ≤ 1000) :
    ((u.members o [.running, .releasing]).map fun m => (u.module m).share).sum = 1000 := by
  have hmem (sts : List ModuleState) : u.members o sts = s.members o sts := State.members_congr fun m => by
    have hi := (s.inert_computeShares o).module m
    rw [hu] at hi
    rw [show (u.module m).group = _ from congrArg ModuleCore.group hi,
      show (u.module m).state = _ from congrArg ModuleCore.state hi]
    rfl
  generalize hc : ((s.members o [.releasing]).map fun m => (s.module m).share).sum = carried
  have e : s.shareOut (1000 - carried) (s.members o [.running]).length (s.members o [.running]) 0 = u := by
    rw [← hu, ← hc]
    exact (if_neg hmode).symm
  obtain ⟨_, hothers, _⟩ := s.shareOut_spec (1000 - carried) (s.members o [.running]).length (s.members o [.running]) 0
  have hshares := State.sum_shareOut (1000 - carried) (s.members o [.running]).length (s.members_nodup o [.running]) 0 s
  rw [e] at hothers hshares
  rw [hmem] at hrun hcarried ⊢
  have hreleasing : ((s.members o [.releasing]).map fun m => (u.module m).share).sum = carried := by
    rw [← hc]
    refine congrArg List.sum (List.map_congr_left fun m hm => ?_)
    rw [hothers m]
    intro hrunning
    have h1 := ((State.mem_members ..).1 hm).2
    have h2 := ((State.mem_members ..).1 hrunning).2
    rw [List.mem_singleton] at h1 h2
    rw [h1] at h2
    cases h2
  have hsplit : ((s.members o [.running, .releasing]).map fun m => (u.module m).share).sum =
      ((s.members o [.running]).map fun m => (u.module m).share).sum +
        ((s.members o [.releasing]).map fun m => (u.module m).share).sum := by
    simp only [State.members, sum_map_filter, ← List.sum_map_add]
    refine congrArg List.sum (List.map_congr_left fun m _ => ?_)
    cases (s.module m).state <;> simp
  rw [hreleasing] at hcarried
  rw [hsplit, hreleasing, hshares, ← List.range_eq_range', sum_equalParts _ (List.length_pos_iff.2 hrun)]
  omega

end Sys2Proof.Machine
end

section
/-! The timers of the pool (R10, R44, R49, R57): the end of a drain, of a rest, and of a request's wait. -/

namespace Sys2Proof.Machine

variable {s t u v w : State} {o : OutletId} {m : Fin 8} {f : Module → Module} {r : Request}

theorem State.accounts_elapse (h : s.accounts = true) (hp : s.phase = .running) (n : Nat) :
    (s.elapse n).accounts = true := by
  rw [← h]
  simp only [State.accounts, State.atRest_of_running hp, State.atRest_of_running (s := s.elapse n) hp,
    State.recordsSound, State.energyKept, State.standingImport, State.elapse_outlet]
  rfl

/-! ### The end of a drain (R49, R82) -/

/-- Between `s` and `u` one module has moved that counts towards no committed rating in either, and shares have. -/
structure Aside (m : Fin 8) (s u : State) : Prop where
  frame : u = { s with modules := u.modules }
  before : ∀ q, ¬((s.module m).group = some q ∧ (s.module m).state ∈ committedStates)
  after : ∀ q, ¬((u.module m).group = some q ∧ (u.module m).state ∈ committedStates)
  others : ∀ j, j ≠ m → { u.module j with share := 0 } = { s.module j with share := 0 }
  unfree : (u.module m).isFree = false

theorem Aside.same (h : Aside m s u) {j : Fin 8} (hj : j ≠ m) : (u.module j).group = (s.module j).group ∧
    (u.module j).state = (s.module j).state ∧ (u.module j).initial = (s.module j).initial ∧
      (u.module j).rating = (s.module j).rating ∧ (u.module j).isFree = (s.module j).isFree :=
  ⟨(congrArg Module.group (h.others j hj) :), (congrArg Module.state (h.others j hj) :),
    (congrArg Module.initial (h.others j hj) :), (congrArg Module.rating (h.others j hj) :),
    (congrArg Module.isFree (h.others j hj) :)⟩

/-- No figure of the pool over committed states moves. -/
theorem Aside.ratings_eq (h : Aside m s u) (q : OutletId) {sts : List ModuleState}
    (hsts : ∀ st ∈ sts, st ∈ committedStates) : u.ratings (u.members q sts) = s.ratings (s.members q sts) := by
  have hsum (a : State) : a.ratings (a.members q sts) = (allModules.map fun j =>
      if (a.module j).group = some q ∧ (a.module j).state ∈ sts then (a.module j).rating else 0).sum := by
    simp only [State.ratings, State.members, State.group, List.filter_filter, sum_map_filter]
    refine congrArg List.sum (List.map_congr_left fun j _ => ?_)
    simp [and_comm]
  rw [hsum, hsum]
  refine congrArg List.sum (List.map_congr_left fun j _ => ?_)
  by_cases hj : j = m
  · subst hj
    rw [if_neg fun k => h.after q ⟨k.1, hsts _ k.2⟩, if_neg fun k => h.before q ⟨k.1, hsts _ k.2⟩]
  · obtain ⟨hg, hst, _, hr, _⟩ := h.same hj
    rw [hg, hst, hr]

theorem Aside.prepared_eq (h : Aside m s u) (q : OutletId) : u.prepared q = s.prepared q := by
  have hsub : ∀ st ∈ [ModuleState.precharging, .selfTest], st ∈ committedStates := by decide
  have hstandby : ModuleState.standby ∈ committedStates := by decide
  rw [Bool.eq_iff_iff, State.prepared_iff, State.prepared_iff]
  refine and_congr (forall_congr' fun k => ?_) (exists_congr fun k => ?_)
  · by_cases hk : k = m
    · subst hk
      exact iff_of_true (fun hg hst => (h.after q ⟨hg, hsub _ hst⟩).elim)
        fun hg hst => (h.before q ⟨hg, hsub _ hst⟩).elim
    · obtain ⟨hg, hst, hi, _⟩ := h.same hk
      rw [hg, hst, hi]
  · by_cases hk : k = m
    · subst hk
      exact iff_of_false (fun k => h.after q ⟨k.1, by rw [k.2]; exact hstandby⟩)
        fun k => h.before q ⟨k.1, by rw [k.2]; exact hstandby⟩
    · obtain ⟨hg, hst, _⟩ := h.same hk
      rw [hg, hst]

/-- Such a move leaves nothing to settle. -/
theorem Aside.standing (h : Aside m s u) (hs : s.ready = true) (hsound : s.sound = true) : u.Standing := by
  have hout (q : OutletId) : u.outlet q = s.outlet q := by rw [h.frame]; rfl
  have hcommitted (q : OutletId) : u.committed q = s.committed q := h.ratings_eq q fun _ hst => hst
  refine (State.Standing.of_ready hs).of_modules h.frame hcommitted (fun q => h.ratings_eq q (by decide))
    (fun q => ?_) (State.queueWaits_of_fewer (State.Standing.of_ready hs).queue (fun k hk => ?_) (by rw [h.frame])
      (by rw [h.frame]) (fun q => by rw [State.admitted, hout]; rfl) hcommitted fun j hj => ?_)
  · have hold := ((State.Standing.of_ready hs).outlets q).2.2
    rwa [State.closesNow, hout, h.prepared_eq]
  · have := State.wanted_of_sound hsound hk
    have := s.committedUnmarked_le_committed k.outlet
    omega
  · have hjm : j ≠ m := by
      rintro rfl
      rw [h.unfree] at hj
      cases hj
    obtain ⟨_, _, _, hr, hfree⟩ := h.same hjm
    exact ⟨hfree ▸ hj, hr⟩

theorem Module.isFree_stop (m : Module) : m.stop.isFree = false := by
  rw [Module.stop, Module.retire]
  split
  · rw [← Bool.not_eq_true]
    exact fun h => by cases Module.isFree_off h
  · simp [Module.isFree]

/-- A module after its drain. -/
theorem Module.stop_spec (m : Module) : m.stop.group = none ∧ m.stop.share = 0 ∧ m.stop.drain = none ∧
    m.stop.command = some .stop ∧ m.stop.state = (if m.service then .outOfService else .off) ∧
    m.stop.rest = if m.service then none else some (30 * Config.ticksPerSecond) := by
  rw [Module.stop, Module.retire]
  cases m.service <;> exact ⟨rfl, rfl, rfl, rfl, rfl, rfl⟩

/-- A drained module leaves its group, and the shares follow. -/
def State.drained (s : State) (m : Fin 8) (o : OutletId) : State := (s.modifyModule m Module.stop).computeShares o

theorem State.endDrain_eq (hg : (s.module m).group = some o) : s.endDrain m = s.drained m o := by
  rw [State.endDrain, hg]
  rfl

theorem State.module_drained (s : State) (m : Fin 8) (o : OutletId) : (s.drained m o).module m = (s.module m).stop := by
  rw [State.drained, ((s.modifyModule m Module.stop).computeShares_frame o).2.1 m, State.module_modifyModule_self]
  rw [State.module_modifyModule_self, Module.group_stop]
  nofun

theorem State.aside_drained (hst : (s.module m).state = .releasing) (o : OutletId) : Aside m s (s.drained m o) where
  frame := ((s.modifyModule m Module.stop).computeShares_frame o).1
  before q h := by rw [hst] at h; exact absurd h.2 (by decide)
  after q h := by rw [State.module_drained, Module.group_stop] at h; cases h.1
  others j hj := by
    have h := ((s.modifyModule m Module.stop).computeShares_frame o).2.2 j
    rwa [State.module_modifyModule, if_neg hj] at h
  unfree := by rw [State.module_drained, Module.isFree_stop]

theorem exec_drainTimerExpiry {n : Nat} (hs : s.ready = true) (hsound : s.sound = true)
    (hn : (s.module m).drain = some n) (hg : (s.module m).group = some o) (hst : (s.module m).state = .releasing) :
    ∃ t, exec (.drainTimerExpiry m) s = .next t ∧
      t = { (s.elapse n).drained m o with status := t.status } ∧ t.follows s = true := by
  have hp := (s.ready_iff.1 hs).1
  have hg' : ((s.elapse n).module m).group = some o := by rw [State.elapse_module]; exact hg
  have hst' : ((s.elapse n).module m).state = .releasing := by rw [State.elapse_module]; exact hst
  have haside := State.aside_drained hst' o
  have hact : s.atExpiry (s.module m).drain (·.endDrain m) = (s.elapse n).drained m o := by
    rw [hn, State.atExpiry_some, State.endDrain_eq hg']
  obtain ⟨t, ht, heq, hfol, _⟩ := (haside.standing ((s.ready_elapse n).trans hs) (State.sound_elapse hsound hp n)).event
    (s := s) (act := fun s => s.atExpiry (s.module m).drain (·.endDrain m)) hp hact (by rw [haside.frame]; exact hp)
    (by rw [haside.frame]; rfl)
  exact ⟨t, ht, heq, hfol⟩

/-! ### The end of a rest (R44) -/

theorem exec_restTimeExpiry {n : Nat} (hs : s.ready = true) (hsound : s.sound = true) (hn : (s.module m).rest = some n) :
    ∃ t, exec (.restTimeExpiry m) s = .next t ∧
      ({ (s.elapse n).module m with rest := none }).keptBy (t.module m) = true ∧
      (∀ j, j ≠ m → ((s.elapse n).module j).keptBy (t.module j) = true) ∧
      (∀ o, (t.outlet o).kept = ((s.elapse n).outlet o).kept) ∧ t.common = (s.elapse n).common ∧
      t.follows s = true := by
  have hp := (s.ready_iff.1 hs).1
  have hexec : exec (.restTimeExpiry m) s =
      .next ((s.elapse n).modifyModule m fun x => { x with rest := none }).finish :=
    (atEvent_atExpiry (timer := fun s => (s.module m).rest)
      (act := fun s => s.modifyModule m fun x => { x with rest := none }) hp hn).trans
        (atEvent_of_running (by rw [State.elapse_phase]; exact hp))
  have hready : (s.elapse n).ready = true := (s.ready_elapse n).trans hs
  have hsound' := State.sound_elapse hsound hp n
  have hcommon : (s.elapse n).status = s.status := rfl
  rw [hexec]
  generalize s.elapse n = v at hready hsound' hcommon ⊢
  have hq := ((State.protected_of_sound (M := False) hsound' nofun).rested m).queued
  have ha := State.answers_finish _ hq (State.noneEnds_of_outlets (State.noneEnds_of_ready hready) fun _ => rfl)
  have hstated := State.finish_stated (u := v.modifyModule m fun x => { x with rest := none }) (v.ready_iff.1 hready).1
  refine ⟨_, rfl, ?_, fun j hj => ?_, ha.outlets, ha.common, State.follows_iff.2 ⟨hstated, ?_⟩⟩
  · have := ha.modules m
    rwa [State.module_modifyModule_self] at this
  · have := ha.modules j
    rwa [State.module_modifyModule, if_neg hj] at this
  · rw [← hcommon]
    exact (congrArg State.status ha.common :)

/-! ### The end of an event that moves no limit -/

/-- Where the limits stand and BUDGET_OVER is as the claims say, the end of an event at which no session closes moves no
limit: a grant raises a claim within the grid import limit alone, so that BUDGET_OVER is not Cleared (R52, R55). -/
theorem State.limits_finish (hp : s.phase = .running) (he : s.noneEnds) (hl : s.limitsStand)
    (hb : s.budgetOver = decide (s.gridLimit < s.claims)) (q : OutletId) :
    (s.finish.outlet q).limit = (s.outlet q).limit := by
  have hsame : s.recomputeLimits = s := by
    rw [State.recomputeLimits, State.recomputeLimit_of_same (hl .a), State.recomputeLimit_of_same (hl .b),
      State.recomputeLimit_of_same (hl .c)]
  have hexamine (n : Nat) (a : State) (hc : Claims s a) (hb : a.budgetOver = s.budgetOver) :
      Claims s (a.examine n) ∧ (a.examine n).budgetOver = s.budgetOver ∧
        ((a.examine n).outlet q).limit = (a.outlet q).limit := by
    induction n generalizing a with
    | zero => exact ⟨hc, hb, rfl⟩
    | succ n ih =>
      simp only [State.examine]
      split
      · exact ⟨hc, hb, rfl⟩
      · next r rest _ =>
        split
        · exact ⟨hc, hb, rfl⟩
        · next ms hm =>
          obtain ⟨h1, h2, h3⟩ := ih (a.grant r rest ms) (hc.grant rest hm) (by rw [State.grant_frame]; exact hb)
          exact ⟨h1, h2, h3.trans (a.grant_outlet r rest ms q).1⟩
  have hprepare (a : State) (o : OutletId) : ((a.endPrepare o).outlet q).limit = (a.outlet q).limit :=
    (a.endPrepare_settles o).2.2.2.2.1 q
  obtain ⟨hclaims, hbudget, hlimit⟩ := hexamine s.grants.length s (.refl s) rfl
  have hsettle : ((s.examine s.grants.length).settleBudget.outlet q).limit = (s.outlet q).limit := by
    rw [State.settleBudget, if_neg]
    · exact hlimit
    · rw [hbudget, hb, hclaims.gridLimit]
      have := hclaims.claims_le
      simp only [Bool.and_eq_true, decide_eq_true_eq, Bool.not_eq_true', decide_eq_false_iff_not]
      omega
  rw [State.finish_of_noneEnds hp he, State.outlet_reportAll, hprepare, hprepare, hprepare, State.reallocate, hsame]
  exact hsettle

/-- The end of an event adds no member to a group for which nothing is asked. -/
theorem State.group_finish (he : s.noneEnds) (hfree : s.freeApart) (hr : ∀ r ∈ s.grants, r.outlet ≠ o) :
    s.finish.group o = s.group o := by
  let P (a : State) : Prop :=
    (∀ m, (a.module m).group = some o ↔ (s.module m).group = some o) ∧ (∀ r ∈ a.grants, r.outlet ≠ o) ∧ a.freeApart
  have same (a b : State) (hm : b.modules = a.modules) (hg : b.grants = a.grants) (h : P a) : P b := by
    have hmod (m : Fin 8) : b.module m = a.module m := by simp only [State.module, hm]
    exact ⟨fun m => by rw [hmod]; exact h.1 m, by rw [hg]; exact h.2.1, State.freeApart_of_module h.2.2 hmod⟩
  have hfin : P s.finish := State.finish_induction (P := P)
    (fun a q => same _ _ (by rw [(a.recomputeLimit_frame q).1]) (by rw [(a.recomputeLimit_frame q).1]))
    (fun a r rest ms hg hm h => ?_) (fun a b => same _ _ rfl rfl)
    (fun a q => same _ _ (by rw [(a.endPrepare_spec q).1]) (by rw [(a.endPrepare_spec q).1]))
    (fun a v => same _ _ rfl rfl) he ⟨fun _ => Iff.rfl, hr, hfree⟩
  · have hgroup (m : Fin 8) : ((s.finish.module m).group == some o) = ((s.module m).group == some o) := by
      rw [Bool.eq_iff_iff, beq_iff_eq, beq_iff_eq, hfin.1]
    simp only [State.group, hgroup]
  · obtain ⟨hgroup, hreq, hap⟩ := h
    obtain ⟨hnd, hms, _⟩ := State.grantable_spec hm
    rw [hg] at hreq
    refine ⟨fun m => ?_, by rw [State.grant_frame]; exact fun k hk => hreq k (List.mem_cons_of_mem _ hk),
      State.freeApart_grant hm hap⟩
    have e : ((a.grant r rest ms).module m).group =
        (if m ∈ ms then (a.module m).grantTo r.outlet r.kind else a.module m).group :=
      (congrArg Module.group (State.grant_module rest hnd m) :)
    rw [e, ← hgroup]
    split
    · next hmem =>
      rw [hap m (hms m hmem)]
      refine iff_of_false (fun h => ?_) nofun
      exact hreq r List.mem_cons_self (Option.some.inj h)
    · rfl

/-! ### The end of a request's wait (R10, R57) -/

theorem State.request_mem (h : s.request o = some r) : r ∈ s.grants ∧ r.outlet = o :=
  ⟨List.mem_of_find?_eq_some h, by simpa using List.find?_some h⟩

theorem exec_grantWaitExpiry (hp : s.phase = .running) (h : s.request o = some r) :
    exec (.grantWaitExpiry o) s = .next ((s.elapse r.wait).expireRequest r).finish := by
  refine (atEvent_of_running (act := fun s => match s.request o with
    | none => s
    | some r => s.atExpiry (some r.wait) fun s => s.expireRequest r) hp).trans ?_
  rw [h]
  rfl

/-- A top-up that expires is dropped with TOPUP_EXPIRED (R57). -/
theorem State.topUp_expires (hs : s.ready = true) (hsound : s.sound = true) (hk : r.kind = .topUp)
    (ho : r.outlet = o) :
    let t := (s.expireRequest r).finish
    t.request o = none ∧ t.hasRaised s o .topupExpired = true ∧ (t.outlet o).state = (s.outlet o).state ∧
      (t.outlet o).limit = (s.outlet o).limit ∧ t.group o = s.group o ∧ t.leavesOthers s o = true ∧
      t.follows s = true := by
  have hu : s.expireRequest r = (s.withdraw o).raiseAt o .topupExpired := by rw [State.expireRequest, hk, ho]
  have hq := ((State.protected_of_sound (M := False) hsound nofun).withdraw o).inert
    ((s.withdraw o).inert_raiseAt o .topupExpired) |>.queued
  have hreq : ∀ r ∈ ((s.withdraw o).raiseAt o .topupExpired).grants, r.outlet ≠ o := s.requests_withdraw o
  have hacts : ActsAt o s ((s.withdraw o).raiseAt o .topupExpired) :=
    (s.actsAt_withdraw o).trans ((s.withdraw o).actsAt_raiseAt o .topupExpired)
  have hready := State.Standing.of_ready hs
  have he : ((s.withdraw o).raiseAt o .topupExpired).noneEnds :=
    State.noneEnds_of_outlets (State.noneEnds_of_ready hs) fun _ => rfl
  obtain ⟨hothers, hfol⟩ := hacts.finish hs hq he
  have hpass := State.passes_finish he (o := o) fun r hr hro => (hreq r hr hro).elim
  have hcount := State.count_finish hreq he (e := .topupExpired) (by decide)
  rw [State.count_raiseAt _ _ _ (by decide), if_pos rfl] at hcount
  have hlimit := State.limits_finish (s := (s.withdraw o).raiseAt o .topupExpired) (s.ready_iff.1 hs).1 he
    (fun q => (hready.outlets q).2.1) hready.budget o
  have hgroup := State.group_finish he (State.freeApart_of_sound hsound : s.freeApart) hreq
  dsimp only
  rw [hu]
  refine ⟨State.request_none fun k hk' => hreq k (hpass.requests k hk'), State.hasRaised_of_count hcount, ?_, hlimit,
    hgroup, hothers, hfol⟩
  rw [hpass.outlet]
  rfl

/-- An initial request that expires ends its session with NO_CAPACITY (R10). -/
theorem State.expireRequest_initial (hk : r.kind = .initial) (ho : r.outlet = o) :
    s.expireRequest r = s.deEnergise o .noCapacity := by
  have htwice : (((s.withdraw o).modify o (·.ending .noCapacity)).withdraw o) =
      (s.modify o (·.ending .noCapacity)).withdraw o := by
    simp only [State.withdraw, State.modify, State.outlet, List.filter_filter, Bool.and_self]
  rw [State.expireRequest, hk, ho]
  dsimp only
  rw [State.deEnergise_eq, State.deEnergise_eq, htwice]
  rfl

/-- The session of an initial request that expires, whether it closes at once or ends once the SB opens (R10, R21). -/
theorem State.initial_expires {k : Session} (hs : s.ready = true) (hsound : s.sound = true) (hacc : s.accounts = true)
    (hr : r ∈ s.grants) (hk : r.kind = .initial) (ho : r.outlet = o) (hsession : (s.outlet o).session = some k) :
    Ended o s (s.expireRequest r) (s.expireRequest r).finish k .noCapacity ∧
      ((s.expireRequest r).outlet o).sb = (s.outlet o).sb := by
  have hst : (s.outlet o).state = .admitted := by
    rw [← ho]
    exact State.initial_admitted ((State.sound_iff s).1 hsound).2.2.2 hr hk
  obtain ⟨hending, _, _, hsb, _⟩ := State.deEnergise_spec hsession (by rw [hst]; nofun) .noCapacity
  rw [State.expireRequest_initial hk ho]
  refine ⟨hending.finish hs hsound hacc, hsb.trans (if_neg ?_)⟩
  rw [hst]
  decide

end Sys2Proof.Machine

open Sys2Proof.Machine in
/-- Settles O37: a drained module counts nowhere, so that nothing settles; an expired top-up takes no limit and no member
with it; an expired initial request is the ending of an admitted session. -/
theorem poolTimersRun : Obligations.PoolTimersRun := by
  intro s hs hsound hacc
  have hp := (s.ready_iff.1 hs).1
  refine ⟨fun m => ⟨fun hn => atEvent_of_idle hs (by rw [hn]; rfl), fun hn => atEvent_of_idle hs (by rw [hn]; rfl),
    fun n hn o hg hst => ?_, fun n hn => exec_restTimeExpiry hs hsound hn⟩, fun o => ⟨fun hn =>
      atEvent_of_idle hs (by rw [hn]), fun r hr => ?_⟩⟩
  · obtain ⟨t, ht, heq, hfol⟩ := exec_drainTimerExpiry hs hsound hn hg hst
    have hmods : t.modules = ((s.elapse n).drained m o).modules := by rw [heq]
    have hmod (j : Fin 8) : t.module j = ((s.elapse n).drained m o).module j := by simp only [State.module, hmods]
    have haside := State.aside_drained (s := s.elapse n) (m := m) (by rw [State.elapse_module]; exact hst) o
    obtain ⟨h1, h2, h3, h4, h5, h6⟩ := ((s.elapse n).module m).stop_spec
    have hservice : ((s.elapse n).module m).service = (s.module m).service := by rw [State.elapse_module]; rfl
    rw [hservice] at h5 h6
    have hm : t.module m = ((s.elapse n).module m).stop := (hmod m).trans (State.module_drained _ m o)
    refine ⟨t, ht, by rw [hm, h1], by rw [hm, h2], by rw [hm, h3], by rw [hm, h4], by rw [hm, h5], by rw [hm, h6],
      fun j hj => by rw [hmod]; exact haside.others j hj, fun j hj hjg => ?_, fun hmode hrun hsum => ?_, ?_, hfol⟩
    · have hjn : ((s.elapse n).modifyModule m Module.stop).module j = (s.elapse n).module j := by
        rw [State.module_modifyModule, if_neg hj]
      rw [hmod, State.drained, (((s.elapse n).modifyModule m Module.stop).computeShares_frame o).2.1 j, hjn]
      rw [hjn, State.elapse_module]
      exact hjg
    · have hmem (sts : List ModuleState) : t.members o sts = ((s.elapse n).drained m o).members o sts :=
        State.members_congr fun j => by rw [hmod]
      simp only [hmem, hmod] at hrun hsum ⊢
      refine State.sum_computeShares (s := (s.elapse n).modifyModule m Module.stop) ?_ rfl hrun hsum
      rw [State.outlet_modifyModule, State.elapse_outlet]
      exact hmode
    · rw [heq, haside.frame]
  · obtain ⟨hmem, ho⟩ := State.request_mem hr
    have hready : (s.elapse r.wait).ready = true := (s.ready_elapse r.wait).trans hs
    have hsound' := State.sound_elapse hsound hp r.wait
    have hexec := exec_grantWaitExpiry hp hr
    have hmem' : { r with wait := r.wait - r.wait } ∈ (s.elapse r.wait).grants := List.mem_map_of_mem hmem
    have hinitial (hk : r.kind = .initial) (k : Session) (hsession : (s.outlet o).session = some k) :=
      State.initial_expires hready hsound' (State.accounts_elapse hacc hp r.wait) hmem' hk ho
        (by rw [State.elapse_outlet]; exact hsession)
    have hsame : (s.elapse r.wait).expireRequest { r with wait := r.wait - r.wait } =
        (s.elapse r.wait).expireRequest r := rfl
    rw [hsame] at hinitial
    have hsb : ((s.elapse r.wait).outlet o).sb.feedback = (s.outlet o).sb.feedback ∧
        ((s.elapse r.wait).outlet o).sb.channel = (s.outlet o).sb.channel := by
      rw [State.elapse_outlet]
      exact ⟨rfl, rfl⟩
    refine ⟨fun hk => ?_, fun hk hfb k hsession => ?_, fun hk hfb k hsession => ?_⟩
    · obtain ⟨h1, h2, h3, h4, h5, h6, h7⟩ := State.topUp_expires hready hsound' hk ho
      rw [State.elapse_outlet] at h3 h4
      rw [State.elapse_group] at h5
      exact ⟨_, hexec, h1, h2, h3, h4, h5, h6, h7⟩
    · obtain ⟨hend, hkept⟩ := hinitial hk k hsession
      have hfinal := hend.sb.trans hkept
      have hclosed := hend.session
      rw [hfinal, hsb.1, hfb, if_neg (by nofun), State.hasClosed_elapse] at hclosed
      exact ⟨_, hexec, hend.request, hclosed.1, hend.others, hfinal, hend.follows⟩
    · obtain ⟨hend, hkept⟩ := hinitial hk k hsession
      have hfinal := hend.sb.trans hkept
      have hsession' := hend.session
      rw [hfinal, hsb.1, hsb.2, hfb, State.hasClosed_elapse] at hsession'
      refine ⟨_, hexec, hend.request, fun hch => ?_, fun hch => ?_, hend.others, hfinal, hend.follows⟩
      · rw [if_neg (fun h => h.2 hch)] at hsession'
        exact hsession'.1
      · rw [if_pos ⟨rfl, hch⟩] at hsession'
        exact ⟨hsession'.1, hsession'.2.2.1, hsession'.2.1⟩

end

section
/-! The completion of start-up (R22, R24, R168, R174, R198): the order in which the open sessions close, what the log
takes of them, and the conditions the owners state. -/

namespace Sys2Proof.Machine

variable {s t u : State} {o q : OutletId} {r : Session} {cause : EndCause}

/-! ### The order of the closes (R24) -/

/-- The place of an outlet's letter. -/
def letterRank : OutletId → Nat
  | .a => 0
  | .b => 1
  | .c => 2

/-- The place of an outlet in the order of session numbers, the letters breaking ties. -/
def State.rank (s : State) (o : OutletId) : Nat := 3 * (s.outlet o).sessionNumber + letterRank o

theorem letterRank_lt (o : OutletId) : letterRank o < 3 := by cases o <;> decide

theorem takeWhile_ne_contains (o q : OutletId) :
    (allOutlets.takeWhile (· != o)).contains q = decide (letterRank q < letterRank o) := by
  cases o <;> cases q <;> rfl

theorem State.turn_eq (s : State) (os : List OutletId) (o : OutletId) :
    s.turn os o = (os.filter fun q => s.rank q < s.rank o).length := by
  refine congrArg List.length (List.filter_congr fun q _ => ?_)
  rw [takeWhile_ne_contains, Bool.eq_iff_iff]
  have hq := letterRank_lt q
  have ho := letterRank_lt o
  simp only [Bool.or_eq_true, Bool.and_eq_true, decide_eq_true_eq, beq_iff_eq]
  unfold State.rank
  omega

theorem insertBy_perm (key : OutletId → Nat) (o : OutletId) (os : List OutletId) :
    (insertBy key o os).Perm (o :: os) := by
  induction os with
  | nil => exact .refl _
  | cons p os ih =>
    unfold insertBy
    split
    · exact .refl _
    · exact (ih.cons p).trans (.swap o p os)

theorem State.bySession_perm (s : State) (os : List OutletId) : (s.bySession os).Perm os := by
  unfold State.bySession sortBy
  induction os with
  | nil => exact .refl _
  | cons o os ih => exact (insertBy_perm _ o _).trans (ih.cons o)

theorem State.ranked_insertBy (s : State) {os : List OutletId} (hs : os.Pairwise (s.rank · < s.rank ·))
    (ho : ∀ p ∈ os, letterRank o < letterRank p) :
    (insertBy (fun o => (s.outlet o).sessionNumber) o os).Pairwise (s.rank · < s.rank ·) := by
  induction os with
  | nil => simp [insertBy]
  | cons p os ih =>
    obtain ⟨hp, hs⟩ := List.pairwise_cons.1 hs
    have hop := ho p (by simp)
    unfold insertBy
    split
    · next hle =>
      have hrank : s.rank o < s.rank p := by simp only [State.rank]; omega
      refine List.pairwise_cons.2 ⟨fun x hx => ?_, List.pairwise_cons.2 ⟨hp, hs⟩⟩
      rcases List.mem_cons.1 hx with rfl | hx
      · exact hrank
      · exact hrank.trans (hp x hx)
    · next hle =>
      have hrank : s.rank p < s.rank o := by
        have := letterRank_lt o
        have := letterRank_lt p
        simp only [State.rank]
        omega
      refine List.pairwise_cons.2 ⟨fun x hx => ?_, ih hs fun x hx => ho x (by simp [hx])⟩
      rcases (mem_insertBy _ _ _ _).1 hx with rfl | hx
      · exact hrank
      · exact hp x hx

theorem State.ranked_bySession (s : State) {os : List OutletId} (hos : os.Pairwise (letterRank · < letterRank ·)) :
    (s.bySession os).Pairwise (s.rank · < s.rank ·) := by
  unfold State.bySession sortBy
  induction os with
  | nil => exact .nil
  | cons o os ih =>
    obtain ⟨ho, hos⟩ := List.pairwise_cons.1 hos
    exact s.ranked_insertBy (ih hos) fun p hp => ho p ((s.mem_bySession os p).1 hp)

/-- The place of an outlet in the order is its turn. -/
theorem State.turn_bySession (s : State) {os pre post : List OutletId} (hos : os.Pairwise (letterRank · < letterRank ·))
    (h : s.bySession os = pre ++ o :: post) : s.turn os o = pre.length := by
  have hr := s.ranked_bySession hos
  rw [h, List.pairwise_append, List.pairwise_cons] at hr
  obtain ⟨_, ⟨hpost, _⟩, hpre⟩ := hr
  rw [State.turn_eq, ← ((s.bySession_perm os).filter _).length_eq, h, List.filter_append, List.filter_cons,
    List.filter_eq_self.2 fun p hp => decide_eq_true (hpre p hp o (by simp)), if_neg (by simp),
    List.filter_eq_nil_iff.2 fun p hp => by simpa using (hpost p hp).le, List.append_nil]

/-! ### What the log takes of the sessions that close (R22, R171, R174) -/

/-- How many of `count` closed sessions the log places. -/
def BillingLog.placed (l : BillingLog) (count : Nat) : Nat := ((List.range count).filter l.placesAfter).length

theorem BillingLog.placesAfter_of_succ {l : BillingLog} {n : Nat} (h : l.placesAfter (n + 1) = true) :
    l.placesAfter n = true := by
  simp only [BillingLog.placesAfter, BillingLog.takesAfter, Bool.and_eq_true, decide_eq_true_eq,
    Option.any_eq_true] at h ⊢
  obtain ⟨⟨h1, q, hq, h2⟩, h3⟩ := h
  exact ⟨⟨by omega, q, hq, by omega⟩, by omega⟩

theorem BillingLog.placed_succ (l : BillingLog) (n : Nat) :
    l.placed (n + 1) = l.placed n + if l.placesAfter n then 1 else 0 := by
  simp only [BillingLog.placed, List.range_succ, List.filter_append, List.length_append]
  congr 1
  split
  · next h => simp [h]
  · next h => simp [h]

theorem BillingLog.placed_of_places {l : BillingLog} {n : Nat} (h : l.placesAfter n = true) : l.placed n = n := by
  induction n with
  | zero => rfl
  | succ n ih =>
    have hn := BillingLog.placesAfter_of_succ h
    rw [l.placed_succ, ih hn, if_pos hn]

/-- The log places one session more exactly where it has placed all before it and has room for it. -/
theorem BillingLog.placesAfter_placed (l : BillingLog) (n : Nat) : l.placesAfter (l.placed n) = l.placesAfter n := by
  induction n with
  | zero => rfl
  | succ n ih =>
    rw [l.placed_succ]
    split
    · next h => rw [BillingLog.placed_of_places h]
    · next h =>
      rw [Nat.add_zero, ih, Bool.eq_false_iff.2 h]
      exact (Bool.eq_false_iff.2 fun h' => h (BillingLog.placesAfter_of_succ h')).symm

/-- A log grown by `n` records and closed sessions has the room left that the first had after them. -/
theorem BillingLog.placesAfter_zero_of_grown {l k : BillingLog} {n : Nat}
    (hr : k.records.length = l.records.length + n) (hc : k.closed.length = l.closed.length + n)
    (hn : k.next = l.nextAfter n) : k.placesAfter 0 = l.placesAfter n := by
  simp only [BillingLog.placesAfter, BillingLog.takesAfter, hr, hc, hn, BillingLog.nextAfter, Nat.add_zero]
  cases l.next with
  | none => rfl
  | some q => by_cases h : q + n ≤ 4294967295 <;> simp [h]

theorem BillingLog.nextAfter_one {l k : BillingLog} {n : Nat} (hn : k.next = l.nextAfter n) :
    k.nextAfter 1 = l.nextAfter (n + 1) := by
  simp only [BillingLog.nextAfter] at hn ⊢
  rw [hn]
  cases l.next with
  | none => rfl
  | some q =>
    simp only [Option.bind_some, ← Nat.add_assoc]
    split
    · rfl
    · next h => exact (if_neg (by omega)).symm

theorem BillingLog.next_of_nextAfter {l : BillingLog} {n q : Nat} (h : l.nextAfter n = some q) :
    ∃ p, l.next = some p ∧ q = p + n := by
  unfold BillingLog.nextAfter at h
  cases hl : l.next with
  | none => simp [hl] at h
  | some p =>
    simp only [hl, Option.bind_some] at h
    split at h
    · exact ⟨p, rfl, (Option.some.inj h).symm⟩
    · cases h

/-- Closed sessions have been offered to the log `l` in turn and have left it `k`. -/
structure BillingLog.Taken (l : BillingLog) (hs : List HeldRecord) (k : BillingLog) : Prop where
  wellFormed : k.wellFormed = true
  frame : k = { l with records := k.records, closed := k.closed, next := l.nextAfter (l.placed hs.length) }
  records : ∃ rs, k.records = l.records ++ rs ∧ rs.length = l.placed hs.length
  closed : ∃ cs, k.closed = l.closed ++ cs ∧ cs.length = l.placed hs.length
  each : ∀ (i : Nat) (h : HeldRecord), hs[i]? = some h → l.placesAfter i = true →
    k.records[l.records.length + i]? = (l.next.map fun q => h.session.recordOf h.final (q + i)) ∧
      k.closed[l.closed.length + i]? = some { h.session with merged := Merged.none }

theorem BillingLog.taken_nil {l : BillingLog} (hl : l.wellFormed = true) : l.Taken [] l where
  wellFormed := hl
  frame := by
    show l = { l with next := l.nextAfter 0 }
    rw [BillingLog.nextAfter_zero hl]
  records := ⟨[], (List.append_nil _).symm, rfl⟩
  closed := ⟨[], (List.append_nil _).symm, rfl⟩
  each i h hi := by simp at hi

theorem BillingLog.Taken.canPlace {l k : BillingLog} {hs : List HeldRecord} (h : l.Taken hs k) :
    k.canPlace = l.placesAfter hs.length := by
  obtain ⟨rs, hrs, hr⟩ := h.records
  obtain ⟨cs, hcs, hc⟩ := h.closed
  rw [BillingLog.canPlace_eq h.wellFormed, ← l.placesAfter_placed]
  exact BillingLog.placesAfter_zero_of_grown (by rw [hrs, List.length_append, hr]) (by rw [hcs, List.length_append, hc])
    (congrArg BillingLog.next h.frame)

/-- The last of a list grown by one. -/
theorem getElem?_snoc {α : Type} {xs : List α} {x y : α} {i : Nat} (h : (xs ++ [x])[i]? = some y) :
    xs[i]? = some y ∨ i = xs.length ∧ y = x := by
  rcases lt_or_ge i xs.length with hlt | hge
  · exact .inl (by rwa [List.getElem?_append_left hlt] at h)
  · rw [List.getElem?_append_right hge, List.getElem?_singleton] at h
    split at h
    · exact .inr ⟨by omega, (Option.some.inj h).symm⟩
    · cases h

/-- One closed session more, for which there is room (R22, R172). -/
theorem BillingLog.Taken.place {l k : BillingLog} {hs : List HeldRecord} (h : l.Taken hs k) (hp : k.canPlace = true)
    (x : HeldRecord) : l.Taken (hs ++ [x]) (k.place x) := by
  have hlen : (hs ++ [x]).length = hs.length + 1 := by simp
  obtain ⟨rs, hrs, hr⟩ := h.records
  obtain ⟨cs, hcs, hc⟩ := h.closed
  have hpl : l.placesAfter hs.length = true := h.canPlace.symm.trans hp
  have hall := BillingLog.placed_of_places hpl
  have hsucc : l.placed (hs.length + 1) = hs.length + 1 := by rw [l.placed_succ, hall, if_pos hpl]
  obtain ⟨n, hn, hrec, hclosed, heq⟩ := BillingLog.place_spec h.wellFormed hp x
  have hnext : k.next = l.nextAfter hs.length := (congrArg BillingLog.next h.frame).trans (by rw [hall])
  obtain ⟨q, hq, hqn⟩ := BillingLog.next_of_nextAfter (hnext.symm.trans hn)
  refine ⟨BillingLog.place_wellFormed h.wellFormed hp x, ?_, ⟨rs ++ [x.session.recordOf x.final n], ?_, ?_⟩,
    ⟨cs ++ [{ x.session with merged := Merged.none }], ?_, ?_⟩, fun i y hi hy => ?_⟩
  · rw [hlen, hsucc, ← BillingLog.nextAfter_one hnext, heq, (congrArg BillingLog.threshold h.frame :),
      (congrArg BillingLog.window h.frame :)]
  · rw [hrec, hrs, List.append_assoc]
  · rw [hlen, hsucc, List.length_append, hr, hall]; rfl
  · rw [hclosed, hcs, List.append_assoc]
  · rw [hlen, hsucc, List.length_append, hc, hall]; rfl
  · have hkr : k.records.length = l.records.length + hs.length := by rw [hrs, List.length_append, hr, hall]
    have hkc : k.closed.length = l.closed.length + hs.length := by rw [hcs, List.length_append, hc, hall]
    rw [hrec, hclosed]
    rcases getElem?_snoc hi with hi | ⟨rfl, rfl⟩
    · have hlt := (List.getElem?_eq_some_iff.1 hi).1
      obtain ⟨h1, h2⟩ := h.each i y hi hy
      rw [List.getElem?_append_left (by omega), h1, List.getElem?_append_left (by omega), h2]
      exact ⟨rfl, rfl⟩
    · rw [← hkr, ← hkc, List.getElem?_concat_length, List.getElem?_concat_length, hq, hqn]
      exact ⟨rfl, rfl⟩

/-- One closed session more, for which there is no room (R22, R174). -/
theorem BillingLog.Taken.refuse {l k : BillingLog} {hs : List HeldRecord} (h : l.Taken hs k)
    (hp : k.canPlace = false) (x : HeldRecord) : l.Taken (hs ++ [x]) k := by
  obtain ⟨rs, hrs, hr⟩ := h.records
  obtain ⟨cs, hcs, hc⟩ := h.closed
  have hpl : l.placesAfter hs.length = false := h.canPlace.symm.trans hp
  have hsame : l.placed (hs ++ [x]).length = l.placed hs.length := by
    rw [List.length_append, List.length_singleton, l.placed_succ, if_neg (by simp [hpl]), Nat.add_zero]
  refine ⟨h.wellFormed, by rw [hsame]; exact h.frame, ⟨rs, hrs, hr.trans hsame.symm⟩, ⟨cs, hcs, hc.trans hsame.symm⟩,
    fun i y hi hy => ?_⟩
  rcases getElem?_snoc hi with hi | ⟨rfl, _⟩
  · exact h.each i y hi hy
  · rw [hpl] at hy
    cases hy

theorem BillingLog.Taken.snoc {l k : BillingLog} {hs : List HeldRecord} (h : l.Taken hs k) (x : HeldRecord) :
    l.Taken (hs ++ [x]) (if k.canPlace then k.place x else k) := by
  split
  · next hp => exact h.place hp x
  · next hp => exact h.refuse (by simpa using hp) x

/-- The log of the part is the one that the closed sessions leave (R22, R174). -/
theorem BillingLog.Taken.hasPlaced {l : BillingLog} {hs : List HeldRecord} (h : l.Taken hs t.log) :
    t.hasPlaced l hs.length = true := by
  obtain ⟨rs, hrs, hr⟩ := h.records
  obtain ⟨cs, hcs, hc⟩ := h.closed
  simp only [State.hasPlaced, Bool.and_eq_true, beq_iff_eq]
  exact ⟨⟨⟨⟨h.frame, by rw [hrs, List.length_append, hr]; rfl⟩, by rw [hrs, List.take_left]⟩,
    by rw [hcs, List.length_append, hc]; rfl⟩, by rw [hcs, List.take_left]⟩

/-! ### The sessions that close (R22, R24, R168) -/

/-- Outlet `o` of `u` as the close of the session it has in `s` leaves it, the record `h` placed or held. -/
def State.HasLeft (u s : State) (o : OutletId) (h : HeldRecord) (placed : Bool) : Prop :=
  (u.outlet o).session = none ∧ (u.outlet o).interval = none ∧
    (u.outlet o).meter = { (s.outlet o).meter with importAcc := 0, exportAcc := 0, heldPower := none } ∧
    if placed then (u.outlet o).held = none ∧ (u.outlet o).state = (u.outlet o).restState
    else (u.outlet o).held = some h ∧ (u.outlet o).state = .held

theorem State.closeSession_leaves (hr : (s.outlet o).session = some r) (cause : EndCause) :
    (s.closeSession o cause).log =
        (if s.log.canPlace then s.log.place (s.closing o r cause) else s.log) ∧
      (s.closeSession o cause).HasLeft s o (s.closing o r cause) s.log.canPlace := by
  rw [State.closeSession_eq s o r cause hr]
  generalize hu : (s.modify o fun x => { x with
    session := none, interval := none, endCause := none
    held := some { session := s.closedSession o r cause, final := (s.finalInterval o).handed [.final] }
    meter := { x.meter with importAcc := 0, exportAcc := 0, heldPower := none } }) = u
  have huo : u.outlet o = { s.outlet o with
      session := none, interval := none, endCause := none, held := some (s.closing o r cause)
      meter := { (s.outlet o).meter with importAcc := 0, exportAcc := 0, heldPower := none } } := by
    rw [← hu, State.outlet_modify_self]
    rfl
  have hul : u.log = s.log := by rw [← hu]; rfl
  have hheld : (u.outlet o).held = some (s.closing o r cause) := by rw [huo]
  simp only [State.tryPlace, hheld, hul]
  split
  · next hp =>
    generalize hw : (({ u with log := s.log.place (s.closing o r cause) } : State).modify o fun x =>
      { x with held := none }) = w
    have hwo : w.outlet o = { u.outlet o with held := none } := by rw [← hw, State.outlet_modify_self]; rfl
    obtain ⟨hframe, hstate, _, houtlet, _⟩ := w.enter_frame o (u.outlet o).restState
    refine ⟨by rw [hframe, ← hw]; rfl, ?_⟩
    rw [State.HasLeft, houtlet, hwo, huo, hp, if_pos rfl]
    exact ⟨rfl, rfl, rfl, rfl, rfl⟩
  · next hp =>
    obtain ⟨hframe, hstate, _, houtlet, _⟩ := u.enter_frame o .held
    refine ⟨by rw [hframe]; exact hul, ?_⟩
    rw [State.HasLeft, houtlet, huo, if_neg hp]
    exact ⟨rfl, rfl, rfl, rfl, rfl⟩

/-- The sessions of the outlets `os` have closed in that order, and nothing else has happened but to the status unit. -/
structure State.Closes (s : State) (cause : EndCause) (os : List OutletId) (u : State) : Prop where
  frame : u = { s with outlets := u.outlets, log := u.log, status := u.status }
  others : ∀ q, q ∉ os → u.outlet q = s.outlet q
  taken : ∃ hs, s.log.Taken hs u.log ∧ hs.length = os.length ∧
    ∀ (i : Nat) (o : OutletId) (r : Session), os[i]? = some o → (s.outlet o).session = some r →
      hs[i]? = some (s.closing o r cause)
  closed : ∀ (i : Nat) (o : OutletId) (r : Session), os[i]? = some o → (s.outlet o).session = some r →
    u.HasLeft s o (s.closing o r cause) (s.log.placesAfter i)

theorem State.closes_nil (hl : s.log.wellFormed = true) : s.Closes cause [] s where
  frame := rfl
  others _ _ := rfl
  taken := ⟨[], BillingLog.taken_nil hl, rfl, by simp⟩
  closed := by simp

/-- One session more closes, while no module stands in a group. -/
theorem State.Closes.snoc {os : List OutletId} (h : s.Closes cause os u) (ho : o ∉ os)
    (hr : (s.outlet o).session = some r) (hg : ∀ m, (s.module m).group = none) :
    s.Closes cause (os ++ [o]) (u.closeSession o cause) := by
  obtain ⟨hs, htaken, hlen, hrecords⟩ := h.taken
  have huo : u.outlet o = s.outlet o := h.others o ho
  have hrecord : u.closing o r cause = s.closing o r cause := by
    have hb : BillsAlike o s u := ⟨(congrArg State.clock h.frame :), (congrArg State.tariff h.frame :),
      (congrArg State.grid h.frame :), by rw [huo]⟩
    simp only [State.closing, hb.closedSession, hb.finalInterval]
  have hmodules : u.modules = s.modules := (congrArg State.modules h.frame :)
  obtain ⟨hframe, hothers, _, hmod, _⟩ := u.closeSession_frame o cause
  obtain ⟨hlog, hleft⟩ := State.closeSession_leaves (hr := huo ▸ hr) cause
  rw [hrecord] at hlog hleft
  rw [htaken.canPlace, hlen] at hleft
  have hkept : (u.closeSession o cause).modules = s.modules := by
    rw [← hmodules]
    refine Vector.ext fun i hi => hmod ⟨i, hi⟩ ?_
    have : u.module ⟨i, hi⟩ = s.module ⟨i, hi⟩ := by simp only [State.module, hmodules]
    rw [this, hg]
    exact nofun
  refine ⟨?_, fun q hq => ?_, ⟨hs ++ [s.closing o r cause], ?_, ?_, fun i p k hp hk => ?_⟩, fun i p k hp hk => ?_⟩
  · rw [hframe, hkept, h.frame]
  · have hq' : q ∉ os ∧ q ≠ o := by simpa using hq
    rw [hothers q hq'.2, h.others q hq'.1]
  · rw [hlog]
    exact htaken.snoc _
  · simp [hlen]
  · rcases getElem?_snoc hp with hp | ⟨rfl, rfl⟩
    · have hi := hrecords i p k hp hk
      rw [List.getElem?_append_left (List.getElem?_eq_some_iff.1 hi).1, hi]
    · rw [← hlen, List.getElem?_concat_length, Option.some.inj (hr.symm.trans hk)]
  · rcases getElem?_snoc hp with hp | ⟨rfl, rfl⟩
    · have hpo : p ≠ o := fun e => ho (e ▸ List.mem_of_getElem? hp)
      rw [State.HasLeft, hothers p hpo]
      exact h.closed i p k hp hk
    · rw [Option.some.inj (hr.symm.trans hk)] at hleft
      simpa only [State.HasLeft, huo] using hleft

theorem State.closes_closeAll (hl : s.log.wellFormed = true) (hg : ∀ m, (s.module m).group = none)
    (os : List OutletId) (hnodup : os.Nodup) (hopen : ∀ o ∈ os, (s.outlet o).session.isSome = true) :
    s.Closes cause os (os.foldl (fun s o => s.closeSession o cause) s) := by
  induction os using List.reverseRecOn with
  | nil => exact State.closes_nil hl
  | append_singleton os o ih =>
    rw [List.foldl_append]
    obtain ⟨hos, _, hdisj⟩ := List.nodup_append.1 hnodup
    obtain ⟨r, hr⟩ := Option.isSome_iff_exists.1 (hopen o (by simp))
    exact (ih hos fun p hp => hopen p (by simp [hp])).snoc (fun hmem => hdisj o hmem o (by simp) rfl) hr hg

/-- What the close of one of the sessions shows, in the order of its turn. -/
theorem State.Closes.hasClosedOne {os : List OutletId} (h : s.Closes cause (s.bySession os) t)
    (hos : os.Pairwise (letterRank · < letterRank ·)) (ho : o ∈ os) (hr : (s.outlet o).session = some r) :
    t.hasClosedOne s os o r cause = true := by
  obtain ⟨pre, post, hsplit⟩ := List.append_of_mem ((s.mem_bySession os o).2 ho)
  have hturn := s.turn_bySession hos hsplit
  have hat : (s.bySession os)[pre.length]? = some o := by simp [hsplit]
  obtain ⟨hs, htaken, _, hrecords⟩ := h.taken
  obtain ⟨hsession, hinterval, hmeter, hplace⟩ := h.closed _ o r hat hr
  have heach := htaken.each _ _ (hrecords _ o r hat hr)
  simp only [State.hasClosedOne, hturn, hsession, hinterval, hmeter, Option.isNone_none, Bool.true_and,
    beq_self_eq_true]
  split
  · next hp =>
    rw [if_pos hp] at hplace
    obtain ⟨hrec, hclosed⟩ := heach hp
    rw [hrec, hclosed, hplace.1, hplace.2]
    simp [State.closing, Session.recordOf, State.closedSession, Session.billed, Outlet.restState]
  · next hp =>
    rw [if_neg hp] at hplace
    rw [hplace.1, hplace.2]
    simp [State.closing]

/-! ### The conditions at the completion of start-up (R198) -/

/-- The start levels move no setting and no count. -/
theorem State.startLevels_keeps (s : State) (g : Group) :
    (s.startLevels g).status.settings = s.status.settings ∧
      ∀ k, ((s.startLevels g).status.get k).counts = (s.status.get k).counts := by
  have hget (k : Group) : ((s.startLevels g).status.get k).counts = (s.status.get k).counts ∧
      ((s.startLevels g).status.get k).enabled = (s.status.get k).enabled := by
    by_cases hk : k = g
    · subst hk; simp [State.startLevels]
    · simp [State.startLevels, StatusUnit.get_set_ne _ _ hk]
  exact ⟨StatusUnit.settings_ext (by simp [State.startLevels]) (by simp [State.startLevels])
    (by simp [State.startLevels]) fun k => (hget k).2, fun k => (hget k).1⟩

theorem State.foldl_startLevels_keeps (gs : List Group) (s : State) :
    (gs.foldl State.startLevels s).status.settings = s.status.settings ∧
      ∀ k, ((gs.foldl State.startLevels s).status.get k).counts = (s.status.get k).counts := by
  induction gs generalizing s with
  | nil => exact ⟨rfl, fun _ => rfl⟩
  | cons g gs ih =>
    obtain ⟨hset, hcount⟩ := s.startLevels_keeps g
    obtain ⟨hset', hcount'⟩ := ih (s.startLevels g)
    exact ⟨hset'.trans hset, fun k => (hcount' k).trans (hcount k)⟩

theorem State.settings_restate (s : State) (o : OutletId) (before : Nat) :
    (s.restate o before).status.settings = s.status.settings := by
  unfold State.restate
  split
  · rfl
  · exact (congrArg State.status (s.actsAt_raiseState o _).common :)

theorem State.settings_foldl_restate (codes : PerOutlet Nat) (os : List OutletId) (s : State) :
    (os.foldl (fun s o => s.restate o (codes.get o)) s).status.settings = s.status.settings := by
  induction os generalizing s with
  | nil => rfl
  | cons o os ih => exact (ih _).trans (s.settings_restate o _)

/-- The owners' statements move no setting, and no count where start-up follows a power-on or RST# (R198). -/
theorem State.stateConditions_keeps (s : State) :
    s.stateConditions.status.settings = s.status.settings ∧
      (s.restart = .cold → ∀ g, (s.stateConditions.status.get g).counts = (s.status.get g).counts) := by
  unfold State.stateConditions
  split
  · obtain ⟨hset, hcount⟩ := State.foldl_startLevels_keeps allGroups s
    exact ⟨hset, fun _ => hcount⟩
  · next codes hrestart =>
    refine ⟨?_, by rw [hrestart]; nofun⟩
    exact (State.reportAll_spec _).2.2.2.1.trans (State.settings_foldl_restate codes allOutlets s)

/-! ### The completion of start-up -/

/-- The part as start-up takes it over: it runs, and the modules are polled (R66). -/
def State.started (s : State) : State := ({ s with phase := .running } : State).startPolling

theorem State.group_of_atRest (hp : s.phase = .startingUp) (h : s.atRest = true) (m : Fin 8) :
    (s.module m).group = none := by
  have hr : s.beforeReception.isReset = true := by simpa [State.atRest, hp] using h
  obtain ⟨_, hm, _⟩ := s.beforeReception.isReset_iff.1 hr
  have hm' : s.modules.map (Module.afterReset true) = s.modules := by simpa [State.beforeReception, hp] using hm
  have := congrArg (fun v : Vector Module 8 => v[m.val].group) hm'
  simpa [State.module, Module.afterReset, Module.blank] using this.symm

theorem exec_startUpComplete (hp : s.phase = .startingUp) : exec .startUpComplete s =
    .next ({ s.started.closeAtStartUp with status := s.status } : State).stateConditions := by
  show Host.Outcome.next (if s.phase = .startingUp then s.startUp else s) = _
  rw [if_pos hp]
  rfl

theorem State.closeAtStartUp_of_none (h : ∀ o, (s.outlet o).session = none) : s.closeAtStartUp = s := by
  have hnone : (allOutlets.filter fun o => (s.outlet o).session.isSome) = [] :=
    List.filter_eq_nil_iff.2 fun o _ => by simp [h o]
  unfold State.closeAtStartUp
  rw [hnone]
  rfl

/-- The open sessions close in the order of their numbers (R24). -/
theorem State.closes_closeAtStartUp (hl : s.log.wellFormed = true) (hg : ∀ m, (s.module m).group = none) :
    s.Closes .reset (s.bySession (allOutlets.filter fun o => (s.outlet o).session.isSome)) s.closeAtStartUp := by
  refine State.closes_closeAll hl hg _ ?_ fun o ho => ?_
  · exact (s.bySession_perm _).nodup_iff.2 (List.Nodup.filter _ (by decide))
  · simpa using List.of_mem_filter ((s.mem_bySession _ o).1 ho)

theorem State.Closes.status {os : List OutletId} (h : s.Closes cause os u) (x : StatusUnit) :
    s.Closes cause os { u with status := x } where
  frame := by rw [h.frame]
  others := h.others
  taken := h.taken
  closed := h.closed

end Sys2Proof.Machine

open Sys2Proof.Machine in
/-- Settles O6: what the closes of the sessions leave is followed along the order of their numbers, the log placing
them while it has room; the owners' statements then move nothing but the status unit. -/
theorem startUpClosesOpenSessions : Obligations.StartUpClosesOpenSessions := by
  intro s hp hrest
  have hexec := exec_startUpComplete hp
  refine ⟨fun hnone => ?_, fun hacc => ?_⟩
  · have hclose : s.started.closeAtStartUp = s.started := State.closeAtStartUp_of_none hnone
    rw [hclose] at hexec
    obtain ⟨hframe, hstated⟩ := State.stateConditions_spec { s.started with status := s.status }
    obtain ⟨hset, hcount⟩ := State.stateConditions_keeps { s.started with status := s.status }
    exact ⟨_, hexec, hframe, hstated, hset, hcount⟩
  · intro closing
    have hl : s.log.wellFormed = true := by
      simp only [State.accounts, Bool.and_eq_true] at hacc
      exact hacc.1.2
    have hgroup (m : Fin 8) : (s.started.module m).group = none := by
      simpa [State.started, State.startPolling, State.module] using State.group_of_atRest hp hrest m
    have hcloses := (State.closes_closeAtStartUp (s := s.started) hl hgroup).status s.status
    obtain ⟨hframe, hstated⟩ := State.stateConditions_spec { s.started.closeAtStartUp with status := s.status }
    generalize ({ s.started.closeAtStartUp with status := s.status } : State).stateConditions = t at *
    have ht : s.started.Closes .reset (s.started.bySession closing) t := by
      rw [hframe]
      exact hcloses.status _
    refine ⟨t, hexec, (congrArg State.phase ht.frame :), hstated, fun o r hr => ?_, fun o ho => ?_, ?_, ht.frame⟩
    · exact ht.hasClosedOne (List.Pairwise.filter _ (by decide))
        (List.mem_filter.2 ⟨mem_allOutlets o, by simp [hr]⟩) hr
    · refine ht.others o fun hmem => ?_
      have := List.of_mem_filter ((s.started.mem_bySession closing o).1 hmem)
      rw [ho] at this
      cases this
    · obtain ⟨hs, htaken, hlen, _⟩ := ht.taken
      rw [← (s.started.bySession_perm closing).length_eq, ← hlen]
      exact htaken.hasPlaced
end

section
/-! A capacity decrease, of its modules and its request (R62, R63): which members are surplus, what becomes of each, and
what the outlet asks for afterwards. -/

namespace Sys2Proof.Machine

variable {s t u v : State} {o q : OutletId} {m : Fin 8} {kW : Nat} {r : Request}

/-! ### The surplus (R62) -/

/-- Whether the committed members below a module of an outlet's group still reach a capacity without it. -/
def State.spareAt (s : State) (o : OutletId) (kW : Nat) (m : Fin 8) : Bool :=
  (s.members o committedStates).contains m && kW ≤ s.ratings ((s.members o committedStates).filter (· < m))

theorem State.spareAt_congr (h : ∀ m, t.module m = s.module m) : t.spareAt o kW m = s.spareAt o kW m := by
  have e : t.module = s.module := funext h
  have hmembers : t.members = s.members := by funext o sts; simp only [State.members, State.group, e]
  have hratings : t.ratings = s.ratings := by funext ms; simp only [State.ratings, e]
  rw [State.spareAt, hmembers, hratings, State.spareAt]

theorem State.ratings_cons (s : State) (m : Fin 8) (ms : List (Fin 8)) :
    s.ratings (m :: ms) = (s.module m).rating + s.ratings ms := by simp [State.ratings]

theorem State.ratings_filter_le (s : State) (c : Fin 8 → Bool) (ms : List (Fin 8)) :
    s.ratings (ms.filter c) ≤ s.ratings ms :=
  (List.filter_sublist.map _).sum_le_sum fun _ _ => Nat.zero_le _

/-- The walk from the highest number down takes the modules that those below them can spare. -/
theorem State.mem_surplusOf_iff (s : State) (kW : Nat) {ms : List (Fin 8)} (h : ms.Pairwise (· > ·)) :
    m ∈ s.surplusOf kW (s.ratings ms) ms ↔ m ∈ ms ∧ kW ≤ s.ratings (ms.filter (· < m)) := by
  induction ms with
  | nil => simp [State.surplusOf]
  | cons k ms ih =>
    obtain ⟨hk, hms⟩ := List.pairwise_cons.1 h
    have hhead : (k :: ms).filter (· < k) = ms := by
      rw [List.filter_cons_of_neg (by simp)]
      exact List.filter_eq_self.2 fun j hj => decide_eq_true (hk j hj)
    have htail (hm : m ∈ ms) : (k :: ms).filter (· < m) = ms.filter (· < m) :=
      List.filter_cons_of_neg (by simpa using (hk m hm).le)
    have hsplit : s.ratings (k :: ms) - (s.module k).rating = s.ratings ms := by rw [s.ratings_cons]; omega
    rw [State.surplusOf, hsplit]
    split
    · next hc =>
      rw [List.mem_cons, List.mem_cons, ih hms]
      constructor
      · rintro (rfl | ⟨hm, hle⟩)
        · exact ⟨.inl rfl, by rw [hhead]; exact hc.1⟩
        · exact ⟨.inr hm, by rw [htail hm]; exact hle⟩
      · rintro ⟨rfl | hm, hle⟩
        · exact .inl rfl
        · exact .inr ⟨hm, by rwa [htail hm] at hle⟩
    · next hc =>
      have hlt : s.ratings ms < kW := by
        by_contra hn
        exact hc ⟨by omega, by rw [s.ratings_cons]; omega⟩
      refine ⟨nofun, fun ⟨hm, hle⟩ => ?_⟩
      rcases List.mem_cons.1 hm with rfl | hm
      · rw [hhead] at hle
        omega
      · rw [htail hm] at hle
        have := s.ratings_filter_le (· < m) ms
        omega

theorem State.ratings_reverse (s : State) (ms : List (Fin 8)) : s.ratings ms.reverse = s.ratings ms := by
  rw [State.ratings, State.ratings, List.map_reverse, List.sum_reverse]

theorem State.mem_surplus_iff : m ∈ s.surplus o ↔ s.spareAt o (s.admitted o) m = true := by
  have hmembers : (s.members o committedStates).Pairwise (· < ·) :=
    List.Pairwise.filter _ (List.Pairwise.filter _ (by decide))
  rw [State.surplus, State.committed, ← s.ratings_reverse,
    State.mem_surplusOf_iff s _ (List.pairwise_reverse.2 hmembers), List.filter_reverse, s.ratings_reverse, List.mem_reverse]
  simp [State.spareAt]

/-! ### What becomes of a member (R62, R63) -/

/-- A member as the shedding leaves it, by whether it is surplus. -/
def Module.shedAs (m : Module) (spare : Bool) : Module :=
  if spare && m.state != .running then { m with releasePending := false }.stop else { m with releasePending := spare }

theorem Module.shedAs_rating (m : Module) (spare : Bool) : (m.shedAs spare).rating = m.rating := by
  unfold Module.shedAs Module.stop Module.retire
  split
  · split <;> rfl
  · rfl

/-- The part once an outlet's admitted capacity has been lowered, and its limit with it. -/
def State.lowered (s : State) (o : OutletId) (kW : Nat) : State :=
  (s.modifySession o fun x => { x with admitted := kW }).recomputeLimit o

theorem State.decrease_shed (s : State) (o : OutletId) (kW : Nat) :
    s.decrease o kW = ((((s.lowered o kW).shed o).adjustTopUp o).testRelease o).recomputeLimit o := rfl

theorem State.lowered_module (s : State) (o : OutletId) (kW : Nat) (m : Fin 8) :
    (s.lowered o kW).module m = s.module m := State.group_recomputeLimit _ o m

theorem State.lowered_grants (s : State) (o : OutletId) (kW : Nat) : (s.lowered o kW).grants = s.grants :=
  (State.samePool_recomputeLimit _ o).grants

theorem State.lowered_outlet (s : State) (o : OutletId) (kW : Nat) : (s.lowered o kW).outlet o =
    { s.outlet o with
      session := (s.outlet o).session.map fun x => { x with admitted := kW }
      limit := ((s.lowered o kW).outlet o).limit
      reference := ((s.lowered o kW).outlet o).reference, link := ((s.lowered o kW).outlet o).link } := by
  obtain ⟨l, _, e⟩ := (s.modifySession o fun x => { x with admitted := kW }).recomputeLimit_self o
  have hm : (s.modifySession o fun x => { x with admitted := kW }).outlet o =
      { s.outlet o with session := (s.outlet o).session.map fun x => { x with admitted := kW } } :=
    State.outlet_modify_self _ _ _
  show ((s.modifySession o fun x => { x with admitted := kW }).recomputeLimit o).outlet o = _
  unfold State.lowered
  rw [e, hm]

theorem State.lowered_admitted (h : (s.outlet o).session.isSome = true) (kW : Nat) :
    (s.lowered o kW).admitted o = kW := by
  obtain ⟨r, hr⟩ := Option.isSome_iff_exists.1 h
  rw [State.admitted, s.lowered_outlet o kW, hr]
  rfl

theorem State.lowered_surplus (h : (s.outlet o).session.isSome = true) (kW : Nat) (m : Fin 8) :
    m ∈ (s.lowered o kW).surplus o ↔ s.spareAt o kW m = true := by
  rw [State.mem_surplus_iff, State.lowered_admitted h]
  rw [State.spareAt_congr (s.lowered_module o kW)]

/-- The members once the surplus has been shed (R62). -/
theorem State.lowered_shed (h : (s.outlet o).session.isSome = true) (kW : Nat) (m : Fin 8) :
    ((s.lowered o kW).shed o).module m =
      if (s.module m).group = some o then (s.module m).shedAs (s.spareAt o kW m) else s.module m := by
  rw [State.module_shed, State.module_markSurplus, s.lowered_module]
  simp only [State.lowered_surplus h]
  by_cases hg : (s.module m).group = some o
  · rw [if_pos hg, if_pos hg, Module.shedAs]
    by_cases hs : s.spareAt o kW m = true
    · by_cases hr : (s.module m).state = .running
      · simp [hs, hr]
      · simp [hs, hr, Module.stop, Module.retire, Module.leave]
    · simp [hs]
  · have hs : ¬s.spareAt o kW m = true := fun k => by
      have := (Bool.and_eq_true_iff.1 k).1
      exact hg ((s.mem_members o _ m).1 (by simpa using this)).1
    rw [if_neg hg, if_neg hg, if_neg fun k => hs k.1]

/-- The members that do not run or are not surplus and stand by or run: what carries the outlet's power after the
release (R63). -/
def State.carriersAt (s : State) (o : OutletId) (kW : Nat) : List (Fin 8) :=
  (s.members o committedStates).filter fun m =>
    !s.spareAt o kW m && [.standby, .running].contains (s.module m).state

theorem Module.shedAs_state (m : Module) {spare : Bool} (h : spare = false ∨ m.state = .running) :
    m.shedAs spare = { m with releasePending := spare } := by
  refine if_neg fun k => ?_
  rcases h with h | h <;> simp [h] at k

theorem Module.shedAs_stopped (m : Module) {spare : Bool} (h : spare = true) (hr : m.state ≠ .running) :
    m.shedAs spare = { m with releasePending := false }.stop :=
  if_pos (by simp [h, hr])

/-- The figures over the members that stay in the group unmarked. -/
theorem State.shed_ratings (h : (s.outlet o).session.isSome = true) (kW : Nat) {sts : List ModuleState}
    (hsts : ∀ st ∈ sts, st ∈ committedStates) :
    ((s.lowered o kW).shed o).ratings ((((s.lowered o kW).shed o).members o sts).filter fun m =>
        !(((s.lowered o kW).shed o).module m).releasePending) =
      s.ratings ((s.members o committedStates).filter fun m =>
        !s.spareAt o kW m && sts.contains (s.module m).state) := by
  have hmod := State.lowered_shed h kW
  generalize (s.lowered o kW).shed o = w at hmod ⊢
  have hrating (m : Fin 8) : (w.module m).rating = (s.module m).rating := by
    rw [hmod]
    split
    · exact Module.shedAs_rating _ _
    · rfl
  have hlist : (w.members o sts).filter (fun m => !(w.module m).releasePending) =
      (s.members o committedStates).filter fun m => !s.spareAt o kW m && sts.contains (s.module m).state := by
    simp only [State.members, State.group, List.filter_filter]
    refine List.filter_congr fun m _ => ?_
    rw [hmod m, Bool.eq_iff_iff]
    simp only [Bool.and_eq_true, Bool.not_eq_true', List.contains_iff_mem, beq_iff_eq]
    by_cases hg : (s.module m).group = some o
    · rw [if_pos hg]
      cases hs : s.spareAt o kW m with
      | false =>
        rw [Module.shedAs_state _ (.inl rfl)]
        exact ⟨fun ⟨_, hst, _⟩ => ⟨⟨rfl, hst⟩, hsts _ hst, hg⟩, fun ⟨⟨_, hst⟩, _⟩ => ⟨rfl, hst, hg⟩⟩
      | true =>
        refine ⟨fun ⟨hp, _, hg'⟩ => ?_, fun k => by simp at k⟩
        by_cases hr : (s.module m).state = .running
        · rw [Module.shedAs_state _ (.inr hr)] at hp
          cases hp
        · rw [Module.shedAs_stopped _ rfl hr, Module.group_stop] at hg'
          cases hg'
    · rw [if_neg hg]
      exact ⟨fun k => (hg k.2.2).elim, fun k => (hg k.2.2).elim⟩
  rw [hlist]
  simp only [State.ratings, hrating]

/-! ### The release (R63) -/

theorem State.ratings_split (s : State) (c : Fin 8 → Bool) (ms : List (Fin 8)) :
    s.ratings (ms.filter c) + s.ratings (ms.filter fun m => !c m) = s.ratings ms := by
  rw [State.ratings, State.ratings, ← List.sum_append, ← List.map_append]
  exact ((List.filter_append_perm c ms).map _).sum_eq

/-- Whether the power record is within what the members that are not surplus carry (R63). -/
def State.releasesAt (s : State) (o : OutletId) (kW : Nat) : Bool :=
  (s.outlet o).power.validity != .invalid && (s.outlet o).power.p ≤ (s.ratings (s.carriersAt o kW) * 900 : Nat)

theorem State.remaining_shed (h : (s.outlet o).session.isSome = true) (kW : Nat) :
    ((s.lowered o kW).shed o).remaining o = s.ratings (s.carriersAt o kW) := by
  have hkept := State.shed_ratings h kW (sts := [.standby, .running]) (by decide)
  have hsplit := ((s.lowered o kW).shed o).ratings_split
    (fun m => (((s.lowered o kW).shed o).module m).releasePending)
    (((s.lowered o kW).shed o).members o [.standby, .running])
  rw [State.remaining, State.groupCapacity, State.carriersAt, ← hkept, ← hsplit, Nat.add_sub_cancel_left]

theorem State.committedUnmarked_shed (h : (s.outlet o).session.isSome = true) (kW : Nat) :
    ((s.lowered o kW).shed o).committedUnmarked o =
      s.ratings ((s.members o committedStates).filter fun m => !s.spareAt o kW m) := by
  rw [State.committedUnmarked, State.shed_ratings h kW fun _ => id]
  refine congrArg s.ratings (List.filter_congr fun m hm => ?_)
  simp [((s.mem_members o _ m).1 hm).2]

/-- The part once the surplus has been shed and the request adjusted. -/
def State.trimmed (s : State) (o : OutletId) (kW : Nat) : State := ((s.lowered o kW).shed o).adjustTopUp o

theorem State.trimmed_module (h : (s.outlet o).session.isSome = true) (kW : Nat) (m : Fin 8) :
    (s.trimmed o kW).module m =
      if (s.module m).group = some o then (s.module m).shedAs (s.spareAt o kW m) else s.module m := by
  rw [← State.lowered_shed h, State.trimmed]
  simp only [State.module, State.modules_adjustTopUp]

theorem State.outlet_adjustTopUp (s : State) (o q : OutletId) : (s.adjustTopUp o).outlet q = s.outlet q := by
  have htop : (s.topUp o).outlet q = s.outlet q := by
    unfold State.topUp State.ask
    split
    · split <;> rfl
    · rfl
  unfold State.adjustTopUp
  split
  · exact htop
  · rfl

theorem State.trimmed_outlet (s : State) (o : OutletId) (kW : Nat) :
    (s.trimmed o kW).outlet o = (s.lowered o kW).outlet o := by
  rw [State.trimmed, State.outlet_adjustTopUp, State.outlet_shed]

theorem State.mayRelease_trimmed (h : (s.outlet o).session.isSome = true) (kW : Nat) :
    (s.trimmed o kW).mayRelease o = s.releasesAt o kW := by
  have hremaining : (s.trimmed o kW).remaining o = s.ratings (s.carriersAt o kW) := by
    rw [← State.remaining_shed h]
    simp only [State.trimmed, State.remaining, State.groupCapacity, State.members, State.group, State.ratings,
      State.module, State.modules_adjustTopUp]
  have husable (x : Validity) : x.usable = (x != .invalid) := by cases x <;> rfl
  rw [State.mayRelease, hremaining, s.trimmed_outlet, s.lowered_outlet, husable]
  rfl

theorem State.testRelease_of_not (h : s.mayRelease o = false) : s.testRelease o = s :=
  if_neg (by simp [h])

/-- The release: every marked member that runs leaves with its drain, and nothing else but shares moves (R63, R82). -/
theorem State.module_testRelease (hs : (s.outlet o).state.supplied = true) (h : s.mayRelease o = true) (m : Fin 8) :
    { (s.testRelease o).module m with share := 0 } =
      { (if (s.module m).group = some o ∧ (s.module m).state = .running ∧ (s.module m).releasePending = true then
          (s.module m).release else s.module m) with share := 0 } := by
  simp only [State.testRelease, hs, h, Bool.true_and, Bool.and_true, Bool.not_eq_true']
  generalize hmarked : (s.members o [.running]).filter (fun m => (s.module m).releasePending) = marked
  have hmem : m ∈ marked ↔
      (s.module m).group = some o ∧ (s.module m).state = .running ∧ (s.module m).releasePending = true := by
    rw [← hmarked, List.mem_filter, State.mem_members, List.mem_singleton, and_assoc]
  have hnd : marked.Nodup := hmarked ▸ (s.members_nodup o _).filter _
  split
  · rw [(State.computeShares_frame _ o).2.2, State.module_modifyModules _ _ _ _ hnd]
    simp only [hmem]
  · next hempty =>
    have hnil : marked = [] := by simpa using hempty
    rw [hnil] at hmem
    rw [if_neg fun k => List.not_mem_nil (hmem.2 k)]

/-! ### What a decrease leaves (R62, R63) -/

/-- What a member of an outlet's group has become once the admitted capacity has been lowered. -/
def State.DecreasesTo (s : State) (o : OutletId) (kW : Nat) (m : Fin 8) (k' : Module) : Prop :=
  let k := s.module m
  if s.spareAt o kW m = false then { k' with share := 0 } = { k with releasePending := false, share := 0 }
  else if k.state ≠ .running then
    k'.group = none ∧ k'.state = (if k.service then .outOfService else .off) ∧ k'.share = 0 ∧ k'.command = some .stop ∧
      k'.isFree = false
  else if s.releasesAt o kW = true then
    k'.group = some o ∧ k'.state = .releasing ∧ k'.releasePending = false ∧
      k'.drain = some (2 * Config.ticksPerSecond) ∧ k'.drainCount = 0 ∧ k'.releaseShare = k.share
  else k' = { k with releasePending := true }

/-- What the outlet still asks for: what all its members together are short of. -/
def State.AsksFor (s : State) (o : OutletId) (kW : Nat) (q : Request) : Prop :=
  (s.request o).isSome = true ∧ q.kind = .topUp ∧ q.wanted ≠ 0 ∧
    q.wanted = kW - s.ratings (s.members o committedStates)

theorem State.hasDecreased_of (ha : t.admitted o = kW) (hr : ∀ q, t.request o = some q → s.AsksFor o kW q)
    (hm : ∀ m, (s.module m).group = some o → s.DecreasesTo o kW m (t.module m)) : t.hasDecreased s o kW = true := by
  refine Bool.and_eq_true_iff.2 ⟨Bool.and_eq_true_iff.2 ⟨by simpa using ha, ?_⟩, List.all_eq_true.2 fun m hmem => ?_⟩
  · cases hq : t.request o with
    | none => rfl
    | some q =>
      obtain ⟨h1, h2, h3, h4⟩ := hr q hq
      simp only [h1, h2, Bool.true_and, Bool.and_eq_true, bne_iff_ne, beq_iff_eq, beq_self_eq_true]
      exact ⟨h3, h4⟩
  · have h := hm m ((s.mem_group o m).1 hmem)
    change (if !s.spareAt o kW m then _ else if (s.module m).state != .running then _ else
      if s.releasesAt o kW then _ else _) = true
    unfold State.DecreasesTo at h
    cases hspare : s.spareAt o kW m with
    | false => simpa [hspare] using h
    | true =>
      by_cases hrun : (s.module m).state = .running
      · cases hrel : s.releasesAt o kW with
        | false => simpa [hspare, hrun, hrel] using h
        | true => simpa [hspare, hrun, hrel, and_assoc] using h
      · obtain ⟨h1, h2, h3, h4, _⟩ : _ ∧ _ ∧ _ ∧ _ ∧ _ := by simpa [hspare, hrun] using h
        simp [hrun, h1, h2, h3, h4]

/-- The members of an outlet after the decrease (R62, R63). -/
theorem State.decreasesTo_decrease (hs : (s.outlet o).state.supplied = true)
    (h : (s.outlet o).session.isSome = true) (kW : Nat) (hg : (s.module m).group = some o) :
    s.DecreasesTo o kW m ((s.decrease o kW).module m) := by
  have hlast : (s.decrease o kW).module m = ((s.trimmed o kW).testRelease o).module m :=
    State.group_recomputeLimit _ o m
  have hmod := State.trimmed_module h kW m
  rw [if_pos hg] at hmod
  have hmay := State.mayRelease_trimmed h kW
  have hsup : ((s.trimmed o kW).outlet o).state.supplied = true := by
    rw [s.trimmed_outlet, s.lowered_outlet]
    exact hs
  rw [hlast]
  generalize s.trimmed o kW = w at hmod hmay hsup ⊢
  have hshare : { (w.testRelease o).module m with share := 0 } =
      { (if (w.module m).group = some o ∧ (w.module m).state = .running ∧ (w.module m).releasePending = true ∧
          s.releasesAt o kW = true then (w.module m).release else w.module m) with share := 0 } := by
    cases hrel : s.releasesAt o kW with
    | false => rw [State.testRelease_of_not (hmay.trans hrel), if_neg (by simp)]
    | true =>
      rw [State.module_testRelease hsup (hmay.trans hrel)]
      simp
  unfold State.DecreasesTo
  cases hspare : s.spareAt o kW m with
  | false =>
    rw [hspare, Module.shedAs_state _ (.inl rfl)] at hmod
    rw [if_pos rfl, hshare, hmod, if_neg (by simp)]
  | true =>
    rw [hspare] at hmod
    dsimp only
    rw [if_neg (by simp)]
    by_cases hrun : (s.module m).state = .running
    · rw [Module.shedAs_state _ (.inr hrun)] at hmod
      rw [if_neg (by simp [hrun])]
      cases hrel : s.releasesAt o kW with
      | false =>
        rw [if_neg (by simp), State.testRelease_of_not (hmay.trans hrel), hmod]
      | true =>
        rw [hmod, if_pos ⟨hg, hrun, rfl, hrel⟩] at hshare
        rw [if_pos rfl]
        exact ⟨(congrArg Module.group hshare :).trans hg, (congrArg Module.state hshare :),
          (congrArg Module.releasePending hshare :), (congrArg Module.drain hshare :),
          (congrArg Module.drainCount hshare :), (congrArg Module.releaseShare hshare :)⟩
    · rw [Module.shedAs_stopped _ rfl hrun] at hmod
      have hgone : (w.module m).group ≠ some o := by rw [hmod, Module.group_stop]; nofun
      rw [if_pos hrun, (w.actsAt_testRelease o).modules m hgone, hmod]
      unfold Module.stop Module.retire
      split
      · exact ⟨rfl, rfl, rfl, rfl, rfl⟩
      · exact ⟨rfl, rfl, rfl, rfl, by simp [Module.isFree]⟩

/-! ### What the outlet asks for (R58, R62) -/

theorem State.kind_ask {kind : RequestKind} {n : Nat} (hr : r ∈ (s.ask o kind n).grants) (ho : r.outlet = o)
    (hk : ∀ q ∈ s.grants, q.outlet = o → q.kind = kind) : r.kind = kind := by
  unfold State.ask at hr
  split at hr
  · obtain ⟨q, hq, rfl⟩ := List.mem_map.1 hr
    split
    · next h => exact hk q hq h
    · next h => exact hk q hq (by rwa [if_neg h] at ho)
  · rcases List.mem_append.1 hr with hr | hr
    · exact hk r hr ho
    · rw [List.mem_singleton.1 hr]

/-- After the adjustment a request of the outlet wants what its unmarked members are short of. -/
theorem State.request_adjustTopUp (hk : ∀ q ∈ s.grants, q.outlet = o → q.kind = .topUp)
    (hr : r ∈ (s.adjustTopUp o).grants) (ho : r.outlet = o) : (s.request o).isSome = true ∧ r.kind = .topUp ∧
      s.committedUnmarked o < s.admitted o ∧ r.wanted = s.admitted o - s.committedUnmarked o := by
  unfold State.adjustTopUp at hr
  split at hr
  · next hreq =>
    unfold State.topUp at hr
    split at hr
    · next hlt =>
      exact ⟨hreq, State.kind_ask hr ho hk, hlt, State.wanted_ask hr ho⟩
    · exact absurd ho (State.requests_withdraw s o r hr)
  · next hreq => exact absurd (State.request_isSome ⟨r, hr, ho⟩) hreq

/-- Where the members that are not surplus fall short, none is surplus (R62). -/
theorem State.no_spare (h : (s.outlet o).session.isSome = true)
    (hlt : s.ratings ((s.members o committedStates).filter fun m => !s.spareAt o kW m) < kW) (m : Fin 8) :
    s.spareAt o kW m = false := by
  by_contra hm
  have hne : (s.lowered o kW).surplus o ≠ [] :=
    List.ne_nil_of_mem ((State.lowered_surplus h kW m).2 (by simpa using hm))
  have hle := State.admitted_le_spares hne
  rw [State.lowered_admitted h] at hle
  have hsum : (allModules.map ((s.lowered o kW).spares o)).sum =
      s.ratings ((s.members o committedStates).filter fun m => !s.spareAt o kW m) := by
    rw [State.ratings_eq ((s.members_nodup o _).filter _)]
    refine congrArg List.sum (List.map_congr_left fun k _ => ?_)
    simp only [State.spares, s.lowered_module, State.lowered_surplus h, List.mem_filter, State.mem_members,
      Bool.not_eq_true', Bool.not_eq_true, and_assoc]
  omega

theorem State.asksFor_decrease (h : (s.outlet o).session.isSome = true)
    (hk : ∀ q ∈ s.grants, q.outlet = o → q.kind = .topUp) (hr : r ∈ (s.decrease o kW).grants) (ho : r.outlet = o) :
    s.AsksFor o kW r := by
  have hgrants : ((s.lowered o kW).shed o).grants = s.grants := by
    rw [← s.lowered_grants o kW, State.shed, State.modifyModules_eq]
    exact ((s.lowered o kW).markSurplus_frame o).2.2
  have hadm : ((s.lowered o kW).shed o).admitted o = kW := by
    refine Eq.trans ?_ (State.lowered_admitted h kW)
    simp only [State.admitted, State.outlet_shed]
  have hmem : r ∈ (((s.lowered o kW).shed o).adjustTopUp o).grants := by
    have hrec := (State.samePool_recomputeLimit ((((s.lowered o kW).shed o).adjustTopUp o).testRelease o) o).grants
    have htest : ((((s.lowered o kW).shed o).adjustTopUp o).testRelease o).grants =
        (((s.lowered o kW).shed o).adjustTopUp o).grants := by
      simp only [State.testRelease]
      split
      · rw [(State.computeShares_frame _ o).1, State.modifyModules_eq]
      · rfl
    rwa [← htest, ← hrec, ← s.decrease_shed]
  obtain ⟨h1, h2, h3, h4⟩ := State.request_adjustTopUp (by rw [hgrants]; exact hk) hmem ho
  rw [hadm, State.committedUnmarked_shed h] at h3 h4
  have hall : (s.members o committedStates).filter (fun m => !s.spareAt o kW m) = s.members o committedStates :=
    List.filter_eq_self.2 fun m _ => by simp [State.no_spare h h3 m]
  rw [hall] at h3 h4
  exact ⟨by simpa only [State.request, hgrants] using h1, h2, by omega, h4⟩

end Sys2Proof.Machine
end

section
/-! A change of an admitted capacity at the end of its event (R61, R62): the reply, the limit, and what stands. -/

namespace Sys2Proof.Machine

variable {s t u v w : State} {o : OutletId} {m : Fin 8} {kW : Nat} {r : Request} {k : Session}

/-! ### The allocator's answer -/

theorem State.kinds_of_protected {p q : OutletId → Prop} {M T : Prop} (h : s.Protected p q M T)
    (hsup : (s.outlet o).state.supplied = true) (hr : r ∈ s.grants) (ho : r.outlet = o) : r.kind = .topUp := by
  have hfits := (h.pool o).kinds r hr ho
  cases hk : r.kind with
  | topUp => rfl
  | initial =>
    rw [hk] at hfits
    rw [show (s.outlet o).state = .admitted from hfits] at hsup
    cases hsup

theorem State.passes_reallocate (hk : ∀ r ∈ s.grants, r.outlet = o → r.kind = .topUp) : Passes o s s.reallocate :=
  State.reallocate_induction (P := Passes o s) (fun _ q h => h.recomputeLimit q) (fun _ _ _ _ hg _ h => h.grant hk hg)
    (fun _ _ h => h.step (fun _ k => k) rfl rfl) (.refl o s)

theorem State.groupCapacity_finish (he : s.noneEnds) (o : OutletId) :
    s.finish.groupCapacity o = s.groupCapacity o :=
  State.finish_induction (P := fun a => a.groupCapacity o = s.groupCapacity o)
    (fun a q h => ((a.samePool_recomputeLimit q).groupCapacity_eq o).trans h)
    (fun _ _ rest _ _ hm h => (State.grant_groupCapacity rest hm o).trans h)
    (fun a b h => ((SamePool.of_budget a b).groupCapacity_eq o).trans h)
    (fun a q h => ((a.samePool_endPrepare q).groupCapacity_eq o).trans h)
    (fun a v h => ((SamePool.of_status a v).groupCapacity_eq o).trans h) he rfl

/-- A limit that stands is within the admitted capacity and the group capacity (R52). -/
theorem State.limit_le (h : (s.outlet o).limit = s.newLimit o) :
    (s.outlet o).limit ≤ min (s.admitted o) (s.groupCapacity o) := by
  rw [h]
  unfold State.newLimit
  dsimp only
  split
  · exact Nat.min_le_right _ _
  · exact Nat.le_refl _

/-- The event of an order that changes the admitted capacity of an outlet in a supplied state and answers with what the
allocator makes of it (R52, R55, R56, R61). -/
structure CapacitySettles (o : OutletId) (clamped : Bool) (s u t : State) : Prop where
  session : (t.outlet o).session = (u.outlet o).session
  state : (t.outlet o).state = (u.outlet o).state
  limit : (t.outlet o).limit ≤ min (u.admitted o) (t.groupCapacity o)
  reply : t.terminal.reply = some
    (let pairs := [("ADMITTED_CAPACITY", Value.number (u.admitted o)), ("CAPACITY_LIMIT", .number (t.outlet o).limit)]
     if clamped then .clamped pairs else .ok "" pairs)
  others : ∀ q, q ≠ o → (t.outlet q).kept = (s.outlet q).kept
  kept : (t.outlet o).kept = (u.outlet o).kept
  common : t.common = { s.common with terminal := t.terminal }
  follows : t.follows s = true
  modules : ∀ m, (u.module m).isFree = false → t.module m = u.module m
  requests : ∀ r ∈ t.grants, r ∈ u.grants

theorem State.capacity_settles {p q : OutletId → Prop} {M T : Prop} (hs : s.ready = true) (hacts : ActsAt o s u)
    (hu : u.Protected p q M T) (hsup : (u.outlet o).state.supplied = true) (clamped : Bool) :
    CapacitySettles o clamped s u (u.reallocate.okCapacity o clamped).finish := by
  have hready := State.noneEnds_of_ready hs
  have he : u.noneEnds := fun k => by
    by_cases hk : k = o
    · subst hk
      refine State.endsNow_of_state fun hd => ?_
      rw [hd] at hsup
      cases hsup
    · have hout := hacts.outlets k hk
      exact (State.endsNow_congr (s := s) (by rw [hout]) (by rw [hout])).trans (hready k)
  obtain ⟨hlimits, _, hew, hbudget⟩ := State.reallocate_settles he
  have hpass := State.passes_reallocate (s := u) fun r hr ho => State.kinds_of_protected hu hsup hr ho
  have ha := State.answers_reallocate u hu.queued
  have hw := hu.reallocate
  generalize u.reallocate = w at hlimits hew hbudget hpass ha hw ⊢
  have hadm : w.admitted o = u.admitted o := by
    simp only [State.admitted]
    rw [hpass.outlet]
  have hpw : w.phase = .running :=
    ((congrArg State.phase ha.common :).trans (congrArg State.phase hacts.common :)).trans (s.ready_iff.1 hs).1
  generalize hv : w.okCapacity o clamped = v
  have hout (k : OutletId) : v.outlet k = w.outlet k := by rw [← hv]; rfl
  have hmod (k : Fin 8) : v.module k = w.module k := by rw [← hv]; rfl
  have hgrants : v.grants = w.grants := by rw [← hv]; rfl
  have hev : v.noneEnds := State.noneEnds_of_outlets hew hout
  have hqv : v.queued := by rw [← hv]; exact hw.queued
  have hpv : v.phase = .running := by rw [← hv]; exact hpw
  have hlimit := State.limits_finish (s := v) hpv hev (by rw [← hv]; exact hlimits) (by rw [← hv]; exact hbudget) o
  have hcap := State.groupCapacity_finish hev o
  have hpass' := State.passes_finish hev (o := o) fun r hr ho =>
    State.kinds_of_protected hu hsup (hpass.requests r (by rwa [hgrants] at hr)) ho
  have ha' := v.answers_finish hqv hev
  have hstated := State.finish_stated hpv
  have hkeep (k : Fin 8) := State.module_finish (m := k) hqv hev
  generalize v.finish = t at hlimit hcap hpass' ha' hstated hkeep ⊢
  have hterm : t.terminal = v.terminal := (congrArg State.terminal ha'.common :)
  refine ⟨?_, ?_, ?_, ?_, fun k hk => ?_, ?_, ?_, State.follows_iff.2 ⟨hstated, ?_⟩, fun k hk => ?_, fun r hr => ?_⟩
  · rw [hpass'.outlet, hout, hpass.outlet]
  · rw [hpass'.outlet, hout, hpass.outlet]
  · have hcapw : t.groupCapacity o = w.groupCapacity o := by rw [hcap, ← hv]; rfl
    rw [hlimit, hout, hcapw, ← hadm]
    exact State.limit_le (hlimits o)
  · rw [hterm, hlimit, hout, ← hadm, ← hv]
    rfl
  · rw [ha'.outlets, hout, ha.outlets, hacts.outlets k hk]
  · rw [ha'.outlets, hout, ha.outlets]
  · rw [ha'.common, hterm, ← hacts.common, ← ha.common, ← hv]
    rfl
  · have hvw : v.status = w.status := by rw [← hv]; rfl
    have htv : t.status.settings = v.status.settings := (congrArg State.status ha'.common :)
    rw [htv, hvw]
    exact (congrArg State.status ha.common :).trans (congrArg State.status hacts.common :)
  · have hwk : w.module k = u.module k := by
      simpa [Module.keptBy, hk] using ha.modules k
    rw [hkeep k (by rw [hmod, hwk]; exact hk), hmod, hwk]
  · exact hpass.requests r (hgrants ▸ hpass'.requests r hr)

/-! ### The two changes (R61, R62) -/

theorem State.kept_modifySession (s : State) (o : OutletId) (kW : Nat) :
    ((s.modifySession o fun x => { x with admitted := kW }).outlet o).kept =
      { (s.outlet o).kept with session := (s.outlet o).session.map fun x => { x with admitted := kW } } := by
  rw [State.modifySession, State.outlet_modify_self]
  rfl

theorem State.kept_decrease (s : State) (o : OutletId) (kW : Nat) : ((s.decrease o kW).outlet o).kept =
    { (s.outlet o).kept with session := (s.outlet o).session.map fun x => { x with admitted := kW } } := by
  rw [s.decrease_shed, State.kept_recomputeLimit, State.outlet_testRelease, State.outlet_adjustTopUp,
    State.outlet_shed, State.lowered, State.kept_recomputeLimit, State.kept_modifySession]

theorem State.outlet_raiseCapacity (s : State) (o : OutletId) (kW : Nat) :
    (s.raiseCapacity o kW).outlet o = (s.lowered o kW).outlet o := by
  rw [State.raiseCapacity, State.outlet_topUp]
  simp only [State.outlet, (State.markSurplus_frame _ o).1]
  rfl

theorem State.kept_raiseCapacity (s : State) (o : OutletId) (kW : Nat) : ((s.raiseCapacity o kW).outlet o).kept =
    { (s.outlet o).kept with session := (s.outlet o).session.map fun x => { x with admitted := kW } } := by
  rw [State.outlet_raiseCapacity, State.lowered, State.kept_recomputeLimit, State.kept_modifySession]

theorem State.actsAt_raiseCapacity (s : State) (o : OutletId) (kW : Nat) : ActsAt o s (s.raiseCapacity o kW) :=
  (((s.actsAt_modifySession o _).trans (State.actsAt_recomputeLimit _ o)).trans (State.actsAt_markSurplus _ o)).trans
    (State.actsAt_topUp _ o)

theorem Outlet.kept_session (x : Outlet) : x.kept.session = x.session := rfl

/-- The act of CAPACITY in a supplied state where the value is another one (R61). -/
structure ChangesCapacity (o : OutletId) (kW : Nat) (s u : State) : Prop where
  acts : ActsAt o s u
  kept : (u.outlet o).kept =
    { (s.outlet o).kept with session := (s.outlet o).session.map fun x => { x with admitted := kW } }
  state : (u.outlet o).state = (s.outlet o).state
  prot : u.Protected (fun q => (s.outlet q).sb.channel = .closing) (fun q => (s.outlet q).pb.channel = .closePulse)
    False True

theorem State.decrease_changes (hsound : s.sound = true) (hsup : (s.outlet o).state.supplied = true) (kW : Nat) :
    ChangesCapacity o kW s (s.decrease o kW) :=
  ⟨s.actsAt_decrease o kW, s.kept_decrease o kW, s.state_decrease o o kW,
    (State.protected_of_sound hsound nofun).decrease hsup kW⟩

theorem State.raiseCapacity_changes (hsound : s.sound = true) (hsup : (s.outlet o).state.supplied = true) (kW : Nat) :
    ChangesCapacity o kW s (s.raiseCapacity o kW) :=
  ⟨s.actsAt_raiseCapacity o kW, s.kept_raiseCapacity o kW, by rw [s.outlet_raiseCapacity, s.lowered_outlet],
    (State.protected_of_sound hsound nofun).raiseCapacity hsup kW⟩

theorem ChangesCapacity.session (h : ChangesCapacity o kW s u) (hr : (s.outlet o).session = some k) :
    (u.outlet o).session = some { k with admitted := kW } := by
  have := congrArg Outlet.session h.kept
  simpa [Outlet.kept_session, hr] using this

theorem ChangesCapacity.admitted (h : ChangesCapacity o kW s u) (hr : (s.outlet o).session = some k) :
    u.admitted o = kW := by
  rw [State.admitted, h.session hr]

theorem ChangesCapacity.settles (h : ChangesCapacity o kW s u) (hs : s.ready = true)
    (hsup : (s.outlet o).state.supplied = true) (clamped : Bool) :
    CapacitySettles o clamped s u (u.reallocate.okCapacity o clamped).finish :=
  State.capacity_settles hs h.acts h.prot (by rw [h.state]; exact hsup) clamped

/-! ### What a decrease leaves at the end of its event -/

/-- A member after the decrease is not free. -/
theorem State.DecreasesTo.isFree {k' : Module} (h : s.DecreasesTo o kW m k') (hk : (s.module m).isFree = false) :
    k'.isFree = false := by
  unfold State.DecreasesTo at h
  dsimp only at h
  split at h
  · rw [← hk]
    exact (congrArg Module.isFree h :)
  · split at h
    · exact h.2.2.2.2
    · split at h
      · simp [Module.isFree, h.2.1]
      · rw [h, ← hk]
        rfl

/-- What stands of a decrease once its event has ended: its members, which no grant takes, and the outlet's request,
where it still waits. -/
theorem State.hasDecreased_of_kept (hsound : s.sound = true) (hr : (s.outlet o).session = some k)
    (hsup : (s.outlet o).state.supplied = true) (ha : t.admitted o = kW)
    (hmod : ∀ m, (s.module m).group = some o → ((s.decrease o kW).module m).isFree = false →
      t.module m = (s.decrease o kW).module m)
    (hreq : ∀ q ∈ t.grants, q.outlet = o → q ∈ (s.decrease o kW).grants) : t.hasDecreased s o kW = true := by
  have hsession : (s.outlet o).session.isSome = true := by rw [hr]; rfl
  refine State.hasDecreased_of ha (fun q hq => ?_) fun m hg => ?_
  · obtain ⟨hmem, ho⟩ := State.request_mem hq
    exact State.asksFor_decrease hsession (fun k hk hko =>
      State.kinds_of_protected (State.protected_of_sound (M := False) hsound nofun) hsup hk hko) (hreq q hmem ho) ho
  · have hto := State.decreasesTo_decrease hsup hsession kW hg
    have hfree : (s.module m).isFree = false := by
      by_contra hf
      rw [State.freeApart_of_sound hsound m (by simpa using hf)] at hg
      cases hg
    rw [hmod m hg (hto.isFree hfree)]
    exact hto

end Sys2Proof.Machine
end

section
/-! CAPACITY (R61, R62): the order in ADMITTED, and with an equal value, a lower one and a higher one in the supplied
states. -/

namespace Sys2Proof.Machine

variable {s t u v w : State} {o : OutletId} {m : Fin 8} {kW given : Nat} {r : Request} {k : Session}

/-- What an accepted CAPACITY leaves, of the session and the reply, and what it leaves alone (R61). -/
structure AcceptsCapacity (o : OutletId) (k : Session) (kW given : Nat) (s t : State) : Prop where
  session : (t.outlet o).session = some { k with admitted := given }
  limit : (t.outlet o).limit ≤ min given (t.groupCapacity o)
  reply : t.terminal.reply = some
    (let pairs := [("ADMITTED_CAPACITY", Value.number given), ("CAPACITY_LIMIT", .number (t.outlet o).limit)]
     if given != kW then .clamped pairs else .ok "" pairs)
  others : ∀ q, q ≠ o → (t.outlet q).kept = (s.outlet q).kept
  kept : (t.outlet o).kept = { (s.outlet o).kept with session := some { k with admitted := given } }
  common : t.common = { s.common with terminal := t.terminal }
  follows : t.follows s = true

/-! ### In ADMITTED -/

theorem State.requests_finish (he : s.noneEnds) : ∀ r ∈ s.finish.grants, r ∈ s.grants :=
  State.finish_induction (P := fun a => ∀ r ∈ a.grants, r ∈ s.grants)
    (fun a q h => by rw [(a.recomputeLimit_frame q).1]; exact h)
    (fun a r rest ms hg _ h => by
      rw [State.grant_frame]
      exact fun k hk => h k (by rw [hg]; exact List.mem_cons_of_mem _ hk))
    (fun _ _ h => h) (fun a q h => by rw [(a.endPrepare_spec q).1]; exact h) (fun _ _ h => h) he fun _ h => h

/-- The session of an outlet in ADMITTED with another admitted capacity, asked for anew (R61). -/
def State.askAnew (s : State) (o : OutletId) (kW : Nat) : State :=
  (s.modifySession o fun x => { x with admitted := kW }).ask o .initial kW

theorem State.askAnew_frame (s : State) (o : OutletId) (kW : Nat) :
    s.askAnew o kW = { s with outlets := (s.askAnew o kW).outlets, grants := (s.askAnew o kW).grants } := by
  rw [State.askAnew, State.ask_frame]
  rfl

theorem State.outlet_askAnew (s : State) (o q : OutletId) (kW : Nat) :
    (s.askAnew o kW).outlet q = (s.modifySession o fun x => { x with admitted := kW }).outlet q := by
  rw [State.askAnew, State.ask_frame]
  rfl

/-- Without members an outlet has no claim and no limit, whatever its admitted capacity (R52). -/
theorem State.figures_askAnew (hg : s.group o = []) (hl : s.limitsStand)
    (hb : s.budgetOver = decide (s.gridLimit < s.claims)) (kW : Nat) :
    (s.askAnew o kW).limitsStand ∧
      (s.askAnew o kW).budgetOver = decide ((s.askAnew o kW).gridLimit < (s.askAnew o kW).claims) := by
  have hframe := s.askAnew_frame o kW
  have hout := s.outlet_askAnew o (kW := kW)
  generalize s.askAnew o kW = u at hframe hout ⊢
  have hmod (m : Fin 8) : u.module m = s.module m := by rw [hframe]; rfl
  have hgroup (a : State) (ha : ∀ m, a.module m = s.module m) (q : OutletId) : a.group q = s.group q := by
    simp only [State.group, ha]
  have hmembers (sts : List ModuleState) (q : OutletId) : u.members q sts = s.members q sts := by
    simp only [State.members, hgroup u hmod, hmod]
  have hratings (ms : List (Fin 8)) : u.ratings ms = s.ratings ms := by simp only [State.ratings, hmod]
  have hnone (sts : List ModuleState) : s.members o sts = [] := by simp [State.members, hg]
  have hcap : s.groupCapacity o = 0 := by rw [State.groupCapacity, hnone]; rfl
  have hcom : s.committed o = 0 := by rw [State.committed, hnone]; rfl
  have hcapu (q : OutletId) : u.groupCapacity q = s.groupCapacity q := by
    rw [State.groupCapacity, hmembers, hratings]; rfl
  have hcomu (q : OutletId) : u.committed q = s.committed q := by rw [State.committed, hmembers, hratings]; rfl
  have hbud : u.budgetOver = s.budgetOver := by rw [hframe]
  have hlimit (q : OutletId) : (u.outlet q).limit = (s.outlet q).limit := by
    rw [hout]
    by_cases hq : q = o
    · subst hq
      rw [State.modifySession, State.outlet_modify_self]
    · rw [State.modifySession, State.outlet_modify_ne _ _ hq]
  have hadm (q : OutletId) (hq : q ≠ o) : u.admitted q = s.admitted q := by
    simp only [State.admitted, hout]
    rw [State.modifySession, State.outlet_modify_ne _ _ hq]
  have hclaim (q : OutletId) : u.claim q = s.claim q := by
    simp only [State.claim, hcomu]
    by_cases hq : q = o
    · subst hq
      rw [hcom, Nat.min_zero, Nat.min_zero]
    · rw [hadm q hq]
  refine ⟨fun q => ?_, ?_⟩
  · rw [hlimit, hl q]
    simp only [State.newLimit, hbud, hcapu, hlimit]
    by_cases hq : q = o
    · subst hq
      simp [hcap]
    · rw [hadm q hq]
  · have hclaims : u.claims = s.claims := by simp only [State.claims, hclaim]
    have hgrid : u.gridLimit = s.gridLimit := by rw [hframe]
    rw [hbud, hb, hclaims, hgrid]

theorem State.capacity_admitted (hs : s.ready = true) (hsound : s.sound = true) (hr : (s.outlet o).session = some k)
    (hst : (s.outlet o).state = .admitted) (kW : Nat) :
    let given := clampCapacity kW
    ∃ t, exec (.capacity (some o) kW) s = .next t ∧ AcceptsCapacity o k kW given s t ∧
      ∀ q, t.request o = some q → q.wanted = given := by
  intro given
  have hp := (s.ready_iff.1 hs).1
  have hstands := State.Standing.of_ready hs
  have hact : s.orderCapacity (some o) kW = (s.askAnew o given).okCapacity o (given != kW) := by
    simp only [State.orderCapacity, State.forOutlet, hst]
    rfl
  have hq := ((State.protected_of_sound (M := False) hsound nofun).orderCapacity (some o) kW).queued
  have hgroup : s.group o = [] := State.no_group_of_sound hsound (by rw [hst]; decide)
  obtain ⟨hlimits, hbudget⟩ := State.figures_askAnew hgroup (fun q => (hstands.outlets q).2.1) hstands.budget given
  have hframe := s.askAnew_frame o given
  have hout := s.outlet_askAnew o (kW := given)
  have hwanted (q : Request) (hm : q ∈ (s.askAnew o given).grants) (ho : q.outlet = o) : q.wanted = given :=
    State.wanted_ask hm ho
  rw [hact] at hq
  have hself : (s.askAnew o given).outlet o = { s.outlet o with session := some { k with admitted := given } } := by
    rw [hout, State.modifySession, State.outlet_modify_self, hr]
    rfl
  have hother (q : OutletId) (hqo : q ≠ o) : (s.askAnew o given).outlet q = s.outlet q := by
    rw [hout, State.modifySession, State.outlet_modify_ne _ _ hqo]
  have hcap : (s.askAnew o given).groupCapacity o = 0 := by
    rw [hframe]
    show s.groupCapacity o = 0
    exact State.groupCapacity_of_no_group hgroup
  refine ⟨_, (atEvent_of_running hp).trans (by rw [hact]), ?_⟩
  generalize s.askAnew o given = u at hq hlimits hbudget hframe hwanted hself hother hcap ⊢
  have hstate (q : OutletId) : (u.outlet q).state = (s.outlet q).state ∧ (u.outlet q).sb = (s.outlet q).sb ∧
      (u.outlet q).limit = (s.outlet q).limit := by
    by_cases hqo : q = o
    · subst hqo
      rw [hself]
      exact ⟨rfl, rfl, rfl⟩
    · rw [hother q hqo]
      exact ⟨rfl, rfl, rfl⟩
  have hadm : u.admitted o = given := by rw [State.admitted, hself]
  generalize hv : u.okCapacity o (given != kW) = v at hq ⊢
  have houtv (q : OutletId) : v.outlet q = u.outlet q := by rw [← hv]; rfl
  have he : v.noneEnds := fun q => (State.endsNow_congr (s := s) (by rw [houtv, (hstate q).1])
    (by rw [houtv, (hstate q).2.1])).trans (State.noneEnds_of_ready hs q)
  have hpv : v.phase = .running := by
    rw [← hv]
    show u.phase = .running
    rw [hframe]
    exact hp
  have hlimit := State.limits_finish (s := v) hpv he (by rw [← hv]; exact hlimits) (by rw [← hv]; exact hbudget) o
  have hzero : (s.outlet o).limit = 0 := by
    have := State.limit_le (hstands.outlets o).2.1
    rw [State.groupCapacity_of_no_group hgroup, Nat.min_zero] at this
    exact Nat.le_zero.1 this
  have hreq := State.requests_finish he
  have ha := v.answers_finish hq he
  have hstated := State.finish_stated hpv
  generalize v.finish = t at hlimit hreq ha hstated ⊢
  have hterm : t.terminal = v.terminal := (congrArg State.terminal ha.common :)
  have hlimit' : (t.outlet o).limit = (s.outlet o).limit := by rw [hlimit, houtv, (hstate o).2.2]
  have hcommon : v.common = { s.common with terminal := v.terminal } := by
    rw [← hv]
    show { u.common with terminal := (u.okCapacity o (given != kW)).terminal } = _
    rw [hframe]
    rfl
  have hkept : (t.outlet o).kept = { (s.outlet o).kept with session := some { k with admitted := given } } := by
    rw [ha.outlets, houtv, hself]
    rfl
  refine ⟨⟨?_, ?_, ?_, fun q hqo => ?_, hkept, ?_, State.follows_iff.2 ⟨hstated, ?_⟩⟩, fun q hr => ?_⟩
  · exact (congrArg Outlet.session hkept :)
  · rw [hlimit', hzero]
    exact Nat.zero_le _
  · rw [hterm, hlimit', ← (hstate o).2.2, ← hadm, ← hv, hadm]
    show some (if given != kW then Reply.clamped [("ADMITTED_CAPACITY", Value.number (u.admitted o)), _]
      else .ok "" [("ADMITTED_CAPACITY", Value.number (u.admitted o)), _]) = _
    rw [hadm]
  · rw [ha.outlets, houtv, hother q hqo]
  · rw [ha.common, hterm, hcommon]
  · exact (congrArg State.status ha.common :).trans (congrArg State.status hcommon :)
  · obtain ⟨hmem, ho⟩ := State.request_mem hr
    have hmemv := hreq q hmem
    rw [← hv] at hmemv
    exact hwanted q hmemv ho

/-! ### In the supplied states -/

theorem OutletState.of_supplied {st : OutletState} (h : st.supplied = true) :
    st.within .vacant .announced = false ∧ st ≠ .held ∧ st ≠ .admitted := by
  revert h
  cases st <;> decide

theorem State.orderCapacity_supplied (hsup : (s.outlet o).state.supplied = true) (kW : Nat) :
    s.orderCapacity (some o) kW = s.changeCapacity o (clampCapacity kW) (clampCapacity kW != kW) := by
  obtain ⟨h1, h2, h3⟩ := OutletState.of_supplied hsup
  simp only [State.orderCapacity, State.forOutlet]
  rw [if_neg (by rw [h1]; nofun), if_neg h2, if_neg h3, if_pos hsup]

/-- An equal value changes nothing (R61). -/
theorem State.capacity_equal (hs : s.ready = true) (hr : (s.outlet o).session = some k)
    (hsup : (s.outlet o).state.supplied = true) (heq : clampCapacity kW = k.admitted) :
    let given := clampCapacity kW
    ∃ t, exec (.capacity (some o) kW) s = .next t ∧ AcceptsCapacity o k kW given s t ∧
      t = { s with terminal := t.terminal } := by
  intro given
  have hadm : s.admitted o = given := by rw [State.admitted, hr]; exact heq.symm
  have hact : s.orderCapacity (some o) kW = s.okCapacity o (given != kW) := by
    rw [State.orderCapacity_supplied hsup]
    exact if_pos hadm.symm
  have hready : (s.orderCapacity (some o) kW).ready = true := by rw [hact]; exact hs
  refine ⟨_, atEvent_of_ready (s.ready_iff.1 hs).1 hready, ?_⟩
  have hk : { k with admitted := given } = k := by rw [show given = k.admitted from heq]
  have hlimit := State.limit_le ((State.Standing.of_ready hs).outlets o).2.1
  rw [hact]
  refine ⟨⟨?_, ?_, ?_, fun _ _ => rfl, ?_, rfl, State.follows_iff.2 ⟨?_, rfl⟩⟩, rfl⟩
  · rw [hk]
    exact hr
  · rw [← hadm]
    exact hlimit
  · rw [← hadm]
    rfl
  · rw [hk, ← hr]
    rfl
  · exact State.stated_of_ready hs

/-- A change of the admitted capacity, with what the event makes of it (R61). -/
theorem ChangesCapacity.accepts (h : ChangesCapacity o given s u) (hs : s.ready = true)
    (hr : (s.outlet o).session = some k) (hsup : (s.outlet o).state.supplied = true) (kW : Nat) :
    AcceptsCapacity o k kW given s (u.reallocate.okCapacity o (given != kW)).finish := by
  have hset := h.settles hs hsup (given != kW)
  have hadm := h.admitted hr
  generalize (u.reallocate.okCapacity o (given != kW)).finish = t at hset ⊢
  refine ⟨hset.session.trans (h.session hr), ?_, ?_, hset.others, ?_, hset.common, hset.follows⟩
  · rw [← hadm]
    exact hset.limit
  · rw [hset.reply, hadm]
  · rw [hset.kept, h.kept, hr]
    rfl

theorem State.capacity_changed (hs : s.ready = true) (hsound : s.sound = true) (hr : (s.outlet o).session = some k)
    (hsup : (s.outlet o).state.supplied = true) (hne : clampCapacity kW ≠ k.admitted)
    (hmay : clampCapacity kW ≤ k.admitted ∨
      s.claims - s.claim o + min (clampCapacity kW) (s.committed o) ≤ s.gridLimit) :
    let given := clampCapacity kW
    ∃ t, exec (.capacity (some o) kW) s = .next t ∧ AcceptsCapacity o k kW given s t ∧
      (t.outlet o).state = (s.outlet o).state ∧ (given < k.admitted → t.hasDecreased s o given = true) := by
  intro given
  have hp := (s.ready_iff.1 hs).1
  have hadm : s.admitted o = k.admitted := by rw [State.admitted, hr]
  have hact : s.orderCapacity (some o) kW = s.changeCapacity o given (given != kW) :=
    State.orderCapacity_supplied hsup kW
  unfold State.changeCapacity at hact
  rw [if_neg (by rw [hadm]; exact hne)] at hact
  by_cases hlt : given < k.admitted
  · rw [if_pos (by rw [hadm]; exact hlt)] at hact
    have hch := State.decrease_changes hsound hsup given
    have hset := hch.settles hs hsup (given != kW)
    refine ⟨_, (atEvent_of_running hp).trans (by rw [hact]), hch.accepts hs hr hsup kW, hset.state.trans hch.state,
      fun _ => ?_⟩
    refine State.hasDecreased_of_kept hsound hr hsup ?_ (fun m _ => hset.modules m) fun q hq _ => hset.requests q hq
    rw [State.admitted, hset.session, hch.session hr]
  · have hmay' : s.mayRaise o given = true := decide_eq_true (hmay.resolve_left (by omega))
    rw [if_neg (by rw [hadm]; exact hlt), if_pos hmay'] at hact
    have hch := State.raiseCapacity_changes hsound hsup given
    exact ⟨_, (atEvent_of_running hp).trans (by rw [hact]), hch.accepts hs hr hsup kW,
      (hch.settles hs hsup (given != kW)).state.trans hch.state, fun h => (hlt h).elim⟩

end Sys2Proof.Machine
end

section
/-! One capacity decrease among several (R60): states that agree at an outlet, and the claim a decrease leaves. -/

namespace Sys2Proof.Machine

variable {b s t u v w : State} {o q : OutletId} {m : Fin 8} {kW : Nat} {r : Request} {sts : List ModuleState}

/-! ### Two states that agree at an outlet -/

/-- Two states agree at an outlet: its own figures, the modules of the group it has in `b`, and its requests. -/
structure Agrees (b : State) (q : OutletId) (u v : State) : Prop where
  outlet : v.outlet q = u.outlet q
  modules : ∀ m, (b.module m).group = some q → v.module m = u.module m
  requests : ∀ r : Request, r.outlet = q → (r ∈ v.grants ↔ r ∈ u.grants)

theorem Agrees.refl (b : State) (q : OutletId) (u : State) : Agrees b q u u :=
  ⟨rfl, fun _ _ => rfl, fun _ _ => Iff.rfl⟩

theorem Agrees.trans (h : Agrees b q u v) (k : Agrees b q v w) : Agrees b q u w :=
  ⟨k.outlet.trans h.outlet, fun m hm => (k.modules m hm).trans (h.modules m hm),
    fun r hr => (k.requests r hr).trans (h.requests r hr)⟩

theorem Agrees.admitted (h : Agrees b q u v) : v.admitted q = u.admitted q := by
  simp only [State.admitted, h.outlet]

/-- An act at another outlet. -/
theorem Agrees.of_actsAt (h : ActsAt o u v) (hq : q ≠ o) (hu : Shrinks b u) : Agrees b q u v where
  outlet := h.outlets q hq
  modules m hm := h.modules m fun hg => by
    rcases hu m with hn | hn
    · rw [hn] at hg
      cases hg
    · rw [hn, hm] at hg
      exact hq (Option.some.inj hg)
  requests r hr := by
    have hmem (a : State) : r ∈ a.grants ↔ r ∈ a.grants.filter (·.outlet != o) := by
      rw [List.mem_filter]
      exact (and_iff_left (by rw [hr]; simpa using hq)).symm
    rw [hmem v, h.requests, ← hmem u]

theorem Agrees.committed (h : Agrees b q u v) (hu : Shrinks b u) (hv : Shrinks b v) :
    v.committed q = u.committed q := by
  have hof (a : State) (ha : Shrinks b a) (m : Fin 8) (hg : (a.module m).group = some q) :
      (b.module m).group = some q := by
    rcases ha m with hn | hn
    · rw [hn] at hg
      cases hg
    · exact hn.symm.trans hg
  rw [State.committed_sum, State.committed_sum]
  refine congrArg List.sum (List.map_congr_left fun m _ => ?_)
  by_cases hm : (b.module m).group = some q
  · rw [h.modules m hm]
  · rw [if_neg fun k => hm (hof v hv m k.1), if_neg fun k => hm (hof u hu m k.1)]

theorem Agrees.claim (h : Agrees b q u v) (hu : Shrinks b u) (hv : Shrinks b v) : v.claim q = u.claim q := by
  rw [State.claim, State.claim, h.admitted, h.committed hu hv]

/-! ### Two states that agree at an outlet judge a decrease of it alike -/

theorem Agrees.group_iff (h : Agrees b q b v) (hv : Shrinks b v) (m : Fin 8) :
    (v.module m).group = some q ↔ (b.module m).group = some q := by
  refine ⟨fun hg => ?_, fun hg => by rw [h.modules m hg]; exact hg⟩
  rcases hv m with hn | hn
  · rw [hn] at hg
    cases hg
  · exact hn.symm.trans hg

theorem Agrees.members (h : Agrees b q b v) (hv : Shrinks b v) (sts : List ModuleState) :
    v.members q sts = b.members q sts := by
  simp only [State.members, State.group, List.filter_filter]
  refine List.filter_congr fun m _ => ?_
  rw [Bool.eq_iff_iff]
  simp only [Bool.and_eq_true, beq_iff_eq, h.group_iff hv m]
  exact and_congr_left fun hg => by rw [h.modules m hg]

theorem Agrees.ratings (h : Agrees b q b v) {ms : List (Fin 8)} (hms : ms ⊆ b.members q sts) :
    v.ratings ms = b.ratings ms :=
  congrArg List.sum (List.map_congr_left fun m hm => by rw [h.modules m ((b.mem_members q _ m).1 (hms hm)).1])

theorem Agrees.ratings_filter (h : Agrees b q b v) (c : Fin 8 → Bool) :
    v.ratings ((b.members q sts).filter c) = b.ratings ((b.members q sts).filter c) :=
  h.ratings fun _ hm => List.mem_of_mem_filter hm

theorem Agrees.spareAt (h : Agrees b q b v) (hv : Shrinks b v) (kW : Nat) (m : Fin 8) :
    v.spareAt q kW m = b.spareAt q kW m := by
  rw [State.spareAt, h.members hv, h.ratings_filter]
  rfl

theorem Agrees.carriersAt (h : Agrees b q b v) (hv : Shrinks b v) (kW : Nat) :
    v.carriersAt q kW = b.carriersAt q kW := by
  rw [State.carriersAt, h.members hv]
  refine List.filter_congr fun m hm => ?_
  rw [h.spareAt hv, h.modules m ((b.mem_members q _ m).1 hm).1]

theorem Agrees.releasesAt (h : Agrees b q b v) (hv : Shrinks b v) (kW : Nat) :
    v.releasesAt q kW = b.releasesAt q kW := by
  rw [State.releasesAt, h.carriersAt hv, State.carriersAt, h.ratings_filter, h.outlet]
  rfl

theorem Agrees.decreasesTo (h : Agrees b q b v) (hv : Shrinks b v) {k' : Module}
    (hg : (b.module m).group = some q) (hd : v.DecreasesTo q kW m k') : b.DecreasesTo q kW m k' := by
  unfold State.DecreasesTo at hd ⊢
  rwa [h.spareAt hv, h.releasesAt hv, h.modules m hg] at hd

theorem Agrees.asksFor (h : Agrees b q b v) (hv : Shrinks b v) (ha : v.AsksFor q kW r) : b.AsksFor q kW r := by
  obtain ⟨hreq, hkind, hne, hwanted⟩ := ha
  rw [h.members hv, h.ratings (List.Subset.refl _)] at hwanted
  refine ⟨?_, hkind, hne, hwanted⟩
  obtain ⟨k, hk⟩ := Option.isSome_iff_exists.1 hreq
  obtain ⟨hmem, ho⟩ := State.request_mem hk
  exact State.request_isSome ⟨k, (h.requests k ho).1 hmem, ho⟩

/-! ### One decrease among others -/

theorem State.shrinks_decrease (hsup : (s.outlet o).state.supplied = true)
    (hsession : (s.outlet o).session.isSome = true) (kW : Nat) : Shrinks s (s.decrease o kW) := fun m => by
  by_cases hg : (s.module m).group = some o
  · have h := State.decreasesTo_decrease hsup hsession kW hg
    unfold State.DecreasesTo at h
    dsimp only at h
    split at h
    · exact .inr (congrArg Module.group h :)
    · split at h
      · exact .inl h.1
      · split at h
        · exact .inr (h.1.trans hg.symm)
        · exact .inr (by rw [h])
  · exact .inr (by rw [(s.actsAt_decrease o kW).modules m hg])

theorem State.session_decrease (s : State) (o : OutletId) (kW : Nat) :
    ((s.decrease o kW).outlet o).session = (s.outlet o).session.map fun x => { x with admitted := kW } :=
  (congrArg Outlet.session (s.kept_decrease o kW) :)

theorem State.admitted_decrease (hsession : (s.outlet o).session.isSome = true) (kW : Nat) :
    (s.decrease o kW).admitted o = kW := by
  obtain ⟨k, hk⟩ := Option.isSome_iff_exists.1 hsession
  rw [State.admitted, s.session_decrease, hk]
  rfl

/-- The members that are not surplus still count in the committed rating. -/
theorem State.ratings_le_committed_decrease (hsup : (s.outlet o).state.supplied = true)
    (hsession : (s.outlet o).session.isSome = true) (kW : Nat) :
    s.ratings ((s.members o committedStates).filter fun m => !s.spareAt o kW m) ≤ (s.decrease o kW).committed o := by
  rw [State.ratings_eq ((s.members_nodup o _).filter _), State.committed_sum]
  refine List.sum_le_sum fun m _ => ?_
  split
  · next hm =>
    obtain ⟨hmem, hspare⟩ := List.mem_filter.1 hm
    obtain ⟨hg, hst⟩ := (s.mem_members o _ m).1 hmem
    have h := State.decreasesTo_decrease hsup hsession kW hg
    unfold State.DecreasesTo at h
    dsimp only at h
    rw [if_pos (by simpa using hspare)] at h
    have hgroup := (congrArg Module.group h :)
    have hstate := (congrArg Module.state h :)
    have hrating := (congrArg Module.rating h :)
    dsimp only at hgroup hstate hrating
    rw [if_pos ⟨hgroup.trans hg, hstate ▸ hst⟩, hrating]
  · exact Nat.zero_le _

/-- A decrease within the claim makes the claim what it names (R60). -/
theorem State.claim_decrease (hsup : (s.outlet o).state.supplied = true)
    (hsession : (s.outlet o).session.isSome = true) (h : kW ≤ s.claim o) : (s.decrease o kW).claim o = kW := by
  rw [State.claim, State.admitted_decrease hsession]
  refine Nat.min_eq_left (Nat.le_trans ?_ (State.ratings_le_committed_decrease hsup hsession kW))
  by_contra hlt
  have hall : (s.members o committedStates).filter (fun m => !s.spareAt o kW m) = s.members o committedStates :=
    List.filter_eq_self.2 fun m _ => by simp [State.no_spare hsession (Nat.lt_of_not_le hlt) m]
  rw [hall] at hlt
  exact hlt (h.trans (Nat.min_le_right _ _))

theorem State.session_of_claim (h : 0 < s.admitted o) : (s.outlet o).session.isSome = true := by
  cases hr : (s.outlet o).session with
  | none => simp [State.admitted, hr] at h
  | some k => rfl

end Sys2Proof.Machine
end

section
/-! The whole cut, in its order (R60), and what stands of it once its event has ended. -/

namespace Sys2Proof.Machine

variable {b s t u v w : State} {o q : OutletId} {m : Fin 8} {kW : Nat} {r : Request} {pre : List OutletId}

/-! ### What has become of an outlet -/

/-- Between `b` and `u` an outlet has been cut to `kW`, once; nothing else has touched it. -/
def State.CutTo (b : State) (q : OutletId) (kW : Nat) (u : State) : Prop :=
  kW < b.admitted q ∧ (b.outlet q).state.supplied = true ∧
    ∃ v, Shrinks b v ∧ Agrees b q b v ∧ Agrees b q (v.decrease q kW) u

theorem State.CutTo.session_isSome (h : b.CutTo q kW u) : (b.outlet q).session.isSome = true :=
  State.session_of_claim (Nat.zero_lt_of_lt h.1)

theorem State.CutTo.session (h : b.CutTo q kW u) :
    (u.outlet q).session = (b.outlet q).session.map fun x => { x with admitted := kW } := by
  obtain ⟨_, _, v, _, hv, hu⟩ := h
  rw [hu.outlet, State.session_decrease, hv.outlet]

theorem State.CutTo.admitted (h : b.CutTo q kW u) : u.admitted q = kW := by
  obtain ⟨k, hk⟩ := Option.isSome_iff_exists.1 h.session_isSome
  rw [State.admitted, h.session, hk]
  rfl

theorem State.CutTo.agrees (h : b.CutTo q kW u) (k : Agrees b q u w) : b.CutTo q kW w := by
  obtain ⟨hlt, hsup, v, hshrinks, hv, hu⟩ := h
  exact ⟨hlt, hsup, v, hshrinks, hv, hu.trans k⟩

/-- Once the event has ended the cut stands as a capacity decrease (R60, R62, R63). -/
theorem State.CutTo.hasDecreased (h : b.CutTo q kW u) (hsound : b.sound = true) (ha : t.admitted q = kW)
    (hmod : ∀ m, (u.module m).isFree = false → t.module m = u.module m) (hreq : ∀ r ∈ t.grants, r ∈ u.grants) :
    t.hasDecreased b q kW = true := by
  have hsession := h.session_isSome
  obtain ⟨_, hsup, v, hshrinks, hv, hu⟩ := h
  have hsupv : (v.outlet q).state.supplied = true := by rw [hv.outlet]; exact hsup
  have hsessionv : (v.outlet q).session.isSome = true := by rw [hv.outlet]; exact hsession
  refine State.hasDecreased_of ha (fun k hk => ?_) fun m hg => ?_
  · obtain ⟨hmem, ho⟩ := State.request_mem hk
    refine hv.asksFor hshrinks (State.asksFor_decrease hsessionv (fun j hj hjo => ?_)
      ((hu.requests k ho).1 (hreq k hmem)) ho)
    exact State.kinds_of_protected (State.protected_of_sound (M := False) hsound nofun) hsup
      ((hv.requests j hjo).1 hj) hjo
  · have hto := State.decreasesTo_decrease hsupv hsessionv kW ((hv.group_iff hshrinks m).2 hg)
    have hfree : (b.module m).isFree = false := by
      by_contra hf
      rw [State.freeApart_of_sound hsound m (by simpa using hf)] at hg
      cases hg
    have hfree' := hto.isFree (by rw [hv.modules m hg]; exact hfree)
    have hum := hu.modules m hg
    rw [hmod m (by rw [hum]; exact hfree'), hum]
    exact hv.decreasesTo hshrinks hg hto

/-! ### The cut, turn by turn (R60) -/

/-- The outlets `pre` have had their turns in the cut, from a part `b` whose claims reach the grid import limit. -/
structure Cuts (b : State) (pre : List OutletId) (v : State) : Prop where
  common : v.common = b.common
  shrinks : Shrinks b v
  state : ∀ q, (v.outlet q).state = (b.outlet q).state
  waiting : ∀ q, q ∉ pre → Agrees b q b v
  outcome : ∀ q, Agrees b q b v ∨ ∃ kW, b.CutTo q kW v
  reaches : b.gridLimit ≤ v.claims
  spent : v.claims = b.gridLimit ∨ ∀ o ∈ pre, v.claim o ≤ 1
  order : pre.Pairwise fun o q => v.admitted q < b.admitted q → v.claim o ≤ 1

theorem Cuts.nil (h : b.gridLimit ≤ b.claims) : Cuts b [] b where
  common := rfl
  shrinks := .refl b
  state _ := rfl
  waiting q _ := .refl b q b
  outcome q := .inl (.refl b q b)
  reaches := h
  spent := .inr (by simp)
  order := .nil

theorem State.claims_eq_add (s : State) (o : OutletId) :
    ∃ n, s.claims = s.claim o + n ∧ ∀ t : State, (∀ q, q ≠ o → t.claim q = s.claim q) → t.claims = t.claim o + n := by
  cases o with
  | a =>
    refine ⟨s.claim .b + s.claim .c, by simp only [State.claims]; omega, fun t h => ?_⟩
    simp only [State.claims, h .b (by decide), h .c (by decide)]
    omega
  | b =>
    refine ⟨s.claim .a + s.claim .c, by simp only [State.claims]; omega, fun t h => ?_⟩
    simp only [State.claims, h .a (by decide), h .c (by decide)]
    omega
  | c =>
    refine ⟨s.claim .a + s.claim .b, by simp only [State.claims]; omega, fun t h => ?_⟩
    simp only [State.claims, h .a (by decide), h .b (by decide)]
    omega

theorem Cuts.gridLimit (h : Cuts b pre v) : v.gridLimit = b.gridLimit := (congrArg State.gridLimit h.common :)

/-- A turn at which nothing is taken: the claims are at the limit, or the outlet claims 1 kW at most. -/
theorem Cuts.pass (h : Cuts b pre v) (ho : o ∉ pre) (hz : v.claims = b.gridLimit ∨ v.claim o ≤ 1) :
    Cuts b (pre ++ [o]) v where
  common := h.common
  shrinks := h.shrinks
  state := h.state
  waiting q hq := h.waiting q fun k => hq (List.mem_append_left _ k)
  outcome := h.outcome
  reaches := h.reaches
  spent := by
    rcases h.spent with hs | hs
    · exact .inl hs
    · refine hz.imp id fun hle q hq => ?_
      rcases List.mem_append.1 hq with hq | hq
      · exact hs q hq
      · rw [List.mem_singleton.1 hq]
        exact hle
  order := by
    refine List.pairwise_append.2 ⟨h.order, List.pairwise_singleton _ _, fun p _ q hq hlt => ?_⟩
    rw [List.mem_singleton.1 hq, (h.waiting o ho).admitted] at hlt
    exact absurd hlt (lt_irrefl _)

/-- A turn at which the outlet gives up its share of the excess. -/
theorem Cuts.take (h : Cuts b pre v) (ho : o ∉ pre) (hsup : (b.outlet o).state.supplied = true)
    (hover : b.gridLimit < v.claims) (hclaim : 1 < v.claim o) :
    Cuts b (pre ++ [o]) (v.decrease o (v.claim o - min (v.claims - b.gridLimit) (v.claim o - 1))) := by
  have hwait := h.waiting o ho
  have hadm : v.claim o ≤ v.admitted o := Nat.min_le_left _ _
  have hsession : (v.outlet o).session.isSome = true := State.session_of_claim (by omega)
  have hsupv : (v.outlet o).state.supplied = true := by rw [h.state]; exact hsup
  generalize hkW : v.claim o - min (v.claims - b.gridLimit) (v.claim o - 1) = kW
  have hself := State.claim_decrease hsupv hsession (kW := kW) (by omega)
  have hshrinks := h.shrinks.trans (State.shrinks_decrease hsupv hsession kW)
  have hagrees (q : OutletId) (hq : q ≠ o) : Agrees b q v (v.decrease o kW) :=
    .of_actsAt (v.actsAt_decrease o kW) hq h.shrinks
  have hother (q : OutletId) (hq : q ≠ o) : (v.decrease o kW).claim q = v.claim q :=
    (hagrees q hq).claim h.shrinks hshrinks
  obtain ⟨n, hn, hsum⟩ := v.claims_eq_add o
  have hclaims := hsum _ hother
  rw [hself] at hclaims
  have hpre : ∀ p ∈ pre, v.claim p ≤ 1 := h.spent.resolve_left (by omega)
  have hne (p : OutletId) (hp : p ∈ pre) : p ≠ o := fun e => ho (e ▸ hp)
  refine ⟨(v.actsAt_decrease o kW).common.trans h.common, hshrinks, fun q => ?_, fun q hq => ?_, fun q => ?_, by omega,
    ?_, ?_⟩
  · rw [State.state_decrease, h.state]
  · have hq' : q ∉ pre ∧ q ≠ o := by simpa using hq
    exact (h.waiting q hq'.1).trans (hagrees q hq'.2)
  · by_cases hq : q = o
    · subst hq
      refine .inr ⟨kW, ?_, hsup, v, h.shrinks, hwait, .refl _ _ _⟩
      rw [← hwait.admitted]
      omega
    · exact (h.outcome q).imp (fun k => k.trans (hagrees q hq)) fun ⟨n, k⟩ => ⟨n, k.agrees (hagrees q hq)⟩
  · by_cases hexcess : v.claims - b.gridLimit ≤ v.claim o - 1
    · exact .inl (by omega)
    · refine .inr fun p hp => ?_
      rcases List.mem_append.1 hp with hp | hp
      · rw [hother p (hne p hp)]
        exact hpre p hp
      · rw [List.mem_singleton.1 hp, hself]
        omega
  · refine List.pairwise_append.2 ⟨h.order.imp_of_mem fun {p q} hp hq k hlt => ?_, List.pairwise_singleton _ _,
      fun p hp _ _ _ => ?_⟩
    · rw [(hagrees q (hne q hq)).admitted] at hlt
      rw [hother p (hne p hp)]
      exact k hlt
    · rw [hother p (hne p hp)]
      exact hpre p hp

theorem Cuts.cutOne (h : Cuts b pre v) (ho : o ∉ pre) (hsup : (b.outlet o).state.supplied = true) :
    Cuts b (pre ++ [o]) (v.cutOne o) := by
  unfold State.cutOne
  dsimp only
  rw [h.gridLimit]
  have hreach := h.reaches
  split
  · next hz => exact h.pass ho (by omega)
  · next hz => exact h.take ho hsup (by omega) (by omega)

theorem State.supplied_of_cutOrder (ho : o ∈ s.cutOrder) : (s.outlet o).state.supplied = true := by
  have := List.mem_reverse.1 ho
  rw [State.mem_bySession, List.mem_filter] at this
  exact this.2

theorem State.mem_cutOrder (hsup : (s.outlet o).state.supplied = true) : o ∈ s.cutOrder :=
  List.mem_reverse.2 ((s.mem_bySession _ o).2 (List.mem_filter.2 ⟨mem_allOutlets o, hsup⟩))

theorem State.nodup_cutOrder (s : State) : s.cutOrder.Nodup :=
  List.nodup_reverse.2 ((s.bySession_perm _).nodup_iff.2 (List.Nodup.filter _ (by decide)))

/-- The outlets take their turns from the highest session number down (R60). -/
theorem State.ranked_cutOrder (s : State) : s.cutOrder.Pairwise (s.rank · > s.rank ·) :=
  List.pairwise_reverse.2 (s.ranked_bySession (List.Pairwise.filter _ (by decide)))

theorem State.cuts_gridCut (h : b.gridLimit ≤ b.claims) : Cuts b b.cutOrder b.gridCut := by
  have hnodup := b.nodup_cutOrder
  have hsup : ∀ o ∈ b.cutOrder, (b.outlet o).state.supplied = true := fun _ => State.supplied_of_cutOrder
  unfold State.gridCut
  generalize b.cutOrder = os at hnodup hsup
  induction os using List.reverseRecOn with
  | nil => exact .nil h
  | append_singleton os o ih =>
    rw [List.foldl_append]
    obtain ⟨hos, _, hdisj⟩ := List.nodup_append.1 hnodup
    exact (ih hos fun p hp => hsup p (by simp [hp])).cutOne (fun hmem => hdisj o hmem o (by simp) rfl)
      (hsup o (by simp))

/-- An outlet is cut only once every later admission claims 1 kW at most (R60). -/
theorem Cuts.newest_first (h : Cuts b b.cutOrder v) (ho : (b.outlet o).state.supplied = true)
    (hq : v.admitted q < b.admitted q) (hqs : (b.outlet q).state.supplied = true)
    (hlt : (b.outlet q).sessionNumber < (b.outlet o).sessionNumber) : v.claim o ≤ 1 := by
  have hrank : b.rank q < b.rank o := by
    have := letterRank_lt q
    have := letterRank_lt o
    simp only [State.rank]
    omega
  obtain ⟨pre, post, hsplit⟩ := List.append_of_mem (State.mem_cutOrder ho)
  have hr := b.ranked_cutOrder
  have horder := h.order
  have hmem := State.mem_cutOrder hqs
  rw [hsplit] at hr horder hmem
  rw [List.pairwise_append, List.pairwise_cons] at hr horder
  rcases List.mem_append.1 hmem with hmem | hmem
  · exact absurd (hr.2.2 q hmem o (by simp)) (by omega)
  · rcases List.mem_cons.1 hmem with rfl | hmem
    · exact absurd hrank (lt_irrefl _)
    · exact horder.2.1.1 q hmem hq

end Sys2Proof.Machine
end

section
/-! GRID (R59, R60): the order, with its cut and the end of its event. -/

namespace Sys2Proof.Machine

variable {b s t u v w : State} {o q : OutletId} {m : Fin 8} {kW : Nat} {r : Request} {k : Session} {a : Reply}

/-- The event of an order that may cut outlets and answers (R60): `u` is the part once the outlets have been cut. -/
structure GridSettles (a : Reply) (b u t : State) : Prop where
  claims : Claims u t
  kept : ∀ o, (t.outlet o).kept = (u.outlet o).kept
  sessions : ∀ o, t.admitted o ≤ b.admitted o ∧
    (t.outlet o).session = (b.outlet o).session.map fun r => { r with admitted := t.admitted o }
  supplied : ∀ o, (b.outlet o).state.supplied = false → t.admitted o = b.admitted o
  decreased : ∀ o, t.admitted o < b.admitted o → t.hasDecreased b o (t.admitted o) = true
  reply : t.terminal.reply = some a
  common : t.common = { b.common with terminal := t.terminal }
  follows : t.follows b = true

theorem State.session_map_admitted (s : State) (o : OutletId) :
    (s.outlet o).session = (s.outlet o).session.map fun r => { r with admitted := s.admitted o } := by
  cases h : (s.outlet o).session with
  | none => rfl
  | some k =>
    have : s.admitted o = k.admitted := by rw [State.admitted, h]
    rw [this]
    rfl

theorem State.noneEnds_of_outcome (he : b.noneEnds) (hstate : ∀ q, (u.outlet q).state = (b.outlet q).state)
    (houtcome : ∀ q, Agrees b q b u ∨ ∃ kW, b.CutTo q kW u) : u.noneEnds := fun q => by
  rcases houtcome q with h | ⟨_, _, hsup, _⟩
  · exact (State.endsNow_congr (s := b) (by rw [h.outlet]) (by rw [h.outlet])).trans (he q)
  · refine State.endsNow_of_state fun hd => ?_
    rw [← hstate, hd] at hsup
    cases hsup

theorem State.grid_settles (hp : b.phase = .running) (he : b.noneEnds) (hsound : b.sound = true)
    (hcommon : u.common = b.common) (hstate : ∀ q, (u.outlet q).state = (b.outlet q).state)
    (houtcome : ∀ q, Agrees b q b u ∨ ∃ kW, b.CutTo q kW u) (hq : (u.answer a).queued) :
    GridSettles a b u (u.answer a).finish := by
  have heu' : u.noneEnds := State.noneEnds_of_outcome he hstate houtcome
  have heu : (u.answer a).noneEnds := heu'
  have hpu : (u.answer a).phase = .running := (congrArg State.phase hcommon :).trans hp
  have hclaims := State.claims_finish heu
  have ha := (u.answer a).answers_finish hq heu
  have hkeep (m : Fin 8) := State.module_finish (m := m) hq heu
  have hreq := State.requests_finish heu
  have hstated := State.finish_stated hpu
  generalize (u.answer a).finish = t at hclaims ha hkeep hreq hstated ⊢
  have hterm : t.terminal = (u.answer a).terminal := (congrArg State.terminal ha.common :)
  have hadm (o : OutletId) : t.admitted o = u.admitted o := hclaims.admitted o
  have hsession (o : OutletId) : (t.outlet o).session = (u.outlet o).session :=
    (congrArg Outlet.session (ha.outlets o) :)
  refine ⟨⟨hclaims.gridLimit, hclaims.admitted, hclaims.rises, hclaims.within⟩, ha.outlets, fun o => ?_, fun o ho => ?_,
    fun o ho => ?_, by rw [hterm]; rfl, ?_, State.follows_iff.2 ⟨hstated, ?_⟩⟩
  · rw [hsession, hadm]
    rcases houtcome o with h | ⟨n, h⟩
    · rw [h.admitted, h.outlet]
      exact ⟨Nat.le_refl _, b.session_map_admitted o⟩
    · rw [h.admitted]
      exact ⟨h.1.le, h.session⟩
  · rw [hadm]
    rcases houtcome o with h | ⟨_, _, hsup, _⟩
    · exact h.admitted
    · rw [hsup] at ho
      cases ho
  · rw [hadm] at ho ⊢
    rcases houtcome o with h | ⟨n, h⟩
    · rw [h.admitted] at ho
      exact absurd ho (lt_irrefl _)
    · rw [h.admitted]
      exact h.hasDecreased hsound (by rw [hadm, h.admitted]) hkeep hreq
  · rw [ha.common, hterm, ← hcommon]
    rfl
  · exact (congrArg State.status ha.common :).trans (congrArg State.status hcommon :)

/-! ### The order -/

/-- The part with another grid import limit, once the cut it asks for is made (R59, R60). -/
def State.regridded (s : State) (given : Nat) : State :=
  let b : State := { s with gridLimit := given }
  if given < s.claims then b.gridCut else b

/-- The reply to GRID, with the outlets cut (R60). -/
def State.gridReply (s : State) (kW given : Nat) : Reply :=
  let pairs := ("GRID_IMPORT_LIMIT", Value.number given) :: cutPairs { s with gridLimit := given } (s.regridded given)
  if given != kW then .clamped pairs else .ok "" pairs

theorem State.orderGrid_eq (s : State) (kW : Nat) :
    s.orderGrid kW = (s.regridded (min kW 60000)).answer (s.gridReply kW (min kW 60000)) := rfl

theorem State.sound_gridLimit (h : s.sound = true) (hp : s.phase = .running) (n : Nat) :
    ({ s with gridLimit := n } : State).sound = true := by
  obtain ⟨_, hout, hmod, hgrants⟩ := s.sound_iff.1 h
  exact (State.sound_iff _).2 ⟨State.atRest_of_running hp, hout, hmod, hgrants⟩

theorem cutPairs_self (s : State) : cutPairs s s = [] := by
  have hnone : (s.cutOrder.filter fun o => s.admitted o != s.admitted o) = [] :=
    List.filter_eq_nil_iff.2 fun o _ => by simp
  rw [cutPairs, hnone]
  rfl

/-- GRID within the claims (R59): nothing is cut. -/
theorem State.exec_grid_within (hs : s.ready = true) (hsound : s.sound = true) (hle : s.claims ≤ min kW 60000) :
    ∃ t, exec (.grid kW) s = .next t ∧
      GridSettles (s.gridReply kW (min kW 60000)) { s with gridLimit := min kW 60000 }
        { s with gridLimit := min kW 60000 } t := by
  have hq := ((State.protected_of_sound (M := False) hsound nofun).orderGrid kW).queued
  have hcut : s.regridded (min kW 60000) = { s with gridLimit := min kW 60000 } := if_neg (by omega)
  have hp := (s.ready_iff.1 hs).1
  rw [s.orderGrid_eq, hcut] at hq
  refine ⟨_, (atEvent_of_running hp).trans (by rw [s.orderGrid_eq, hcut]), ?_⟩
  exact State.grid_settles (b := { s with gridLimit := min kW 60000 }) hp (fun q => State.noneEnds_of_ready hs q)
    (State.sound_gridLimit hsound hp _) rfl
    (fun _ => rfl) (fun q => .inl (.refl _ q _)) hq

/-- GRID below the claims (R60): the cut is made. -/
theorem State.exec_grid_over (hs : s.ready = true) (hsound : s.sound = true) (hlt : min kW 60000 < s.claims) :
    ∃ t u, exec (.grid kW) s = .next t ∧
      Cuts { s with gridLimit := min kW 60000 } (State.cutOrder { s with gridLimit := min kW 60000 }) u ∧
      s.regridded (min kW 60000) = u ∧
      GridSettles (s.gridReply kW (min kW 60000)) { s with gridLimit := min kW 60000 } u t := by
  have hq := ((State.protected_of_sound (M := False) hsound nofun).orderGrid kW).queued
  have hp := (s.ready_iff.1 hs).1
  have hcuts := State.cuts_gridCut (b := { s with gridLimit := min kW 60000 }) (Nat.le_of_lt hlt)
  have hcut : s.regridded (min kW 60000) = State.gridCut { s with gridLimit := min kW 60000 } := if_pos hlt
  rw [← hcut] at hcuts
  rw [s.orderGrid_eq] at hq
  refine ⟨_, _, (atEvent_of_running hp).trans (by rw [s.orderGrid_eq]), hcuts, rfl, ?_⟩
  exact State.grid_settles (b := { s with gridLimit := min kW 60000 }) hp (fun q => State.noneEnds_of_ready hs q)
    (State.sound_gridLimit hsound hp _)
    hcuts.common hcuts.state hcuts.outcome hq

/-- The outlets cut, in the order of the cut (R60). -/
theorem State.cut_listed (b u : State) (hu : ∀ o, u.admitted o ≤ b.admitted o)
    (hsup : ∀ o, (b.outlet o).state.supplied = false → u.admitted o = b.admitted o) :
    let cut := b.cutOrder.filter fun o => b.admitted o != u.admitted o
    cut.Nodup ∧ (∀ o, o ∈ cut ↔ u.admitted o < b.admitted o) ∧
      cut.Pairwise (fun o q => (b.outlet q).sessionNumber ≤ (b.outlet o).sessionNumber) := by
  refine ⟨b.nodup_cutOrder.filter _, fun o => ?_, (b.ranked_cutOrder.imp fun {o q} h => ?_).filter _⟩
  · rw [List.mem_filter, bne_iff_ne]
    have hle := hu o
    refine ⟨fun ⟨_, hne⟩ => by omega, fun hlt => ⟨State.mem_cutOrder ?_, by omega⟩⟩
    by_contra hns
    have := hsup o (by simpa using hns)
    omega
  · have := letterRank_lt q
    have := letterRank_lt o
    simp only [State.rank] at h
    omega

end Sys2Proof.Machine

open Sys2Proof.Machine in
/-- Settles O16: CAPACITY is a change at one outlet, its decrease followed member by member; GRID cuts outlet by outlet,
newest first, each cut a decrease, and no grant at the end of the event raises a claim that the cut has lowered. -/
theorem capacityOrdersReplaceLimits : Obligations.CapacityOrdersReplaceLimits := by
  refine ⟨fun s hs hsound o k hr kW => ?_, fun s hs hsound kW => ?_⟩
  · rw [← clampCapacity_eq]
    intro given hcond
    have finish (t : State) (h : AcceptsCapacity o k kW given s t) : t.terminal.reply = some
        (let pairs := [("ADMITTED_CAPACITY", Value.number given), ("CAPACITY_LIMIT", .number (t.outlet o).limit)]
         if given = kW then .ok "" pairs else .clamped pairs) := by
      rw [h.reply]
      by_cases hg : given = kW
      · simp [hg]
      · simp [hg]
    rcases hcond with hst | ⟨hsup, hmay⟩
    · obtain ⟨t, ht, h, hwanted⟩ := State.capacity_admitted hs hsound hr hst kW
      have hns : (s.outlet o).state.supplied ≠ true := by rw [hst]; decide
      exact ⟨t, ht, h.session, h.limit, finish t h, fun _ _ => hwanted, fun k => (hns k).elim, fun k => (hns k).elim,
        fun k => (hns k).elim, h.others, h.kept, h.common, h.follows⟩
    · have hna := (OutletState.of_supplied hsup).2.2
      by_cases heq : given = k.admitted
      · obtain ⟨t, ht, h, hsame⟩ := State.capacity_equal hs hr hsup heq
        exact ⟨t, ht, h.session, h.limit, finish t h, fun k => (hna k).elim, fun _ => by rw [hsame]; rfl,
          fun _ _ => hsame, fun _ hlt => absurd hlt (by omega), h.others, h.kept, h.common, h.follows⟩
      · obtain ⟨t, ht, h, hstate, hdec⟩ := State.capacity_changed hs hsound hr hsup heq hmay
        exact ⟨t, ht, h.session, h.limit, finish t h, fun k => (hna k).elim, fun _ => hstate,
          fun _ k => (heq k).elim, fun _ => hdec, h.others, h.kept, h.common, h.follows⟩
  · intro given
    rcases Nat.lt_or_ge given s.claims with hlt | hle
    · obtain ⟨t, u, ht, hcuts, hu, h⟩ := State.exec_grid_over hs hsound hlt
      have hclaim : ∀ o, t.claim o = u.claim o := fun o =>
        h.claims.claim_eq (hcuts.gridLimit.le.trans hcuts.reaches) o
      have hclaims : t.claims = u.claims := by simp only [State.claims, hclaim]
      have hadm : ∀ o, t.admitted o = u.admitted o := h.claims.admitted
      refine ⟨t, ht, h.claims.gridLimit.trans hcuts.gridLimit, fun hle => absurd hle (by omega), h.sessions, h.supplied,
        ?_, fun o q ho hcut hnum => ?_, h.decreased, fun _ => ⟨?_, ?_⟩, h.common, h.follows⟩
      · rw [hclaims]
        refine hcuts.spent.imp le_of_eq fun hle o ho => ?_
        rw [hclaim]
        exact hle o (State.mem_cutOrder (s := { s with gridLimit := given }) ho)
      · rw [hclaim]
        refine hcuts.newest_first ho (by rw [← hadm]; exact hcut) ?_ hnum
        by_contra hns
        have := h.supplied q (by simpa using hns)
        exact absurd hcut (by rw [this]; exact lt_irrefl _)
      · rw [hclaims]
        exact hcuts.reaches
      · obtain ⟨hnodup, hmem, hsorted⟩ := State.cut_listed { s with gridLimit := given } u
          (fun o => by rw [← hadm]; exact (h.sessions o).1) fun o ho => by rw [← hadm]; exact h.supplied o ho
        refine ⟨_, hnodup, fun o => by rw [hadm]; exact hmem o, hsorted, ?_⟩
        rw [h.reply, State.gridReply, hu, cutPairs]
        simp only [hadm]
        by_cases hg : given = kW
        · simp [hg, show min kW 60000 = given from rfl]
        · simp [hg, show min kW 60000 = given from rfl]
    · obtain ⟨t, ht, h⟩ := State.exec_grid_within hs hsound hle
      have hadm : ∀ o, t.admitted o = s.admitted o := h.claims.admitted
      have hcut : s.regridded given = { s with gridLimit := given } := if_neg (by omega)
      refine ⟨t, ht, h.claims.gridLimit, fun _ => ⟨h.kept, ?_⟩, h.sessions, h.supplied, .inl ?_,
        fun o q _ hlt => absurd hlt (by rw [hadm]; exact lt_irrefl _), h.decreased, fun hlt => absurd hlt (by omega),
        h.common, h.follows⟩
      · rw [h.reply, State.gridReply, show min kW 60000 = given from rfl, hcut, cutPairs_self]
        by_cases hg : given = kW
        · simp [hg]
        · simp [hg]
      · rcases h.claims.within with hw | hw
        · exact hw
        · have : t.claims = s.claims := by
            simp only [State.claims, hw]
            rfl
          rw [this]
          exact hle
end
